-- ==== Sys2Proof/Word.lean ====
section
/-!
DEFINITION. Sys2Proof/Word.lean: the word types. A register holds 48 bits (R59); bytes are the unit of frames, flash,
laser-module memory and host memory (R8).
-/
namespace Sys2Proof

/-- The 48 bits of one register slot (R59). -/
abbrev Word := BitVec 48

/-- One byte. -/
abbrev Byte := BitVec 8

/-- 2^48, the modulus of registers and counters. -/
abbrev wordMod : Nat := 281474976710656

end Sys2Proof
end

