-- ==== Sys2Proof/Syntax.lean ====
section
/-!
DEFINITION. Sys2Proof/Syntax.lean: the commands of the device, one constructor of `Instr` per row of
spec/opcode_table.json, with the operands each takes from outside: the access, address and data of a host command, and what
happens outside the device (light measured, frames and messages received, test outcomes, pins) for the other steps.
Readings and choices (notes/assumptions): DEDUCED 41; DESIGN CHOICE 3.
-/
namespace Sys2Proof

/-- The size of a host access (R60): an aligned 64-bit access, a 32-bit access to the low or high half of a slot, or any
other size or byte-enable pattern. -/
inductive AccSize where
  | w64 | lo | hi | bad
deriving DecidableEq, Repr

/-- Who makes a host access and how wide it is: the 8-bit function identifier (R50; bit 7 is the port, bits 6 to 0 the
function, 0 the physical one) and the size. -/
structure Req where
  fn   : Fin 256
  size : AccSize
deriving DecidableEq, Repr

/-- Where a host access points (R51, R52, R693): BAR0 of a physical function, its BAR2 (MSI-X table), a virtual function's
own BAR0, or a page window of its BAR2. -/
inductive BarAddr where
  | bar0   (off : Nat)
  | pfBar2 (off : Nat)
  | vfBar0 (off : Nat)
  | vfBar2 (off : Nat)
deriving DecidableEq, Repr

/-- How a self-test ends (R615). -/
inductive TestEnd where
  | passed | failed | ended
deriving DecidableEq, Repr

/-- What the DMA reads of a transmit descriptor meet (HIF source 7): both succeed; the read of the descriptor fails; that of the packet
data fails. -/
inductive DmaMet where
  | ok | descriptor | data
deriving DecidableEq, Repr

/-- What a management bus transaction meets (R142): the bytes read (empty for a write), no acknowledgement, or SCL held low. -/
inductive BusOutcome where
  | done (data : List Byte)
  | nack
  | timeout
deriving DecidableEq, Repr

/-- What a bus recovery finds (R143): SDA high at once; freed by the pulses; the position's segment held low and isolated; or
SDA still low with no position selected. -/
inductive Recovery where
  | clear
  | freed
  | isolated
  | busStuck
deriving DecidableEq, Repr

/-- Why a bus recovery runs (R143): a write of MGB_CTL, a TIMEOUT, or the controller leaving reset. -/
inductive RecoverWhy where
  | write (r : Req) (data : Word)
  | timeout
  | reset
deriving DecidableEq, Repr

/-- One sample of a module (R126): CASE_T in 1/256 °C, currents in 0.1 mA, monitor powers in 0.01 dBm, FAULT_LASER. -/
structure LaserSample where
  caseT  : Int
  drive  : List Nat
  mon    : List Int
  faults : Fin 16
deriving DecidableEq, Repr

/-- How the write of a calibration slot ends (R166): done on both devices, or with a program or erase error on FA or FB. -/
inductive CalOutcome where
  | done
  | failA
  | failB
deriving DecidableEq, Repr

/-- Why a calibration slot write starts (R166): a write of CAL_CMD, or the first full lock under AUTO_SAVE. -/
inductive CalWhy where
  | write (r : Req) (data : Word)
  | auto
deriving DecidableEq, Repr

/-- What the check bits of a fetched word show (R213). -/
inductive FetchCheck where
  | good
  | corrected
  | bad
deriving DecidableEq, Repr

/-- A sequencer thread issues a word: sequencer, thread, the word that the ROM delivers at the thread's address (its contents
are not published), what the check bits show, and conditions 0 to 31, which come from outside (R220). -/
structure Issue where
  n     : Fin 96
  t     : Fin 9
  rom   : BitVec 24
  check : FetchCheck
  conds : BitVec 32
deriving DecidableEq, Repr

/-- What an EXEC's nano-word does to its thread (R216): the fields inside its groups are not published. -/
structure NanoDone where
  check   : FetchCheck
  writes  : List (Fin 16 × BitVec 24)
  flags   : Option (Bool × Bool × Bool)
  setEf   : BitVec 16
  clrEf   : BitVec 16
  kick    : Bool
deriving DecidableEq, Repr

/-- Why a sequencer is resynchronised (R235): its domain has come on, or its page is block-reset. -/
inductive ResyncWhy where
  | domain
  | block
deriving DecidableEq, Repr

/-- What the load of an image copy meets beside its contents (R231, R234). -/
inductive CopyFault where
  | none
  | readError
  | stagingWrite
deriving DecidableEq, Repr

/-- How the group thread serves a mailbox command (R237): not yet taken, or done with its two results. -/
inductive Served where
  | waiting
  | done (a b : BitVec 48)
deriving DecidableEq, Repr

/-- What befell a frame as it was received, as the PCS delivers it (R244, R250): whole; with an error block; ended by ABORT; in
progress as the lane set changed. -/
inductive RxFate where
  | whole | codeError | abort | lost
deriving DecidableEq, Repr

/-- How transmission went (R273): data in time; a tag check that fails; data too late. -/
inductive TxFate where
  | sent | tagFails | underrun
deriving DecidableEq, Repr

/-- A row of buffer memory whose cells showed an ECC error as they were read (R471), uncorrectable or corrected. -/
structure RowHit where
  row : Fin 81920
  bad : Bool
deriving DecidableEq, Repr


/-- What a memory check finds: nothing, an error that ECC corrects, or one that it does not. -/
inductive EccFound where
  | clean
  | fixed
  | lost
deriving DecidableEq, Repr


/-- What the checks of a station find as a packet passes (R369 to R371, R422): nothing; a parity error in its PHV; a slot whose
result fails its check; an error in a program or instruction read, corrected or not; an uncorrectable error in an entry of a
table, or of a stateful element. -/
inductive StnUpset where
  | none
  | parity
  | alu
  | codeFixed
  | codeLost
  | entryLost (tb : Fin 1024) (i : Nat)
  | elementLost
deriving DecidableEq, Repr

/-- What the checks of a deparser find (R368, R369, R371): nothing, a parity error, a tag that does not match, an error in the
field map or a template, corrected or not. -/
inductive DprUpset where
  | none
  | parity
  | tag
  | fixed
  | lost
deriving DecidableEq, Repr

/-- How a benchmark probe ends (R373): it passes, fails once, or fails twice. -/
inductive ProbeEnd where
  | pass
  | once
  | twice
deriving DecidableEq, Repr


/-- What the read of a chunk finds (R531): no error, an error that the code corrects, or an uncorrectable one: in the bytes of packet
`id`, in the header of the record behind the first `kept` ones, in the chunk header with NEXT2 readable, or in NEXT and NEXT2. -/
inductive ChunkFound where
  | clean
  | fixed
  | bytes (id : Nat)
  | header (kept : Nat)
  | next2
  | chain
deriving DecidableEq, Repr

/-- An error that a read of HBM finds: the 64-byte unit of the device address space, and whether the code corrects it. -/
structure HbmFound where
  unit  : Nat
  fixed : Bool
deriving DecidableEq, Repr


/-- What the discovery of a flash device finds (R644): none; or a device of 2^`log` bytes, with an SFDP table (or none) and a
4 KiB erase (or none). -/
inductive FlashFound where
  | absent
  | found (log : Fin 64) (sfdp erase4k : Bool)
deriving DecidableEq, Repr

/-- What the device meets when power-on reset ends (R629, R641, R652, R681): the two flash devices, whether an OTP program of a
recovered transition succeeds, and whether VDD_AON stayed present since the last trip. -/
structure Boot where
  fa        : FlashFound
  fb        : FlashFound
  otpOk     : Bool
  aonStayed : Bool
deriving DecidableEq, Repr

/-- What a device soft reset meets: the two flash devices, and whether the wear records that the fall of LM_EN writes are written. -/
structure Restart where
  fa     : FlashFound
  fb     : FlashFound
  wearOk : Bool
deriving DecidableEq, Repr

/-- How a flash operation ends (R644): done, a device error, or no completion within 400 ms. -/
inductive FlashEnd where
  | done | error | timeout
deriving DecidableEq, Repr

/-- How a life-cycle transition ends (R651): its COMMIT written; or the OTP program of its action, or of its COMMIT, failed. -/
inductive LifeEnd where
  | done | actionFails | commitFails
deriving DecidableEq, Repr

/-- The commands, in the order of spec/opcode_table.json. Each docstring gives the row's mnemonic and rule. -/
inductive Instr where
  /-- REGISTER_WRITE (R70). -/
  | registerWrite (r : Req) (at_ : BarAddr) (data : BitVec 64)
  /-- ERR_ADDR_READ (R691). -/
  | errAddrRead (r : Req) (h : Fin 2)
  /-- REG_TIMEOUT (R32). -/
  | regTimeout (r : Req) (at_ : BarAddr) (write : Bool)
  /-- UNACCEPTED_FUNCTION_REQUEST (R692). -/
  | unacceptedFunctionRequest (fn : Fin 256) (write : Bool)
  /-- BULK_WINDOW_ACCESS (R68). -/
  | bulkWindowAccess (r : Req) (n : Fin 8) (off : Fin 16777216) (data : Option (BitVec 64)) (ecc : EccFound)
  /-- PAGE_OWNER_WRITE (R70). -/
  | pageOwnerWrite (r : Req) (page : Nat) (data : Word)
  /-- PAGE_LOCK_SET (R15). -/
  | pageLockSet (r : Req) (page : Nat) (data : Word)
  /-- PAGE_ENABLE_WRITE (R607). -/
  | pageEnableWrite (r : Req) (page : Nat) (data : Word)
  /-- TEST_REQ_WRITE (R607). -/
  | testReqWrite (r : Req) (page : Nat) (data : Word)
  /-- BLOCK_RESET (R690). -/
  | blockReset (r : Req) (page : Nat) (data : Word) (wearOk : Bool)
  /-- EVENT_STATUS_CLEAR (R612). -/
  | eventStatusClear (r : Req) (page : Nat) (data : Word)
  /-- EVENT_ENABLE_WRITE (R56). -/
  | eventEnableWrite (r : Req) (page : Nat) (data : Word)
  /-- LOG_SNAPSHOT (R81). -/
  | logSnapshot (r : Req) (h : Fin 2) (data : Word)
  /-- VFE_LOG_SNAP (R81). -/
  | vfeLogSnap (r : Req) (data : Word)
  /-- SELFTEST_RUN (R615). -/
  | selftestRun (r : Req) (page : Nat) (data : Word)
  /-- SELFTEST_COMPLETE (R615). -/
  | selftestComplete (page : Nat) (met : TestEnd) (detail : BitVec 32)
  /-- RING_TAIL_WRITE (R84). -/
  | ringTailWrite (r : Req) (ring : Nat) (data : Word)
  /-- RX_RING_DELIVERY (R86). -/
  | rxRingDelivery (ring : Nat) (posted : List (List Byte)) (readOk : Bool)
  /-- TX_DESCRIPTOR (R88). -/
  | txDescriptor (ring : Nat) (desc data : List Byte) (met : DmaMet)
  /-- FUNCTION_LEVEL_RESET (R89). -/
  | functionLevelReset (fn : Fin 256)
  /-- HOST_LINK_DOWN (R46). -/
  | hostLinkDown (h : Fin 2)
  /-- HOST_POWER_STATE (R49). -/
  | hostPowerState (fn : Fin 256) (mse bme d3hot : Bool)
  /-- PERST_ASSERT (R640). -/
  | perstAssert (h : Fin 2)
  /-- PERST_DEASSERT (R642). -/
  | perstDeassert (h : Fin 2)
  /-- BUF_QUOTA_WRITE (R101). -/
  | bufQuotaWrite (r : Req) (p : Fin 4096) (data : Word)
  /-- PARCEL_CFG_WRITE (R101). -/
  | parcelCfgWrite (r : Req) (p : Fin 4096) (data : Word)
  /-- RATE_QUOTA_WRITE (R103). -/
  | rateQuotaWrite (r : Req) (p : Fin 4096) (data : Word)
  /-- QUOTA_PROFILE_READ (R102). -/
  | quotaProfileRead (r : Req) (index : Fin 65536)
  /-- QUOTA_PROFILE_WRITE (R102). -/
  | quotaProfileWrite (r : Req) (index : Fin 65536)
  /-- FUNCTION_BINDING_READ (R96). -/
  | functionBindingRead (r : Req) (index : Fin 65536)
  /-- FUNCTION_BINDING_WRITE (R96). -/
  | functionBindingWrite (r : Req) (index : Fin 65536)
  /-- EASEMENT_READ (R111). -/
  | easementRead (r : Req) (index : Fin 65536)
  /-- EASEMENT_WRITE (R111). -/
  | easementWrite (r : Req) (index : Fin 65536)
  /-- PAGE_WINDOW_READ (R693). -/
  | pageWindowRead (r : Req) (index : Fin 65536)
  /-- PAGE_WINDOW_WRITE (R693). -/
  | pageWindowWrite (r : Req) (index : Fin 65536)
  /-- CMD_TAIL_WRITE (R112). -/
  | cmdTailWrite (r : Req) (c : Fin 4) (data : Word)
  /-- TENANT_COMMAND_DESCRIPTOR (R114). -/
  | tenantCommandDescriptor (fn : Fin 256) (c : Fin 4) (desc : Option (List Byte))
  /-- PRESENCE_DEBOUNCED (R140). -/
  | presenceDebounced (n : Fin 36) (seated : Bool)
  /-- IDENTITY_READ (R125). -/
  | identityRead (n : Fin 36) (ident : Option (List Byte)) (adj : Int) (wear : List Byte)
  /-- LM_EN_RISE (R119). -/
  | lmEnRise (n : Fin 36)
  /-- INTERLOCK_OPEN (R119). -/
  | interlockOpen (n : Fin 36) (wearOk : Bool)
  /-- WARMING_DONE (R121). -/
  | warmingDone (n : Fin 36)
  /-- WARMING_TIMEOUT (R121). -/
  | warmingTimeout (n : Fin 36) (late : Fin 16)
  /-- FEED_CHOICE (R117). -/
  | feedChoice (k : Fin 18)
  /-- WEAR_SAMPLE (R126). -/
  | wearSample (n : Fin 36) (sample : Option LaserSample)
  /-- WEAR_RECORD_PERIODIC (R130). -/
  | wearRecordPeriodic (n : Fin 36) (wearOk : Bool)
  /-- LMP_SAVE (R130). -/
  | lmpSave (r : Req) (n : Fin 36) (data : Word) (wearOk : Bool)
  /-- LMP_ENABLE_WRITE (R119). -/
  | lmpEnableWrite (r : Req) (n : Fin 36) (data : Word) (wearOk : Bool)
  /-- FEED_FAILURE (R131). -/
  | feedFailure (n : Fin 36) (w : Fin 4)
  /-- LM_FAULT_ASSERT (R131). -/
  | lmFaultAssert (n : Fin 36)
  /-- FEED_SWITCH (R133). -/
  | feedSwitch (k : Fin 18) (w : Fin 4) (wearOk : Bool)
  /-- STANDBY_CLOSURE_RUN (R136). -/
  | standbyClosureRun (n : Fin 36) (w : Fin 4) (first second : Int) (biasOk : Bool)
  /-- LMP_TAKE (R135). -/
  | lmpTake (r : Req) (n : Fin 36) (data : Word)
  /-- LMP_SWAP_REQ (R139). -/
  | lmpSwapReq (r : Req) (n : Fin 36) (data : Word) (wearOk : Bool)
  /-- SWAP_RETRY (R139). -/
  | swapRetry (n : Fin 36) (wearOk : Bool)
  /-- LMP_RETRY (R144). -/
  | lmpRetry (r : Req) (n : Fin 36) (data : Word) (found : Recovery)
  /-- MODULE_MEM_READ (R122). -/
  | moduleMemRead (r : Req) (n : Fin 36) (data : Word)
  /-- MODULE_MEM_WRITE (R122). -/
  | moduleMemWrite (r : Req) (n : Fin 36) (data : Word)
  /-- MGB_TRANSACTION (R142). -/
  | mgbTransaction (b : Fin 9) (pos : Fin 4) (met : BusOutcome)
  /-- MGB_RECOVER (R143). -/
  | mgbRecover (b : Fin 9) (why : RecoverWhy) (found : Recovery)
  /-- FAU_PRESENCE_CHANGE (R147). -/
  | fauPresenceChange (k : Fin 18) (present : Bool)
  /-- OPTICAL_SIGNAL_DETECT (R154). -/
  | opticalSignalDetect (l : Fin 576) (power : Int)
  /-- RING_HOLD_UPDATE (R156). -/
  | ringHoldUpdate (l : Fin 576)
  /-- RING_LOCK_FOUND (R158). -/
  | ringLockFound (l : Fin 576) (code : Fin 65536)
  /-- RING_SEEK_TIMEOUT (R159). -/
  | ringSeekTimeout (l : Fin 576)
  /-- RING_LIMIT (R159). -/
  | ringLimit (l : Fin 576) (top : Bool)
  /-- RING_LIMIT_RELEASE (R159). -/
  | ringLimitRelease (l : Fin 576)
  /-- RING_UNLOCK (R160). -/
  | ringUnlock (l : Fin 576)
  /-- RING_FREEZE (R161). -/
  | ringFreeze (l : Fin 576)
  /-- RING_UNFREEZE (R161). -/
  | ringUnfreeze (l : Fin 576)
  /-- FROZEN_HOLD_EXPIRY (R161). -/
  | frozenHoldExpiry (l : Fin 576)
  /-- CAL_SAVE (R166). -/
  | calSave (k : Fin 18) (why : CalWhy)
  /-- CAL_WRITE_DONE (R166). -/
  | calWriteDone (k : Fin 18) (met : CalOutcome)
  /-- LOS_HOLD_EXPIRY (R169). -/
  | losHoldExpiry (l : Fin 576)
  /-- MOVE_REQ_REPEAT (R255). -/
  | moveReqRepeat (lp : Fin 768)
  /-- MOVE_ACK_TIMEOUT (R171). -/
  | moveAckTimeout (lp : Fin 768)
  /-- MOVE_REQ (R255). -/
  | moveReq (lp : Fin 768) (msg : List Byte)
  /-- MOVE_ACK (R171). -/
  | moveAck (lp : Fin 768) (msg : List Byte)
  /-- RESTORE_REQ (R255). -/
  | restoreReq (lp : Fin 768) (msg : List Byte)
  /-- RESTORE_ACK (R172). -/
  | restoreAck (lp : Fin 768) (msg : List Byte)
  /-- SPARE_RESTORE (R172). -/
  | spareRestore (r : Req) (k : Fin 18) (data : Word)
  /-- TAP_CLOSURE_RUN (R174). -/
  | tapClosureRun (l : Fin 576) (first second : Bool)
  /-- TAP_SEL_WRITE (R175). -/
  | tapSelWrite (r : Req) (k : Fin 18) (data : Word)
  /-- TX_POWER_LOW (R152). -/
  | txPowerLow (l : Fin 576) (power : Int)
  /-- DETECT_POLL (R195). -/
  | detectPoll (l : Fin 768) (present : Bool)
  /-- BACKOFF_EXPIRY (R196). -/
  | backoffExpiry (l : Fin 768) (present : Bool)
  /-- TRAIN_START (R200). -/
  | trainStart (l : Fin 768)
  /-- AUTONEG_COMPLETE (R201). -/
  | autonegComplete (l : Fin 192) (rate : Option (Fin 4))
  /-- TRAINING_FRAME (R184). -/
  | trainingFrame (l : Fin 768) (control status : BitVec 32) (adapted : Bool)
  /-- TRAIN_COMPLETE (R186). -/
  | trainComplete (l : Fin 768)
  /-- TRAIN_TIMEOUT (R194). -/
  | trainTimeout (l : Fin 768)
  /-- LOCK_GAINED (R198). -/
  | lockGained (l : Fin 768)
  /-- LOCK_LOST (R198). -/
  | lockLost (l : Fin 768)
  /-- LOCK_TIMEOUT (R194). -/
  | lockTimeout (l : Fin 768)
  /-- PORT_LOCK_TIMEOUT (R199). -/
  | portLockTimeout (lp : Fin 768)
  /-- TIE_IN (R253). -/
  | tieIn (l : Fin 768) (msg : List Byte)
  /-- TIEIN_SEND (R252). -/
  | tieinSend (l : Fin 768)
  /-- TIEIN_TIMEOUT (R254). -/
  | tieinTimeout (lp : Fin 768)
  /-- PCS_LINK_UP (R201). -/
  | pcsLinkUp (lp : Fin 768)
  /-- SIGNAL_DETECT_CHANGE (R189). -/
  | signalDetectChange (l : Fin 192) (millivolts : Nat)
  /-- LANE_LOSS (R202). -/
  | laneLoss (l : Fin 768)
  /-- BER_WINDOW_CLOSE (R203). -/
  | berWindowClose (l : Fin 768) (corrected received : Nat)
  /-- TX_EQ_WRITE (R192). -/
  | txEqWrite (r : Req) (l : Fin 192) (data : Word)
  /-- PAT_CTL_WRITE (R208). -/
  | patCtlWrite (r : Req) (l : Fin 768) (data : Word)
  /-- PAT_LOCK_LOST (R208). -/
  | patLockLost (l : Fin 768) (bits errors : Nat)
  /-- INJ_FIRE (R209). -/
  | injFire (r : Req) (l : Fin 768) (data : Word)
  /-- MW_EXEC (R217). -/
  | mwExec (i : Issue) (d : NanoDone)
  /-- MW_BRANCH (R219). -/
  | mwBranch (i : Issue)
  /-- MW_WAIT (R221). -/
  | mwWait (i : Issue)
  /-- WAIT_CONDITION_MET (R221). -/
  | waitConditionMet (n : Fin 96) (t : Fin 9) (conds : BitVec 32)
  /-- WAIT_TIMEOUT (R221). -/
  | waitTimeout (n : Fin 96) (t : Fin 9)
  /-- CTRL_JUMP (R217). -/
  | ctrlJump (i : Issue)
  /-- CTRL_CALL (R217). -/
  | ctrlCall (i : Issue)
  /-- CTRL_RETURN (R217). -/
  | ctrlReturn (i : Issue) (popBad : Bool)
  /-- CTRL_RETT (R224). -/
  | ctrlRett (i : Issue)
  /-- CTRL_TRAP (R223). -/
  | ctrlTrap (i : Issue)
  /-- CTRL_KICK (R226). -/
  | ctrlKick (i : Issue)
  /-- CTRL_SIG (R217). -/
  | ctrlSig (i : Issue)
  /-- CTRL_CLR (R217). -/
  | ctrlClr (i : Issue)
  /-- CTRL_STKCLR (R224). -/
  | ctrlStkclr (i : Issue)
  /-- CTRL_VERT (R217). -/
  | ctrlVert (i : Issue)
  /-- CTRL_HALT (R217). -/
  | ctrlHalt (i : Issue)
  /-- V_NOP (R222). -/
  | vNop (i : Issue)
  /-- V_LDI (R222). -/
  | vLdi (i : Issue)
  /-- V_ALU (R222). -/
  | vAlu (i : Issue)
  /-- V_LRD (R222). -/
  | vLrd (i : Issue)
  /-- V_LWR (R222). -/
  | vLwr (i : Issue)
  /-- V_JMP (R222). -/
  | vJmp (i : Issue)
  /-- V_BRC (R222). -/
  | vBrc (i : Issue)
  /-- V_WAITV (R222). -/
  | vWaitv (i : Issue)
  /-- V_CALLV (R222). -/
  | vCallv (i : Issue)
  /-- V_RETV (R222). -/
  | vRetv (i : Issue) (popBad : Bool)
  /-- V_ENTER (R222). -/
  | vEnter (i : Issue)
  /-- V_EVT (R222). -/
  | vEvt (i : Issue)
  /-- V_RESTART (R227). -/
  | vRestart (i : Issue)
  /-- V_EXT (R222). -/
  | vExt (i : Issue)
  /-- V_TEST (R222). -/
  | vTest (i : Issue) (result : BitVec 24)
  /-- V_STOP (R222). -/
  | vStop (i : Issue)
  /-- WATCHDOG_EXPIRY (R226). -/
  | watchdogExpiry (n : Fin 96) (t : Fin 9)
  /-- ALL_WAIT_FIRE (R229). -/
  | allWaitFire (n : Fin 96)
  /-- SEQ_STORE_SCRUB (R215). -/
  | seqStoreScrub (n : Fin 96) (corrected : Nat) (bad : Bool)
  /-- STORE_RECOVERY (R234). -/
  | storeRecovery (n : Fin 96)
  /-- STAGING_WRITE (R234). -/
  | stagingWrite
  /-- IMG_RELOAD (R232). -/
  | imgReload (r : Req) (data : Word)
  /-- IMAGE_LOAD (R232). -/
  | imageLoad (met : CopyFault)
  /-- IMG_LOADED (R232). -/
  | imgLoaded
  /-- SEQUENCER_RESYNC (R235). -/
  | sequencerResync (n : Fin 96) (why : ResyncWhy)
  /-- THREAD_STATUS (R238). -/
  | threadStatus (r : Req) (n : Fin 96) (data : Word)
  /-- RESTART_THREAD (R238). -/
  | restartThread (r : Req) (n : Fin 96) (data : Word)
  /-- RESYNC (R238). -/
  | resync (r : Req) (n : Fin 96) (data : Word)
  /-- HALT_THREAD (R238). -/
  | haltThread (r : Req) (n : Fin 96) (data : Word)
  /-- READ_REG (R238). -/
  | readReg (r : Req) (n : Fin 96) (data : Word)
  /-- READ_STORE (R238). -/
  | readStore (r : Req) (n : Fin 96) (data : Word) (rom : BitVec 24)
  /-- EYE_SCAN (R238). -/
  | eyeScan (r : Req) (n : Fin 96) (data : Word) (met : Served)
  /-- STORE_CHECK (R238). -/
  | storeCheck (r : Req) (n : Fin 96) (data : Word) (met : Served)
  /-- MBX_NOT_TAKEN (R237). -/
  | mbxNotTaken (n : Fin 96)
  /-- BREAKOUT_WRITE (R242). -/
  | breakoutWrite (r : Req) (pe : Fin 192) (data : Word)
  /-- LP_ENABLE_WRITE (R695). -/
  | lpEnableWrite (r : Req) (lp : Fin 768) (data : Word)
  /-- RX_FRAME (R244). -/
  | rxFrame (lp : Fin 768) (bytes : List Byte) (early : Bool) (fate : RxFate)
  /-- PAUSE_TIMER_EXPIRY (R261). -/
  | pauseTimerExpiry (lp : Fin 768) (c : Fin 8)
  /-- TX_FRAME (R243). -/
  | txFrame (id : Nat) (fate : TxFate) (started : Bool) (laneLost : Bool) (rows : List RowHit)
  /-- TS_META_READ (R270). -/
  | tsMetaRead (r : Req) (pe : Fin 192)
  /-- XOFF_REFRESH (R263). -/
  | xoffRefresh (lp : Fin 768)
  /-- PFC_STORM (R264). -/
  | pfcStorm (lp : Fin 768) (c : Fin 8)
  /-- PFC_STORM_END (R264). -/
  | pfcStormEnd (lp : Fin 768) (c : Fin 8)
  /-- LINK_UP (R256). -/
  | linkUp (lp : Fin 768)
  /-- LINK_FAULT_TIMEOUT (R256). -/
  | linkFaultTimeout (lp : Fin 768) (remote : Bool)
  /-- MACSEC_RX_FRAME (R285). -/
  | macsecRxFrame (id : Nat) (truncated overrun : Bool)
  /-- MACSEC_TX_FRAME (R283). -/
  | macsecTxFrame (id : Nat)
  /-- REKEY_RETIRE (R290). -/
  | rekeyRetire
  /-- DUAL_RAIL_MISMATCH (R293). -/
  | dualRailMismatch (g : Fin 24) (pair : Fin 5) (id : Nat) (others : List Nat)
  /-- KAT_COMPLETE (R293). -/
  | katComplete (g : Fin 24) (pair : Fin 5) (pass : Bool)
  /-- SPARE_PAIR_KAT (R295). -/
  | sparePairKat (g : Fin 24) (first second : Bool)
  /-- PAIR_READMIT (R294). -/
  | pairReadmit (r : Req) (g : Fin 24) (data : Word) (pass : Fin 32)
  /-- KEY_LOCK_ACQUIRE (R299). -/
  | keyLockAcquire (r : Req) (data : Word)
  /-- KEY_LOCK_RELEASE (R301). -/
  | keyLockRelease (r : Req) (data : Word)
  /-- KEY_LOCK_BREAK (R302). -/
  | keyLockBreak (r : Req) (data : Word)
  /-- KEY_STAGING_WRITE (R300). -/
  | keyStagingWrite (r : Req) (reg : Fin 9) (data : Word)
  /-- SC_READ (R300). -/
  | scRead (r : Req) (data : Word)
  /-- SC_WRITE (R281). -/
  | scWrite (r : Req) (data : Word)
  /-- SC_DELETE (R281). -/
  | scDelete (r : Req) (data : Word)
  /-- SA_READ (R300). -/
  | saRead (r : Req) (data : Word)
  /-- SA_INSTALL (R298). -/
  | saInstall (r : Req) (data : Word)
  /-- SA_DELETE (R300). -/
  | saDelete (r : Req) (data : Word)
  /-- SA_SET_NEXT (R289). -/
  | saSetNext (r : Req) (data : Word)
  /-- PN_EVENT_READ (R287). -/
  | pnEventRead (r : Req)
  /-- PARSE_PACKET (R308). -/
  | parsePacket (id : Nat) (ecc : EccFound)
  /-- PRS_IND_READ (R337). -/
  | prsIndRead (r : Req) (t : Fin 25) (data : Word)
  /-- PRS_IND_WRITE (R337). -/
  | prsIndWrite (r : Req) (t : Fin 25) (data : Word)
  /-- PRS_IND_INSERT (R317). -/
  | prsIndInsert (r : Req) (t : Fin 25) (data : Word)
  /-- PRS_IND_DELETE (R317). -/
  | prsIndDelete (r : Req) (t : Fin 25) (data : Word)
  /-- PRS_IND_VALIDATE (R325). -/
  | prsIndValidate (r : Req) (t : Fin 25) (data : Word)
  /-- PRS_IND_CLEAR (R325). -/
  | prsIndClear (r : Req) (t : Fin 25) (data : Word)
  /-- FLIP_NOW (R327). -/
  | flipNow (r : Req) (t : Fin 25) (data : Word)
  /-- FLIP_ARM (R328). -/
  | flipArm (r : Req) (t : Fin 25) (data : Word)
  /-- FLIP_DISARM (R328). -/
  | flipDisarm (r : Req) (t : Fin 25) (data : Word)
  /-- SCHEDULED_FLIP (R328). -/
  | scheduledFlip (t : Fin 25)
  /-- PRS_SCRUB (R336). -/
  | prsScrub (t : Fin 25) (ecc : EccFound) (bank : Fin 3)
  /-- STATION_PROCESS (R346). -/
  | stationProcess (id : Nat) (upset : StnUpset)
  /-- RESOLUTION (R359). -/
  | resolution (id : Nat) (parity flowBad : Bool)
  /-- DEPARSE (R364). -/
  | deparse (id : Nat) (upset : DprUpset)
  /-- PROBE_INJECT (R372). -/
  | probeInject (t : Fin 25) (ingress egress : ProbeEnd)
  /-- STN_SCRUB (R371). -/
  | stnScrub (t : Fin 25) (unit : Fin 21) (ecc : EccFound)
  /-- AUTO_TAKEOVER (R376). -/
  | autoTakeover (g : Fin 24)
  /-- SPARE_TAKEOVER (R381). -/
  | spareTakeover (r : Req) (data : Word)
  /-- SPARE_RETURN (R382). -/
  | spareReturn (r : Req) (data : Word)
  /-- SPARE_CLEARING_DONE (R383). -/
  | spareClearingDone
  /-- T24_CLOSURE_SELFTEST (R384). -/
  | t24ClosureSelftest (bad : Option (Fin 22))
  /-- LT_CFG_WRITE (R348). -/
  | ltCfgWrite (r : Req) (t : Fin 25) (k : Fin 20) (lt : Option (Fin 8)) (data : Word)
  /-- SE_CFG_WRITE (R391). -/
  | seCfgWrite (r : Req) (t : Fin 25) (k : Fin 20) (e : Fin 8) (data : Word)
  /-- BRIDGE_MASK_WRITE (R387). -/
  | bridgeMaskWrite (r : Req) (t : Fin 25) (i : Fin 4) (data : Word)
  /-- STN_IND_READ (R388). -/
  | stnIndRead (r : Req) (t : Fin 25) (k : Fin 20) (data : Word)
  /-- STN_IND_WRITE (R388). -/
  | stnIndWrite (r : Req) (t : Fin 25) (k : Fin 20) (data : Word)
  /-- STN_IND_READ_CLEAR (R388). -/
  | stnIndReadClear (r : Req) (t : Fin 25) (k : Fin 20) (data : Word)
  /-- DPR_IND_READ (R388). -/
  | dprIndRead (r : Req) (t : Fin 25) (data : Word)
  /-- DPR_IND_WRITE (R365). -/
  | dprIndWrite (r : Req) (t : Fin 25) (data : Word)
  /-- TBC_READ (R408). -/
  | tbcRead (r : Req) (t : Fin 25) (data : Word)
  /-- TBC_WRITE (R408). -/
  | tbcWrite (r : Req) (t : Fin 25) (data : Word)
  /-- TBC_INSERT (R397). -/
  | tbcInsert (r : Req) (t : Fin 25) (data : Word)
  /-- TBC_DELETE (R408). -/
  | tbcDelete (r : Req) (t : Fin 25) (data : Word)
  /-- TBC_SEARCH (R408). -/
  | tbcSearch (r : Req) (t : Fin 25) (data : Word)
  /-- TBC_UPDATE_ACTION (R408). -/
  | tbcUpdateAction (r : Req) (t : Fin 25) (data : Word)
  /-- TBC_AGE_QUERY (R408). -/
  | tbcAgeQuery (r : Req) (t : Fin 25) (data : Word)
  /-- TBC_AGE_TOUCH (R408). -/
  | tbcAgeTouch (r : Req) (t : Fin 25) (data : Word)
  /-- TBC_AGE_CLEAR (R408). -/
  | tbcAgeClear (r : Req) (t : Fin 25) (data : Word)
  /-- TBC_AGE_SWEEP (R419). -/
  | tbcAgeSweep (r : Req) (t : Fin 25) (data : Word)
  /-- TBC_DESC_READ (R408). -/
  | tbcDescRead (r : Req) (t : Fin 25) (data : Word)
  /-- TBC_DESC_WRITE (R391). -/
  | tbcDescWrite (r : Req) (t : Fin 25) (data : Word)
  /-- TBC_COUNT_READ (R408). -/
  | tbcCountRead (r : Req) (t : Fin 25) (data : Word)
  /-- TBC_BROADCAST_DONE (R410). -/
  | tbcBroadcastDone (t : Fin 25)
  /-- LEARN_APPLY (R415). -/
  | learnApply (t : Fin 25)
  /-- NOTE0_READ (R417). -/
  | note0Read (r : Req) (t : Fin 25)
  /-- FLOOD_READ (R418). -/
  | floodRead (r : Req) (t : Fin 25) (data : Word)
  /-- FLOOD_WRITE (R418). -/
  | floodWrite (r : Req) (t : Fin 25) (data : Word)
  /-- AGE_SWEEP_PERIODIC (R419). -/
  | ageSweepPeriodic (t : Fin 25) (tb : Fin 1024) (late : Bool)
  /-- CACHE_MISS_FILL (R403). -/
  | cacheMissFill (t : Fin 25) (line : Nat) (ecc : EccFound)
  /-- CACHE_WRITEBACK (R404). -/
  | cacheWriteback
  /-- TABLE_SCRUB (R420). -/
  | tableScrub (t : Fin 25) (b : Fin 160) (ecc : EccFound) (again pass : Bool) (lostAt : Option (Fin 1024 × Nat)) (way : Option (Fin 16384))
  /-- TCAM_SHADOW_COMPARE (R423). -/
  | tcamShadowCompare (t : Fin 25) (ecc : EccFound) (tb : Fin 1024) (row : Nat)
  /-- SPARE_ROW_MARCH (R421). -/
  | spareRowMarch (t : Fin 25) (b : Fin 160) (pass : Bool)
  /-- MEMBER_REJOIN (R427). -/
  | memberRejoin (lp : Fin 768)
  /-- RESTORE_RECORD (R438). -/
  | restoreRecord (id : Nat) (arrived : Option Nat)
  /-- RESTORE_TIMEOUT (R439). -/
  | restoreTimeout (c : Fin 65536)
  /-- SPR_IND_READ (R447). -/
  | sprIndRead (r : Req) (data : Word)
  /-- SPR_IND_WRITE (R447). -/
  | sprIndWrite (r : Req) (data : Word)
  /-- CARVE_APPLY (R453). -/
  | carveApply (r : Req) (data : Word)
  /-- PSET_READ (R455). -/
  | psetRead (r : Req) (data : Word)
  /-- PSET_WRITE (R455). -/
  | psetWrite (r : Req) (data : Word)
  /-- BUFFER_FREE (R461). -/
  | bufferFree (kind : Fin 8) (unit : Fin 32) (cell : Nat) (holder : Bool)
  /-- LEAK_AUDIT (R469). -/
  | leakAudit
  /-- BUFFER_ROW_TEST (R472). -/
  | bufferRowTest (row : Nat) (pass : Bool)
  /-- ROW_READMIT (R472). -/
  | rowReadmit (r : Req) (data : Word) (pass : List Nat)
  /-- BPM_META_SCRUB (R473). -/
  | bpmMetaScrub (ecc : EccFound)
  /-- ISLAND_CTL_WRITE (R474). -/
  | islandCtlWrite (r : Req) (data : Word)
  /-- ISLAND_OUT (R474). -/
  | islandOut (b : Fin 4)
  /-- PACKET_ADMISSION (R479). -/
  | packetAdmission (id : Nat) (arrived : Option Nat)
  /-- REPLICATION (R483). -/
  | replication
  /-- DEQUEUE (R487). -/
  | dequeue (lp : Fin 768)
  /-- AGEING_VISIT (R497). -/
  | ageingVisit (n : Fin 16384)
  /-- LAUNCH_ELIGIBLE (R556). -/
  | launchEligible (n : Fin 16384)
  /-- HOLD_EXPIRY (R504). -/
  | holdExpiry (lp : Fin 768)
  /-- TMC_IND_READ (R508). -/
  | tmcIndRead (r : Req) (data : Word)
  /-- TMC_IND_WRITE (R508). -/
  | tmcIndWrite (r : Req) (data : Word)
  /-- Q_CFG_WRITE (R489). -/
  | qCfgWrite (r : Req) (n : Fin 12288) (data : Word)
  /-- PG_CFG_WRITE (R490). -/
  | pgCfgWrite (r : Req) (lp : Fin 768) (c : Fin 8) (data : Word)
  /-- TM_SCRUB (R506). -/
  | tmScrub (ecc : EccFound)
  /-- STACK_TRAINED (R511). -/
  | stackTrained (h : Fin 4)
  /-- LAYOUT_APPLY (R514). -/
  | layoutApply (r : Req) (data : Word)
  /-- CHUNK_WRITE (R517). -/
  | chunkWrite (chunk : Nat)
  /-- OPEN_CHUNK_TIMEOUT (R517). -/
  | openChunkTimeout (n : Fin 16384)
  /-- CHUNK_READ_LANDED (R519). -/
  | chunkReadLanded (n : Fin 16384) (found : ChunkFound) (unit : Nat)
  /-- REFRESH_DUE (R523). -/
  | refreshDue (pc : Fin 256) (bank : Nat) (waiting : Bool)
  /-- STACK_TEMP_SAMPLE (R523). -/
  | stackTempSample (h : Fin 4) (temp : Int)
  /-- WRITE_BURST (R524). -/
  | writeBurst (pc : Fin 256) (held : Nat)
  /-- RES_APPLY (R528). -/
  | resApply (r : Req) (data : Word)
  /-- HBM_SCRUB (R532). -/
  | hbmScrub (found : List HbmFound) (late : Bool)
  /-- HBM_ROW_SELFTEST (R533). -/
  | hbmRowSelftest (pc : Fin 256) (pass readable : Bool)
  /-- RELOCATION_DONE (R534). -/
  | relocationDone (h : Fin 4)
  /-- W_SET (R541). -/
  | wSet (r : Req) (data : Word)
  /-- DATUM_STEP (R543). -/
  | datumStep (r : Req) (b : Bool) (data : Word)
  /-- DATUM_ARM (R543). -/
  | datumArm (r : Req) (b : Bool) (data : Word)
  /-- DATUM_ADJ_WRITE (R542). -/
  | datumAdjWrite (r : Req) (b : Bool) (data : Word)
  /-- DATUM_RATE_WRITE (R542). -/
  | datumRateWrite (r : Req) (b : Bool) (data : Word)
  /-- DATUM_ENABLE (R542). -/
  | datumEnable (r : Req) (b : Bool) (data : Word)
  /-- DATUM_CHANGE_EFFECT (R544). -/
  | datumChangeEffect
  /-- SLEW_UPDATE (R545). -/
  | slewUpdate
  /-- FREQ_SRC_WRITE (R540). -/
  | freqSrcWrite (r : Req) (data : Word) (present : Bool)
  /-- FREQ_LOSS (R540). -/
  | freqLoss
  /-- REPLICA_CALIBRATION (R547). -/
  | replicaCalibration (errors : List Nat)
  /-- TIME_SNAP (R552). -/
  | timeSnap (r : Req) (data : Word)
  /-- PPS_IN_EDGE (R553). -/
  | ppsInEdge (i : Fin 2)
  /-- PPS_MISSING (R553). -/
  | ppsMissing (i : Fin 2)
  /-- PPS_OUT_EDGE (R554). -/
  | ppsOutEdge (i : Fin 2)
  /-- METER_WINDOW_CLOSE (R565). -/
  | meterWindowClose (m : Fin 1536)
  /-- METER_CFG_WRITE (R566). -/
  | meterCfgWrite (r : Req) (data : Word)
  /-- SVC_IND_READ (R600). -/
  | svcIndRead (r : Req) (data : Word)
  /-- SVC_IND_WRITE (R569). -/
  | svcIndWrite (r : Req) (data : Word)
  /-- WRAP_ADDR_WRITE (R563). -/
  | wrapAddrWrite (r : Req) (data : Word)
  /-- WRAP_MAP_CLEAR (R563). -/
  | wrapMapClear (r : Req) (data : Word)
  /-- FLOW_WRITEBACK (R577). -/
  | flowWriteback
  /-- FLOW_SWEEP (R578). -/
  | flowSweep (poisoned : List Nat)
  /-- STAKE_CFG_WRITE (R580). -/
  | stakeCfgWrite (r : Req) (t : Fin 25) (data : Word)
  /-- EXPORT_WRITE (R586). -/
  | exportWrite (t : Option (Fin 25))
  /-- XCONS_WRITE (R586). -/
  | xconsWrite (r : Req) (ring : Fin 8) (data : Word)
  /-- DUMP_DUE (R589). -/
  | dumpDue
  /-- DUMP_NOW (R589). -/
  | dumpNow (r : Req) (data : Word)
  /-- DUMP_COMPLETE (R592). -/
  | dumpComplete
  /-- DMP_CFG_WRITE (R593). -/
  | dmpCfgWrite (r : Req) (data : Word)
  /-- PWRGOOD_RISE (R629). -/
  | pwrgoodRise (refs : Fin 32) (pcie : Fin 4) (boot : Boot)
  /-- PWRGOOD_FALL (R628). -/
  | pwrgoodFall
  /-- DOMAIN_BRINGUP_START (R642). -/
  | domainBringupStart
  /-- BOOT_IMAGE_LOAD (R642). -/
  | bootImageLoad
  /-- PWR_CTL_WRITE (R631). -/
  | pwrCtlWrite (r : Req) (data : Word)
  /-- DOMAIN_SWITCH_ON (R631). -/
  | domainSwitchOn
  /-- DOMAIN_POWER_GOOD (R631). -/
  | domainPowerGood
  /-- DOMAIN_POWER_TIMEOUT (R631). -/
  | domainPowerTimeout
  /-- DOMAIN_SWITCH_OFF (R633). -/
  | domainSwitchOff (wearOk : Bool)
  /-- REF_LOSS (R634). -/
  | refLoss (ref : Fin 5)
  /-- REF_SWITCH_DONE (R634). -/
  | refSwitchDone
  /-- CLK_CTL_WRITE (R634). -/
  | clkCtlWrite (r : Req) (data : Word)
  /-- ISLAND_CLK_LOSS (R635). -/
  | islandClkLoss (island : Fin 64)
  /-- PCIE_REF_LOSS (R636). -/
  | pcieRefLoss (h : Fin 2)
  /-- SOFT_RESET (R639). -/
  | softReset (r : Req) (data : Word) (x : Restart)
  /-- SOFT_RESET_COMPLETE (R639). -/
  | softResetComplete
  /-- HOLD_END (R641). -/
  | holdEnd
  /-- FLS_READ (R647). -/
  | flsRead (r : Req) (data : Word) (met : FlashEnd)
  /-- FLS_PROGRAM (R647). -/
  | flsProgram (r : Req) (data : Word)
  /-- FLS_ERASE_4K (R647). -/
  | flsErase4k (r : Req) (data : Word)
  /-- FLASH_OP_COMPLETE (R644). -/
  | flashOpComplete (met : FlashEnd)
  /-- LIFE_ARM (R651). -/
  | lifeArm (r : Req) (data : Word)
  /-- LIFE_TRANSITION_REQUEST (R651). -/
  | lifeTransitionRequest (r : Req) (data : Word) (intentOk : Bool)
  /-- LIFE_ARM_EXPIRY (R651). -/
  | lifeArmExpiry
  /-- LIFE_TRANSITION_DONE (R650). -/
  | lifeTransitionDone (met : LifeEnd)
  /-- OTP_REVOKE (R653). -/
  | otpRevoke (r : Req) (data : Word) (ok : Bool)
  /-- OTP_RAISE_SVN (R653). -/
  | otpRaiseSvn (r : Req) (data : Word) (ok : Bool)
  /-- IDENTITY_KEY_READY (R654). -/
  | identityKeyReady
  /-- REPORT_GENERATE (R655). -/
  | reportGenerate (r : Req) (data : Word)
  /-- REPORT_DONE (R655). -/
  | reportDone
  /-- THERMAL_SAMPLE (R679). -/
  | thermalSample (sensors : List (Option Int)) (engines : List Int)
  /-- THERMTRIP (R680). -/
  | thermtrip
  /-- GPIO_EDGE (R684). -/
  | gpioEdge (pin : Fin 16) (high : Bool)
  /-- EXTEST (R685). -/
  | extest (wearOk : Bool)
  /-- IDCODE (R685). -/
  | idcode (x : Restart)
  /-- SAMPLE_PRELOAD (R685). -/
  | samplePreload (x : Restart)
  /-- CLAMP (R685). -/
  | clamp (wearOk : Bool)
  /-- HIGHZ (R685). -/
  | highz (wearOk : Bool)
  /-- EXTEST_PULSE (R686). -/
  | extestPulse (wearOk : Bool)
  /-- EXTEST_TRAIN (R686). -/
  | extestTrain (wearOk : Bool)
  /-- BYPASS (R685). -/
  | bypass (opcode : BitVec 8) (x : Restart)
  /-- FACTORY_INSTRUCTION (R685). -/
  | factoryInstruction (opcode : BitVec 8) (x : Restart)
  /-- TAP_TEST_EXIT (R687). -/
  | tapTestExit (x : Restart)
  /-- TAP_RESET (R685). -/
  | tapReset (x : Restart)
  /-- RC_REGISTER_READ (R13). -/
  | rcRegisterRead (r : Req) (at_ : BarAddr)
  /-- HOST_LINK_UP (R46). -/
  | hostLinkUp (h : Fin 2) (rate : Fin 8) (width : Fin 8) (flit : Bool)
  /-- SRIOV_VF_ENABLE (R50). -/
  | sriovVfEnable (h : Fin 2) (n : Fin 128)
  /-- FLR_COMPLETE (R637). -/
  | flrComplete (fn : Fin 256)
  /-- MSIX_UNMASK (R58). -/
  | msixUnmask (fn : Fin 256) (vec : Fin 2048)
  /-- LM_PRES_N_HIGH (R131). -/
  | lmPresNHigh (n : Fin 36)
  /-- PAT_CHECKER_LOCK (R208). -/
  | patCheckerLock (l : Fin 768)
  /-- STACK_INTERFACE_LOSS (R535). -/
  | stackInterfaceLoss (h : Fin 4)
  /-- REFERENCE_VALID (R629). -/
  | referenceValid (ref : Fin 5) (boot : Boot)
deriving DecidableEq, Repr

end Sys2Proof
end

