-- ==== Sys2Proof/Decode.lean ====
section
/-!
DEFINITION. Sys2Proof/Decode.lean: commands as words. The device is a block: its commands are accesses, messages and events, and no row
of spec/opcode_table.json gives bits, so no word spells a command.
Readings and choices (notes/assumptions): DESIGN CHOICE 1.
-/
namespace Sys2Proof

/-- The command that a word of `nbits` bits spells by the table's bits: none, for the table gives no row any bits. -/
def decodeTableWord (_nbits _w : Nat) : Option Instr := none

end Sys2Proof
end

