-- ==== Sys2Proof/Machine/Bytes.lean ====
section
/-!
DEFINITION. Sys2Proof/Machine/Bytes.lean: byte orders (R8), bytes of frames and structures, and the check codes of R689.
-/
namespace Sys2Proof.Machine

/-- Byte `i` of a list, zero past its end. -/
def byteAt (l : List Byte) (i : Nat) : Nat := (l.getD i 0).toNat

/-- `n` bytes from offset `o`, most significant first (wire order, R8). -/
def beAt (l : List Byte) (o n : Nat) : Nat := ((l.drop o).take n).foldl (fun a b => a * 256 + b.toNat) 0

/-- `n` bytes from offset `o`, least significant first (host memory, flash and HBM, R8). -/
def leAt (l : List Byte) (o n : Nat) : Nat := ((l.drop o).take n).foldr (fun b a => a * 256 + b.toNat) 0

/-- `v` as `n` bytes, least significant first. -/
def leBytes (n v : Nat) : List Byte := (List.range n).map (fun i => BitVec.ofNat 8 (v / 256 ^ i))

/-- `v` as `n` bytes, most significant first. -/
def beBytes (n v : Nat) : List Byte := (leBytes n v).reverse

/-- The list with `new` written over it from offset `o`, no longer than it was. -/
def overwrite (l : List Byte) (o : Nat) (new : List Byte) : List Byte :=
  (l.take o ++ new ++ l.drop (o + new.length)).take l.length

/-- Zero bytes. -/
def zeros (n : Nat) : List Byte := List.replicate n 0

/-- One bit of a reflected CRC: `poly` is the reflected polynomial. -/
def crcBit (poly c : Nat) : Nat := if c % 2 = 1 then Nat.xor (c / 2) poly else c / 2

/-- One byte of a reflected 32-bit CRC. -/
def crcByte (poly c b : Nat) : Nat :=
  let x := Nat.xor c b
  crcBit poly (crcBit poly (crcBit poly (crcBit poly (crcBit poly (crcBit poly (crcBit poly (crcBit poly x)))))))

/-- A reflected CRC-32 with initial value and final XOR of all ones. -/
def crc32 (poly : Nat) (l : List Byte) : Nat :=
  Nat.xor (l.foldl (fun c b => crcByte poly c b.toNat) 0xFFFFFFFF) 0xFFFFFFFF

/-- CRC-32C (R689): polynomial 0x1EDC_6F41, reflected. -/
def crc32c (l : List Byte) : Nat := crc32 0x82F63B78 l

/-- The FCS of an Ethernet frame: the CRC-32 of IEEE 802.3, polynomial 0x04C1_1DB7, reflected. -/
def crcFcs (l : List Byte) : Nat := crc32 0xEDB88320 l

/-- The CRC-16 of polynomial 0x1021, initial value 0xFFFF, unreflected, without final inversion (R253, R317). -/
def crc16 (l : List Byte) : Nat :=
  let bit (c : Nat) : Nat := if c / 32768 % 2 = 1 then Nat.xor (c * 2 % 65536) 0x1021 else c * 2 % 65536
  l.foldl (fun c b => (List.range 8).foldl (fun c _ => bit c) (Nat.xor c (b.toNat * 256))) 0xFFFF

/-- One bit and one byte of an unreflected 32-bit CRC. -/
def crcMsbBit (poly c : Nat) : Nat := if c / 2 ^ 31 % 2 = 1 then Nat.xor (c * 2 % 2 ^ 32) poly else c * 2 % 2 ^ 32
def crcMsbByte (poly c b : Nat) : Nat := (List.range 8).foldl (fun c _ => crcMsbBit poly c) (Nat.xor c (b * 2 ^ 24))

/-- An unreflected CRC-32 without final inversion (R322, R394, R576). -/
def crcMsb (poly init : Nat) (l : List Byte) : Nat := l.foldl (fun c b => crcMsbByte poly c b.toNat) init

/-- The CRC-12 of polynomial x^12 + x^11 + x^3 + x^2 + x + 1, initial value 0, over the low `n` bits of `v`, most significant
first (R434). -/
def crc12 (n v : Nat) : Nat :=
  (List.range n).foldl (fun c i =>
    let top := (c / 2048 + v / 2 ^ (n - 1 - i)) % 2
    if top = 1 then Nat.xor (c * 2 % 4096) 0x80F else c * 2 % 4096) 0

/-- `l` cut or padded with zeros to `n` bytes. -/
def fit (n : Nat) (l : List Byte) : List Byte := l.take n ++ zeros (n - l.length)

end Sys2Proof.Machine
end

