-- ==== Sys2Proof/Machine/Tab.lean ====
section
/-!
DEFINITION. Sys2Proof/Machine/Tab.lean: sparse tables, the one representation of registers, memories and units of the
machine: a list of (key, value) pairs in one canonical form (keys strictly rising, no entry equal to what an unlisted key
reads as). Every table is read and written through `get` and `set` alone.
-/
namespace Sys2Proof.Machine

/-- A sparse table: key and value pairs. -/
abbrev Tab (α : Type) := List (Nat × α)

/-- What the table holds at key `k`; `d` where `k` is not listed. -/
def Tab.get {α : Type} (t : Tab α) (k : Nat) (d : α) : α :=
  match t with
  | [] => d
  | (k', v) :: t => if k = k' then v else Tab.get t k d

/-- The table without key `k`. -/
def Tab.erase {α : Type} (t : Tab α) (k : Nat) : Tab α :=
  t.filter (fun e => e.1 != k)

/-- The table with `(k, v)` put before the first larger key. -/
def Tab.ins {α : Type} (t : Tab α) (k : Nat) (v : α) : Tab α :=
  match t with
  | [] => [(k, v)]
  | e :: t => if k < e.1 then (k, v) :: e :: t else e :: Tab.ins t k v

/-- The table with `v` at key `k`, in canonical form for the default `d` of that key. -/
def Tab.set {α : Type} [DecidableEq α] (t : Tab α) (k : Nat) (v d : α) : Tab α :=
  if v = d then Tab.erase t k else Tab.ins (Tab.erase t k) k v

/-- Every entry whose key satisfies `p` goes back to its default. -/
def Tab.clear {α : Type} (t : Tab α) (p : Nat → Bool) : Tab α :=
  t.filter (fun e => !p e.1)

/-- Keys rise strictly. -/
def Tab.sorted {α : Type} : Tab α → Bool
  | [] => true
  | [_] => true
  | e :: f :: t => decide (e.1 < f.1) && Tab.sorted (f :: t)

/-- The canonical form: keys rise strictly and no entry equals its default. -/
def Tab.wf {α : Type} [DecidableEq α] (t : Tab α) (d : Nat → α) : Bool :=
  Tab.sorted t && t.all (fun e => decide (e.2 ≠ d e.1))

/-- The value written in place of the list's element `i` (unchanged where the list is shorter). -/
def listSet {α : Type} (l : List α) (i : Nat) (v : α) : List α := l.set i v

/-- Element `i` of a list, `d` past its end. -/
def listGet {α : Type} (l : List α) (i : Nat) (d : α) : α := l.getD i d

end Sys2Proof.Machine
end

