-- ==== Sys2Proof/Machine/Pages.lean ====
section
/-!
DEFINITION. Sys2Proof/Machine/Pages.lean: the pages of the register space (R65, R66), their types, power domains and clock
islands (R26, R630), and the numbering of the units (R25).
A page is named by its number, its BAR0 offset divided by 0x1000 (as HIF.LOG_SEL.PAGE names it, R81). The pages of a
virtual function's own BAR0 have no BAR0 offset of the device; the model numbers them from 0x10000, sixteen a function.
-/
namespace Sys2Proof.Machine

/-- A page number: BAR0 offset / 0x1000. -/
abbrev Page := Nat

/-- The page types of R65; `vfe` is the event page of a virtual function with the command rings behind it (R52). -/
inductive Kind where
  | dev | clk | pwr | fls | thm | mgb | hif | dmq | pcl | lmp | oen | eln | oln | lsq | pen | msc | msg
  | trv | prs | stn | dpr | tbc | lrn | trc | res | tmc | tmw | bpm | ovm | spr | dtm | tel | svc | dmp | vfe
deriving DecidableEq, Repr

namespace Page
abbrev dev : Page := 0x0
abbrev clk : Page := 0x1
abbrev pwr : Page := 0x2
abbrev fls : Page := 0x3
abbrev thm : Page := 0x4
abbrev mgb (b : Nat) : Page := 0x8 + b
abbrev hif (h : Nat) : Page := 0x100 + h
abbrev dmq (d : Nat) : Page := 0x102 + d
abbrev pcl (n : Nat) : Page := 0x200 + n
abbrev lmp (n : Nat) : Page := 0x400 + n
abbrev oen (k : Nat) : Page := 0x480 + k
abbrev eln (n : Nat) : Page := 0x500 + n
abbrev oln (n : Nat) : Page := 0x600 + n
abbrev lsq (n : Nat) : Page := 0x900 + n
abbrev pen (n : Nat) : Page := 0xA00 + n
abbrev msc (g : Nat) : Page := 0xC00 + g
abbrev msg : Page := 0xC18
abbrev trv (t : Nat) : Page := 0x1000 + 0x100 * t
abbrev prs (t : Nat) : Page := 0x1001 + 0x100 * t
abbrev stn (t s : Nat) : Page := 0x1002 + 0x100 * t + s
abbrev dpr (t : Nat) : Page := 0x1016 + 0x100 * t
abbrev tbc (t : Nat) : Page := 0x1017 + 0x100 * t
abbrev lrn (t : Nat) : Page := 0x1018 + 0x100 * t
abbrev trc (t : Nat) : Page := 0x1019 + 0x100 * t
abbrev res (t : Nat) : Page := 0x101A + 0x100 * t
abbrev tmc : Page := 0x3000
abbrev tmw (n : Nat) : Page := 0x3001 + n
abbrev bpm : Page := 0x3400
abbrev ovm : Page := 0x3800
abbrev spr : Page := 0x3C00
abbrev dtm : Page := 0x4000
abbrev tel : Page := 0x4200
abbrev svc : Page := 0x4201
abbrev dmp : Page := 0x4202
/-- The event page of function `fn` (bit 7: the port; R50, R52); its command rings follow in the next page. -/
abbrev vfe (fn : Nat) : Page := 0x10000 + 16 * fn

/-- The page of lane `l`: lanes 0–575 are optical (OL = lane), 576–767 electrical (EL = lane − 576), so that
lane = 4 × PE + lane of the port engine in both cases (R25). -/
def lane (l : Nat) : Page := if l < 576 then oln l else eln (l - 576)

/-- The type of a page and the instance PAGE_ID reports (R66), `none` where R65 assigns no page. -/
def kind (p : Page) : Option (Kind × Nat) :=
  if p < 0x5 then
    (match p with
      | 0 => some (.dev, 0) | 1 => some (.clk, 0) | 2 => some (.pwr, 0) | 3 => some (.fls, 0) | _ => some (.thm, 0))
  else if p < 0x8 then none
  else if p < 0x8 + 9 then some (.mgb, p - 0x8)
  else if p < 0x100 then none
  else if p < 0x102 then some (.hif, p - 0x100)
  else if p < 0x102 + 36 then some (.dmq, p - 0x102)
  else if p < 0x200 then none
  else if p < 0x200 + 64 then some (.pcl, p - 0x200)
  else if p < 0x400 then none
  else if p < 0x400 + 36 then some (.lmp, p - 0x400)
  else if p < 0x480 then none
  else if p < 0x480 + 18 then some (.oen, p - 0x480)
  else if p < 0x500 then none
  else if p < 0x500 + 192 then some (.eln, p - 0x500)
  else if p < 0x600 then none
  else if p < 0x600 + 576 then some (.oln, p - 0x600)
  else if p < 0x900 then none
  else if p < 0x900 + 96 then some (.lsq, p - 0x900)
  else if p < 0xA00 then none
  else if p < 0xA00 + 192 then some (.pen, p - 0xA00)
  else if p < 0xC00 then none
  else if p < 0xC18 then some (.msc, p - 0xC00)
  else if p = 0xC18 then some (.msg, 0)
  else if p < 0x1000 then none
  else if p < 0x1000 + 25 * 0x100 then
    let t := (p - 0x1000) / 0x100
    let o := p % 0x100
    if o = 0 then some (.trv, t)
    else if o = 1 then some (.prs, t)
    else if o < 0x16 then some (.stn, 20 * t + (o - 2))
    else if o = 0x16 then some (.dpr, t)
    else if o = 0x17 then some (.tbc, t)
    else if o = 0x18 then some (.lrn, t)
    else if o = 0x19 then some (.trc, t)
    else if o = 0x1A then some (.res, t)
    else none
  else if p < 0x3000 then none
  else if p = 0x3000 then some (.tmc, 0)
  else if p < 0x3001 + 768 then some (.tmw, p - 0x3001)
  else if p = 0x3400 then some (.bpm, 0)
  else if p = 0x3800 then some (.ovm, 0)
  else if p = 0x3C00 then some (.spr, 0)
  else if p = 0x4000 then some (.dtm, 0)
  else if p = 0x4200 then some (.tel, 0)
  else if p = 0x4201 then some (.svc, 0)
  else if p = 0x4202 then some (.dmp, 0)
  else if p < 0x10000 then none
  else if p < 0x10000 + 16 * 256 then
    if p % 16 ≤ 1 ∧ (p - 0x10000) / 16 % 128 ≠ 0 then some (.vfe, (p - 0x10000) / 16) else none
  else none

end Page

/-- The page type code that PAGE_ID.TYPE reports (R65). -/
def Kind.code : Kind → Nat
  | .dev => 0x0001 | .clk => 0x0002 | .pwr => 0x0003 | .fls => 0x0004 | .thm => 0x0005 | .mgb => 0x0006
  | .hif => 0x0010 | .dmq => 0x0011 | .vfe => 0x0012 | .pcl => 0x0018 | .lmp => 0x0020 | .oen => 0x0021
  | .eln => 0x0022 | .oln => 0x0023 | .lsq => 0x0024 | .pen => 0x0028 | .msc => 0x0029 | .msg => 0x002A
  | .trv => 0x0030 | .prs => 0x0031 | .stn => 0x0032 | .dpr => 0x0033 | .tbc => 0x0034 | .lrn => 0x0035
  | .trc => 0x0036 | .res => 0x0037 | .tmc => 0x0040 | .tmw => 0x0041 | .bpm => 0x0048 | .ovm => 0x0050
  | .spr => 0x0058 | .dtm => 0x0060 | .tel => 0x0068 | .svc => 0x0069 | .dmp => 0x006A

/-- System pages (R75): no virtual function owns, reads or writes them. -/
def Kind.system : Kind → Bool
  | .dev | .clk | .pwr | .fls | .thm | .pcl | .msg | .prs | .spr | .bpm | .tmc | .ovm | .dtm | .tel | .svc | .dmp
  | .trc => true
  | _ => false

/-- The always-on pages that a device soft reset keeps (R638). -/
def Kind.alwaysOn : Kind → Bool
  | .clk | .pwr | .fls | .thm | .mgb | .lmp => true
  | _ => false

/-- A page's block lies in traverse region `t` (R65). -/
def Page.traverse (p : Page) : Option Nat :=
  if 0x1000 ≤ p ∧ p < 0x1000 + 25 * 0x100 then some ((p - 0x1000) / 0x100) else none

/-- The switched power domain of a page's block (R26, R630), `none` for the core and the always-on domain. -/
def Page.domain (p : Page) : Option Nat :=
  match Page.kind p with
  | some (.oen, k) => some k
  | some (.oln, n) => some (n / 32)
  | some (.eln, n) => some (18 + n / 32)
  | some (.lsq, n) => some (n / 4)
  | some (.ovm, _) => some 24
  | some (.dmp, _) => some 29
  | some (k, _) => if k = .vfe then none else if Page.traverse p = some 24 then some 28 else none
  | none => none

/-- The clock island of a page (R26). -/
def Page.island (p : Page) : Nat :=
  match Page.kind p with
  | some (.hif, h) => 1 + h
  | some (.dmq, d) => 1 + d / 18
  | some (.vfe, f) => 1 + f / 128
  | some (.dtm, _) => 3
  | some (.tel, _) => 4
  | some (.svc, _) => 4
  | some (.dmp, _) => 5
  | some (.tmc, _) => 6
  | some (.tmw, _) => 6
  | some (.spr, _) => 6
  | some (.bpm, _) => 6
  | some (.pcl, _) => 6
  | some (.msg, _) => 6
  | some (.ovm, _) => 11
  | some (.oen, k) => 15 + k
  | some (.oln, n) => 15 + n / 32
  | some (.eln, n) => 33 + n / 32
  | some (.lsq, n) => 15 + n / 4
  | some (.pen, n) => 15 + n / 8
  | some (.msc, g) => 15 + g
  | some _ => match Page.traverse p with
    | some t => 39 + t
    | none => 0
  | none => 0

/-- POWER_DOMAIN of PAGE_CAP: the switched domain, 0xFE for the core, 0xFF for the always-on domain. -/
def Page.domainCode (p : Page) : Nat :=
  match Page.domain p with
  | some d => d
  | none => if Page.island p = 0 then 0xFF else 0xFE

end Sys2Proof.Machine
end

