-- ==== Sys2Proof/Machine/Regs.lean ====
section
/-!
DEFINITION. Sys2Proof/Machine/Regs.lean: the names of the registers, fields, counters and event sources of every page type,
as the "Register tables" of the chapters give them (R11, R12). A register with several instances has one name; its
instances lie `st` bytes apart.
-/
namespace Sys2Proof.Machine

/-- A field: the offset of the first instance of its register in the page, the distance between instances, and the
field's lowest bit and width. -/
structure Fld where
  off : Nat
  st  : Nat
  lo  : Nat
  w   : Nat
deriving DecidableEq, Repr

namespace TB
abbrev PAGE_ID : Fld := ⟨0x0, 8, 0, 48⟩
abbrev PAGE_ID_TYPE : Fld := ⟨0x0, 8, 32, 16⟩
abbrev PAGE_ID_INSTANCE : Fld := ⟨0x0, 8, 16, 16⟩
abbrev PAGE_ID_VERSION_MAJOR : Fld := ⟨0x0, 8, 8, 8⟩
abbrev PAGE_ID_VERSION_MINOR : Fld := ⟨0x0, 8, 0, 8⟩
abbrev PAGE_CAP : Fld := ⟨0x8, 8, 0, 48⟩
abbrev PAGE_CAP_CLOCK_ISLAND : Fld := ⟨0x8, 8, 16, 6⟩
abbrev PAGE_CAP_POWER_DOMAIN : Fld := ⟨0x8, 8, 8, 8⟩
abbrev PAGE_CAP_HAS_SELFTEST : Fld := ⟨0x8, 8, 7, 1⟩
abbrev PAGE_CAP_HAS_LOCK : Fld := ⟨0x8, 8, 6, 1⟩
abbrev PAGE_CAP_NUM_SOURCES : Fld := ⟨0x8, 8, 0, 6⟩
abbrev PAGE_OWNER : Fld := ⟨0x10, 8, 0, 48⟩
abbrev PAGE_OWNER_BOTH_PF : Fld := ⟨0x10, 8, 25, 1⟩
abbrev PAGE_OWNER_SHARED_READ : Fld := ⟨0x10, 8, 24, 1⟩
abbrev PAGE_OWNER_FUNCTION : Fld := ⟨0x10, 8, 16, 8⟩
abbrev PAGE_OWNER_PARCEL : Fld := ⟨0x10, 8, 0, 12⟩
abbrev PAGE_STATE : Fld := ⟨0x18, 8, 0, 48⟩
abbrev PAGE_STATE_LOST : Fld := ⟨0x18, 8, 13, 1⟩
abbrev PAGE_STATE_LOG_COUNT : Fld := ⟨0x18, 8, 8, 5⟩
abbrev PAGE_STATE_LOCK : Fld := ⟨0x18, 8, 7, 1⟩
abbrev PAGE_STATE_TEST_REQ : Fld := ⟨0x18, 8, 6, 1⟩
abbrev PAGE_STATE_ENABLE : Fld := ⟨0x18, 8, 5, 1⟩
abbrev PAGE_STATE_BLOCK_RESET : Fld := ⟨0x18, 8, 4, 1⟩
abbrev PAGE_STATE_STATE : Fld := ⟨0x18, 8, 0, 3⟩
abbrev EVENT_STATUS : Fld := ⟨0x20, 8, 0, 48⟩
abbrev EVENT_STATUS_STATUS : Fld := ⟨0x20, 8, 0, 48⟩
abbrev EVENT_ENABLE : Fld := ⟨0x28, 8, 0, 48⟩
abbrev EVENT_ENABLE_ENABLE : Fld := ⟨0x28, 8, 0, 48⟩
abbrev EVENT_SEVERITY_LO : Fld := ⟨0x30, 8, 0, 48⟩
abbrev EVENT_SEVERITY_LO_SEV : Fld := ⟨0x30, 8, 0, 48⟩
abbrev EVENT_SEVERITY_HI : Fld := ⟨0x38, 8, 0, 48⟩
abbrev EVENT_SEVERITY_HI_SEV : Fld := ⟨0x38, 8, 0, 48⟩
abbrev EVENT_VECTOR : Fld := ⟨0x40, 8, 0, 48⟩
abbrev EVENT_VECTOR_TO_HB : Fld := ⟨0x40, 8, 13, 1⟩
abbrev EVENT_VECTOR_TO_HA : Fld := ⟨0x40, 8, 12, 1⟩
abbrev EVENT_VECTOR_VECTOR : Fld := ⟨0x40, 8, 0, 11⟩
abbrev EVENT_FIRST : Fld := ⟨0x48, 8, 0, 48⟩
abbrev EVENT_FIRST_VALID : Fld := ⟨0x48, 8, 47, 1⟩
abbrev EVENT_FIRST_SOURCE : Fld := ⟨0x48, 8, 40, 6⟩
abbrev EVENT_FIRST_SEVERITY : Fld := ⟨0x48, 8, 38, 2⟩
abbrev EVENT_FIRST_TIME : Fld := ⟨0x48, 8, 0, 32⟩
abbrev FAULT_CAUSE : Fld := ⟨0x50, 8, 0, 48⟩
abbrev FAULT_CAUSE_PRESENT : Fld := ⟨0x50, 8, 0, 48⟩
abbrev SELFTEST : Fld := ⟨0x58, 8, 0, 48⟩
abbrev SELFTEST_DETAIL : Fld := ⟨0x58, 8, 16, 32⟩
abbrev SELFTEST_SELECT : Fld := ⟨0x58, 8, 8, 8⟩
abbrev SELFTEST_RESULT : Fld := ⟨0x58, 8, 1, 2⟩
abbrev SELFTEST_RUN : Fld := ⟨0x58, 8, 0, 1⟩
abbrev SCRATCH : Fld := ⟨0x60, 8, 0, 48⟩
abbrev SCRATCH_SCRATCH : Fld := ⟨0x60, 8, 0, 48⟩
/-- Source 0, RECORD. -/
abbrev S_OWNER_VIOLATION : Nat := 0
/-- Source 1, RECORD. -/
abbrev S_ACCESS_SIZE : Nat := 1
/-- Source 2, RECORD. -/
abbrev S_LOCKED_WRITE : Nat := 2
end TB

namespace DEV
abbrev DEV_INFO : Fld := ⟨0x100, 8, 0, 48⟩
abbrev DEV_INFO_PART : Fld := ⟨0x100, 8, 32, 16⟩
abbrev DEV_INFO_STEPPING : Fld := ⟨0x100, 8, 8, 8⟩
abbrev DEVICE_ID_LO : Fld := ⟨0x108, 8, 0, 48⟩
abbrev DEVICE_ID_LO_ID : Fld := ⟨0x108, 8, 0, 48⟩
abbrev DEVICE_ID_HI : Fld := ⟨0x110, 8, 0, 48⟩
abbrev DEVICE_ID_HI_ID : Fld := ⟨0x110, 8, 0, 16⟩
abbrev DEV_RESET : Fld := ⟨0x118, 8, 0, 48⟩
abbrev DEV_RESET_KEY : Fld := ⟨0x118, 8, 32, 16⟩
abbrev DEV_RESET_SOFT : Fld := ⟨0x118, 8, 0, 1⟩
abbrev DEV_STATUS : Fld := ⟨0x120, 8, 0, 48⟩
abbrev DEV_STATUS_HOLD_LEFT : Fld := ⟨0x120, 8, 38, 10⟩
abbrev DEV_STATUS_OTP_OK : Fld := ⟨0x120, 8, 3, 1⟩
abbrev DEV_STATUS_IMAGE_READY : Fld := ⟨0x120, 8, 2, 1⟩
abbrev DEV_STATUS_SOFT_BUSY : Fld := ⟨0x120, 8, 1, 1⟩
abbrev DEV_STATUS_HOLD : Fld := ⟨0x120, 8, 0, 1⟩
abbrev RESET_CAUSE : Fld := ⟨0x128, 8, 0, 48⟩
abbrev RESET_CAUSE_CAUSE : Fld := ⟨0x128, 8, 0, 2⟩
abbrev LIFE_STATE : Fld := ⟨0x130, 8, 0, 48⟩
abbrev LIFE_STATE_SLOTS_USED : Fld := ⟨0x130, 8, 12, 4⟩
abbrev LIFE_STATE_REASON : Fld := ⟨0x130, 8, 9, 3⟩
abbrev LIFE_STATE_KEY_READY : Fld := ⟨0x130, 8, 8, 1⟩
abbrev LIFE_STATE_BUSY : Fld := ⟨0x130, 8, 7, 1⟩
abbrev LIFE_STATE_ERROR : Fld := ⟨0x130, 8, 6, 1⟩
abbrev LIFE_STATE_INTENT_PENDING : Fld := ⟨0x130, 8, 3, 1⟩
abbrev LIFE_STATE_STATE : Fld := ⟨0x130, 8, 0, 3⟩
abbrev LIFE_CMD : Fld := ⟨0x138, 8, 0, 48⟩
abbrev LIFE_CMD_ARM : Fld := ⟨0x138, 8, 3, 1⟩
abbrev LIFE_CMD_TO : Fld := ⟨0x138, 8, 0, 3⟩
abbrev OTP_SEC : Fld := ⟨0x140, 8, 0, 48⟩
abbrev OTP_SEC_MIN_SVN : Fld := ⟨0x140, 8, 8, 7⟩
abbrev OTP_SEC_REVOKED : Fld := ⟨0x140, 8, 0, 4⟩
abbrev OTP_CMD : Fld := ⟨0x148, 8, 0, 48⟩
abbrev OTP_CMD_OP : Fld := ⟨0x148, 8, 46, 2⟩
abbrev OTP_CMD_ARG : Fld := ⟨0x148, 8, 0, 7⟩
abbrev OTP_STATUS : Fld := ⟨0x150, 8, 0, 48⟩
abbrev OTP_STATUS_CODE : Fld := ⟨0x150, 8, 3, 3⟩
abbrev OTP_STATUS_ERROR : Fld := ⟨0x150, 8, 2, 1⟩
abbrev OTP_STATUS_DONE : Fld := ⟨0x150, 8, 1, 1⟩
abbrev OTP_STATUS_BUSY : Fld := ⟨0x150, 8, 0, 1⟩
abbrev NONCE : Fld := ⟨0x160, 8, 0, 48⟩
abbrev NONCE_NONCE : Fld := ⟨0x160, 8, 0, 48⟩
abbrev REPORT_CMD : Fld := ⟨0x180, 8, 0, 48⟩
abbrev REPORT_CMD_GENERATE : Fld := ⟨0x180, 8, 0, 1⟩
abbrev REPORT_STATUS : Fld := ⟨0x188, 8, 0, 48⟩
abbrev REPORT_STATUS_SIGNED : Fld := ⟨0x188, 8, 2, 1⟩
abbrev REPORT_STATUS_DONE : Fld := ⟨0x188, 8, 1, 1⟩
abbrev REPORT_STATUS_BUSY : Fld := ⟨0x188, 8, 0, 1⟩
/-- Source 3, NOTIFY. -/
abbrev S_LIFE_INTENT_PENDING : Nat := 3
/-- Source 4, RECORD. -/
abbrev S_LIFE_RECOVERED : Nat := 4
/-- Source 5, RECORD. -/
abbrev S_LIFE_REFUSED : Nat := 5
/-- Source 6, NOTIFY. -/
abbrev S_OTP_ERROR : Nat := 6
/-- Source 7, RECORD. -/
abbrev S_HOLD_DONE : Nat := 7
end DEV

namespace CLK
abbrev CLK_CTL : Fld := ⟨0x100, 8, 0, 48⟩
abbrev CLK_CTL_AUTO : Fld := ⟨0x100, 8, 3, 1⟩
abbrev CLK_CTL_REF_SEL : Fld := ⟨0x100, 8, 0, 3⟩
abbrev CLK_STATUS : Fld := ⟨0x108, 8, 0, 48⟩
abbrev CLK_STATUS_LOST_VALID : Fld := ⟨0x108, 8, 22, 1⟩
abbrev CLK_STATUS_LOST_ISLAND : Fld := ⟨0x108, 8, 16, 6⟩
abbrev CLK_STATUS_REF_IN_USE : Fld := ⟨0x108, 8, 8, 3⟩
abbrev CLK_STATUS_PCIE_OK : Fld := ⟨0x108, 8, 5, 2⟩
abbrev CLK_STATUS_REF_OK : Fld := ⟨0x108, 8, 0, 5⟩
abbrev ISLAND_OK0 : Fld := ⟨0x110, 8, 0, 48⟩
abbrev ISLAND_OK0_OK : Fld := ⟨0x110, 8, 0, 48⟩
abbrev ISLAND_OK1 : Fld := ⟨0x118, 8, 0, 48⟩
abbrev ISLAND_OK1_OK : Fld := ⟨0x118, 8, 0, 16⟩
abbrev REF_SWITCHES : Fld := ⟨0x120, 8, 0, 48⟩
abbrev REF_SWITCHES_COUNT : Fld := ⟨0x120, 8, 0, 48⟩
/-- Source 3, NOTIFY. -/
abbrev S_REF_LOST : Nat := 3
/-- Source 4, RECORD. -/
abbrev S_REF_SWITCH : Nat := 4
/-- Source 5, NOTIFY. -/
abbrev S_ISLAND_CLK_LOST : Nat := 5
/-- Source 6, NOTIFY. -/
abbrev S_PCIE_REF_LOST : Nat := 6
end CLK

namespace PWR
abbrev PWR_CTL : Fld := ⟨0x100, 8, 0, 48⟩
abbrev PWR_CTL_ON : Fld := ⟨0x100, 8, 0, 30⟩
abbrev PWR_STATUS : Fld := ⟨0x108, 8, 0, 48⟩
abbrev PWR_STATUS_BUSY : Fld := ⟨0x108, 8, 36, 1⟩
abbrev PWR_STATUS_DOMAIN : Fld := ⟨0x108, 8, 31, 5⟩
abbrev PWR_STATUS_UP : Fld := ⟨0x108, 8, 0, 30⟩
abbrev PWR_REFUSED : Fld := ⟨0x110, 8, 0, 48⟩
abbrev PWR_REFUSED_VALID : Fld := ⟨0x110, 8, 47, 1⟩
abbrev PWR_REFUSED_DOMAIN : Fld := ⟨0x110, 8, 0, 5⟩
/-- Source 3, RECORD. -/
abbrev S_DOMAIN_REFUSED : Nat := 3
/-- Source 4, NOTIFY. -/
abbrev S_DOMAIN_FAIL : Nat := 4
/-- Source 5, RECORD. -/
abbrev S_DOMAIN_CHANGE : Nat := 5
end PWR

namespace FLS
abbrev FLS_STATUS : Fld := ⟨0x100, 8, 0, 48⟩
abbrev FLS_STATUS_HOLDER : Fld := ⟨0x100, 8, 33, 2⟩
abbrev FLS_STATUS_BUSY : Fld := ⟨0x100, 8, 32, 1⟩
abbrev FLS_STATUS_FB_LOG : Fld := ⟨0x100, 8, 24, 8⟩
abbrev FLS_STATUS_FA_LOG : Fld := ⟨0x100, 8, 16, 8⟩
abbrev FLS_STATUS_FB : Fld := ⟨0x100, 8, 2, 2⟩
abbrev FLS_STATUS_FA : Fld := ⟨0x100, 8, 0, 2⟩
abbrev FLS_PROTECT : Fld := ⟨0x108, 8, 0, 48⟩
abbrev FLS_PROTECT_CAL_HOST : Fld := ⟨0x108, 8, 1, 1⟩
abbrev FLS_PROTECT_IMG_WP : Fld := ⟨0x108, 8, 0, 1⟩
abbrev FLS_CMD : Fld := ⟨0x110, 8, 0, 48⟩
abbrev FLS_CMD_OP : Fld := ⟨0x110, 8, 45, 3⟩
abbrev FLS_CMD_DEV : Fld := ⟨0x110, 8, 44, 1⟩
abbrev FLS_CMD_LEN : Fld := ⟨0x110, 8, 38, 6⟩
abbrev FLS_CMD_ADDR : Fld := ⟨0x110, 8, 0, 32⟩
abbrev FLS_CMD_STATUS : Fld := ⟨0x118, 8, 0, 48⟩
abbrev FLS_CMD_STATUS_CODE : Fld := ⟨0x118, 8, 3, 3⟩
abbrev FLS_CMD_STATUS_ERROR : Fld := ⟨0x118, 8, 2, 1⟩
abbrev FLS_CMD_STATUS_DONE : Fld := ⟨0x118, 8, 1, 1⟩
abbrev FLS_CMD_STATUS_BUSY : Fld := ⟨0x118, 8, 0, 1⟩
abbrev FLS_DATA : Fld := ⟨0x120, 8, 0, 48⟩
abbrev FLS_DATA_DATA : Fld := ⟨0x120, 8, 0, 48⟩
abbrev FLS_ERRORS : Fld := ⟨0x180, 8, 0, 48⟩
abbrev FLS_ERRORS_COUNT : Fld := ⟨0x180, 8, 0, 48⟩
/-- Source 3, NOTIFY. -/
abbrev S_FLASH_UNUSABLE : Nat := 3
/-- Source 4, NOTIFY. -/
abbrev S_FLASH_ERROR : Nat := 4
/-- Source 5, RECORD. -/
abbrev S_PROTECT_REFUSED : Nat := 5
end FLS

namespace THM
abbrev THM_CFG : Fld := ⟨0x100, 8, 0, 48⟩
abbrev THM_CFG_HOT_T : Fld := ⟨0x100, 8, 8, 8⟩
abbrev THM_CFG_WARN_T : Fld := ⟨0x100, 8, 0, 8⟩
abbrev THM_STATUS : Fld := ⟨0x108, 8, 0, 48⟩
abbrev THM_STATUS_MAX_T : Fld := ⟨0x108, 8, 32, 16⟩
abbrev THM_STATUS_MAX_SENSOR : Fld := ⟨0x108, 8, 26, 6⟩
abbrev THM_STATUS_SENSOR_FAILED : Fld := ⟨0x108, 8, 2, 1⟩
abbrev THM_STATUS_HOT : Fld := ⟨0x108, 8, 1, 1⟩
abbrev THM_STATUS_WARN : Fld := ⟨0x108, 8, 0, 1⟩
abbrev THM_SENSOR : Fld := ⟨0x140, 8, 0, 48⟩
abbrev THM_SENSOR_T0 : Fld := ⟨0x140, 8, 32, 16⟩
abbrev THM_SENSOR_T1 : Fld := ⟨0x140, 8, 16, 16⟩
abbrev THM_SENSOR_T2 : Fld := ⟨0x140, 8, 0, 16⟩
abbrev FAULT_STATUS : Fld := ⟨0x1c0, 8, 0, 48⟩
abbrev FAULT_STATUS_ASSERTED : Fld := ⟨0x1c0, 8, 0, 1⟩
abbrev GPIO_OUT : Fld := ⟨0x200, 8, 0, 48⟩
abbrev GPIO_OUT_PINS : Fld := ⟨0x200, 8, 0, 16⟩
abbrev GPIO_OE : Fld := ⟨0x208, 8, 0, 48⟩
abbrev GPIO_OE_PINS : Fld := ⟨0x208, 8, 0, 16⟩
abbrev GPIO_IN : Fld := ⟨0x210, 8, 0, 48⟩
abbrev GPIO_IN_PINS : Fld := ⟨0x210, 8, 0, 16⟩
abbrev GPIO_EDGE_EN : Fld := ⟨0x218, 8, 0, 48⟩
abbrev GPIO_EDGE_EN_FALL_EN : Fld := ⟨0x218, 8, 16, 16⟩
abbrev GPIO_EDGE_EN_RISE_EN : Fld := ⟨0x218, 8, 0, 16⟩
abbrev GPIO_EDGE : Fld := ⟨0x220, 8, 0, 48⟩
abbrev GPIO_EDGE_EDGE : Fld := ⟨0x220, 8, 0, 16⟩
/-- Source 3, NOTIFY. -/
abbrev S_TEMP_WARN : Nat := 3
/-- Source 4, NOTIFY. -/
abbrev S_TEMP_HOT : Nat := 4
/-- Source 5, RECORD. -/
abbrev S_SENSOR_FAIL : Nat := 5
/-- Source 6, RECORD. -/
abbrev S_GPIO_EDGE : Nat := 6
end THM

namespace MGB
abbrev MGB_CTL : Fld := ⟨0x100, 8, 0, 48⟩
abbrev MGB_CTL_SPEED : Fld := ⟨0x100, 8, 2, 2⟩
abbrev MGB_CTL_RECOVER : Fld := ⟨0x100, 8, 1, 1⟩
abbrev MGB_CTL_ENABLE : Fld := ⟨0x100, 8, 0, 1⟩
abbrev MGB_STATUS : Fld := ⟨0x108, 8, 0, 48⟩
abbrev MGB_STATUS_ISOLATED : Fld := ⟨0x108, 8, 4, 4⟩
abbrev MGB_STATUS_STUCK : Fld := ⟨0x108, 8, 3, 1⟩
abbrev MGB_STATUS_BUSY : Fld := ⟨0x108, 8, 2, 1⟩
abbrev MGB_STATUS_SEL : Fld := ⟨0x108, 8, 0, 2⟩
abbrev MGB_NACKS : Fld := ⟨0x110, 8, 0, 48⟩
abbrev MGB_NACKS_COUNT : Fld := ⟨0x110, 8, 0, 48⟩
abbrev MGB_RECOVERIES : Fld := ⟨0x118, 8, 0, 48⟩
abbrev MGB_RECOVERIES_COUNT : Fld := ⟨0x118, 8, 0, 48⟩
/-- Source 3, NOTIFY. -/
abbrev S_BUS_STUCK : Nat := 3
/-- Source 4, RECORD. -/
abbrev S_NACK : Nat := 4
/-- Source 5, RECORD. -/
abbrev S_TIMEOUT : Nat := 5
/-- Source 6, RECORD. -/
abbrev S_RECOVERED : Nat := 6
end MGB

namespace HIF
abbrev LINK_STATUS : Fld := ⟨0x100, 8, 0, 48⟩
abbrev LINK_STATUS_PORT : Fld := ⟨0x100, 8, 16, 1⟩
abbrev LINK_STATUS_NUM_VFS : Fld := ⟨0x100, 8, 8, 8⟩
abbrev LINK_STATUS_FLIT : Fld := ⟨0x100, 8, 7, 1⟩
abbrev LINK_STATUS_WIDTH : Fld := ⟨0x100, 8, 4, 3⟩
abbrev LINK_STATUS_RATE : Fld := ⟨0x100, 8, 1, 3⟩
abbrev LINK_STATUS_LINK_UP : Fld := ⟨0x100, 8, 0, 1⟩
abbrev HIF_CTL : Fld := ⟨0x108, 8, 0, 48⟩
abbrev HIF_CTL_BULK_EN : Fld := ⟨0x108, 8, 1, 1⟩
abbrev HIF_CTL_DMA_EN : Fld := ⟨0x108, 8, 0, 1⟩
abbrev ERR_ADDR : Fld := ⟨0x110, 8, 0, 48⟩
abbrev ERR_ADDR_VALID : Fld := ⟨0x110, 8, 47, 1⟩
abbrev ERR_ADDR_CAUSE : Fld := ⟨0x110, 8, 37, 3⟩
abbrev ERR_ADDR_WRITE : Fld := ⟨0x110, 8, 36, 1⟩
abbrev ERR_ADDR_FUNCTION : Fld := ⟨0x110, 8, 28, 8⟩
abbrev ERR_ADDR_OFFSET : Fld := ⟨0x110, 8, 0, 28⟩
abbrev LOG_SEL : Fld := ⟨0x118, 8, 0, 48⟩
abbrev LOG_SEL_PAGE : Fld := ⟨0x118, 8, 0, 16⟩
abbrev LOG_STATUS : Fld := ⟨0x120, 8, 0, 48⟩
abbrev LOG_STATUS_REFUSED : Fld := ⟨0x120, 8, 7, 1⟩
abbrev LOG_STATUS_DONE : Fld := ⟨0x120, 8, 6, 1⟩
abbrev LOG_STATUS_LOST : Fld := ⟨0x120, 8, 5, 1⟩
abbrev LOG_STATUS_COUNT : Fld := ⟨0x120, 8, 0, 5⟩
abbrev VF_SUMMARY : Fld := ⟨0x128, 8, 0, 48⟩
abbrev VF_SUMMARY_PENDING : Fld := ⟨0x128, 8, 0, 48⟩
abbrev LOG_ENTRY : Fld := ⟨0x140, 8, 0, 48⟩
abbrev LOG_ENTRY_ENTRY : Fld := ⟨0x140, 8, 0, 48⟩
abbrev BW_BASE : Fld := ⟨0x200, 8, 0, 48⟩
abbrev BW_BASE_BASE : Fld := ⟨0x200, 8, 24, 24⟩
abbrev RING_FULL_DROP : Fld := ⟨0x800, 8, 0, 48⟩
abbrev RING_FULL_DROP_COUNT : Fld := ⟨0x800, 8, 0, 48⟩
/-- Source 3, NOTIFY. -/
abbrev S_REG_TIMEOUT : Nat := 3
/-- Source 4, RECORD. -/
abbrev S_POWERED_OFF_WRITE : Nat := 4
/-- Source 5, RECORD. -/
abbrev S_UNMAPPED : Nat := 5
/-- Source 6, NOTIFY. -/
abbrev S_VECTOR_RANGE : Nat := 6
/-- Source 7, NOTIFY. -/
abbrev S_DMA_ERROR : Nat := 7
/-- Source 8, NOTIFY. -/
abbrev S_LINK_DOWN : Nat := 8
/-- Source 9, RECORD. -/
abbrev S_VF_FLR : Nat := 9
/-- Source 10, RECORD. -/
abbrev S_RING_FULL : Nat := 10
end HIF

namespace DMQ
abbrev RING_BASE : Fld := ⟨0x100, 64, 0, 48⟩
abbrev RING_BASE_ADDR : Fld := ⟨0x100, 64, 0, 48⟩
abbrev RING_CFG : Fld := ⟨0x108, 64, 0, 48⟩
abbrev RING_CFG_INGRESS_T : Fld := ⟨0x108, 64, 34, 5⟩
abbrev RING_CFG_QUEUE : Fld := ⟨0x108, 64, 30, 4⟩
abbrev RING_CFG_PARCEL : Fld := ⟨0x108, 64, 18, 12⟩
abbrev RING_CFG_INT_ENABLE : Fld := ⟨0x108, 64, 17, 1⟩
abbrev RING_CFG_VECTOR : Fld := ⟨0x108, 64, 6, 11⟩
abbrev RING_CFG_SIZE : Fld := ⟨0x108, 64, 2, 4⟩
abbrev RING_CFG_DIR : Fld := ⟨0x108, 64, 1, 1⟩
abbrev RING_CFG_ENABLE : Fld := ⟨0x108, 64, 0, 1⟩
abbrev RING_HEAD : Fld := ⟨0x110, 64, 0, 48⟩
abbrev RING_HEAD_HEAD : Fld := ⟨0x110, 64, 0, 15⟩
abbrev RING_TAIL : Fld := ⟨0x118, 64, 0, 48⟩
abbrev RING_TAIL_TAIL : Fld := ⟨0x118, 64, 0, 15⟩
abbrev RING_DROP : Fld := ⟨0x120, 64, 0, 48⟩
abbrev RING_DROP_COUNT : Fld := ⟨0x120, 64, 0, 48⟩
abbrev RING_PKTS : Fld := ⟨0x128, 64, 0, 48⟩
abbrev RING_PKTS_COUNT : Fld := ⟨0x128, 64, 0, 48⟩
abbrev ERR_RING : Fld := ⟨0x900, 8, 0, 48⟩
abbrev ERR_RING_SLOT : Fld := ⟨0x900, 8, 0, 5⟩
/-- Source 3, RECORD. -/
abbrev S_DESC_ERROR : Nat := 3
/-- Source 4, NOTIFY. -/
abbrev S_RING_DMA_ERROR : Nat := 4
end DMQ

namespace PCL
abbrev PARCEL_CFG : Fld := ⟨0x100, 56, 0, 48⟩
abbrev PARCEL_CFG_STRICT : Fld := ⟨0x100, 56, 9, 1⟩
abbrev PARCEL_CFG_PROFILE : Fld := ⟨0x100, 56, 1, 8⟩
abbrev PARCEL_CFG_VALID : Fld := ⟨0x100, 56, 0, 1⟩
abbrev BUF_QUOTA : Fld := ⟨0x108, 56, 0, 48⟩
abbrev BUF_QUOTA_MAX_CELLS : Fld := ⟨0x108, 56, 24, 21⟩
abbrev BUF_QUOTA_MIN_CELLS : Fld := ⟨0x108, 56, 0, 21⟩
abbrev RES_QUOTA : Fld := ⟨0x110, 56, 0, 48⟩
abbrev RES_QUOTA_CHANNELS : Fld := ⟨0x110, 56, 30, 15⟩
abbrev RES_QUOTA_COUNTERS : Fld := ⟨0x110, 56, 17, 13⟩
abbrev RES_QUOTA_NODES : Fld := ⟨0x110, 56, 0, 17⟩
abbrev RATE_QUOTA : Fld := ⟨0x118, 56, 0, 48⟩
abbrev RATE_QUOTA_STAKE_RATE : Fld := ⟨0x118, 56, 24, 24⟩
abbrev RATE_QUOTA_COPY_RATE : Fld := ⟨0x118, 56, 0, 24⟩
abbrev HBM_QUOTA : Fld := ⟨0x120, 56, 0, 48⟩
abbrev HBM_QUOTA_MAX_CHUNKS : Fld := ⟨0x120, 56, 0, 26⟩
abbrev BUF_USE : Fld := ⟨0x128, 56, 0, 48⟩
abbrev BUF_USE_PEAK : Fld := ⟨0x128, 56, 24, 21⟩
abbrev BUF_USE_CELLS : Fld := ⟨0x128, 56, 0, 21⟩
abbrev HBM_USE : Fld := ⟨0x130, 56, 0, 48⟩
abbrev HBM_USE_CHUNKS : Fld := ⟨0x130, 56, 0, 26⟩
abbrev QUOTA_HIT_LO : Fld := ⟨0xf00, 8, 0, 48⟩
abbrev QUOTA_HIT_LO_HIT : Fld := ⟨0xf00, 8, 0, 48⟩
abbrev QUOTA_HIT_HI : Fld := ⟨0xf08, 8, 0, 48⟩
abbrev QUOTA_HIT_HI_HIT : Fld := ⟨0xf08, 8, 0, 16⟩
abbrev IND_CMD : Fld := ⟨0xf10, 8, 0, 48⟩
abbrev IND_CMD_TARGET : Fld := ⟨0xf10, 8, 46, 2⟩
abbrev IND_CMD_WRITE : Fld := ⟨0xf10, 8, 45, 1⟩
abbrev IND_CMD_INDEX : Fld := ⟨0xf10, 8, 0, 16⟩
abbrev IND_STATUS : Fld := ⟨0xf18, 8, 0, 48⟩
abbrev IND_STATUS_ERROR : Fld := ⟨0xf18, 8, 1, 1⟩
abbrev IND_STATUS_BUSY : Fld := ⟨0xf18, 8, 0, 1⟩
abbrev IND_DATA : Fld := ⟨0xf20, 8, 0, 48⟩
abbrev IND_DATA_DATA : Fld := ⟨0xf20, 8, 0, 48⟩
/-- Source 3, NOTIFY. -/
abbrev S_QUOTA_HIT : Nat := 3
/-- Source 4, NOTIFY. -/
abbrev S_MIN_OVERCOMMIT : Nat := 4
/-- Source 5, RECORD. -/
abbrev S_QUOTA_FORMAT : Nat := 5
/-- Source 6, RECORD. -/
abbrev S_NO_EASEMENT : Nat := 6
/-- Source 7, RECORD. -/
abbrev S_IND_ERROR : Nat := 7
end PCL

namespace LMP
abbrev LMP_CTL : Fld := ⟨0x100, 8, 0, 48⟩
abbrev LMP_CTL_TAKE : Fld := ⟨0x100, 8, 8, 4⟩
abbrev LMP_CTL_RETRY : Fld := ⟨0x100, 8, 7, 1⟩
abbrev LMP_CTL_SAVE : Fld := ⟨0x100, 8, 6, 1⟩
abbrev LMP_CTL_SWAP_REQ : Fld := ⟨0x100, 8, 5, 1⟩
abbrev LMP_CTL_ENABLE : Fld := ⟨0x100, 8, 0, 1⟩
abbrev LMP_STATUS : Fld := ⟨0x108, 8, 0, 48⟩
abbrev LMP_STATUS_TAKE_REFUSED : Fld := ⟨0x108, 8, 24, 1⟩
abbrev LMP_STATUS_STANDBY_OK : Fld := ⟨0x108, 8, 20, 4⟩
abbrev LMP_STATUS_CARRY : Fld := ⟨0x108, 8, 16, 4⟩
abbrev LMP_STATUS_LASER_FAULT : Fld := ⟨0x108, 8, 12, 4⟩
abbrev LMP_STATUS_SWAP_READY : Fld := ⟨0x108, 8, 11, 1⟩
abbrev LMP_STATUS_STUCK : Fld := ⟨0x108, 8, 10, 1⟩
abbrev LMP_STATUS_ID_OK : Fld := ⟨0x108, 8, 9, 1⟩
abbrev LMP_STATUS_FAULT : Fld := ⟨0x108, 8, 8, 1⟩
abbrev LMP_STATUS_LEN : Fld := ⟨0x108, 8, 7, 1⟩
abbrev LMP_STATUS_INTLK : Fld := ⟨0x108, 8, 6, 1⟩
abbrev LMP_STATUS_PRESENT : Fld := ⟨0x108, 8, 5, 1⟩
abbrev LMP_STATUS_MSTATE : Fld := ⟨0x108, 8, 0, 3⟩
abbrev FAIL_CFG : Fld := ⟨0x110, 8, 0, 48⟩
abbrev FAIL_CFG_FILTER : Fld := ⟨0x110, 8, 8, 4⟩
abbrev FAIL_CFG_THRESH : Fld := ⟨0x110, 8, 0, 8⟩
abbrev WEAR_W : Fld := ⟨0x120, 8, 0, 48⟩
abbrev WEAR_W_WEIGHTED : Fld := ⟨0x120, 8, 0, 48⟩
abbrev LIFE : Fld := ⟨0x140, 8, 0, 48⟩
abbrev LIFE_WEAR_COUNT : Fld := ⟨0x140, 8, 16, 32⟩
abbrev LIFE_LIFE_USED : Fld := ⟨0x140, 8, 0, 16⟩
abbrev FAILOVERS : Fld := ⟨0x148, 8, 0, 48⟩
abbrev FAILOVERS_COUNT : Fld := ⟨0x148, 8, 0, 48⟩
abbrev MON_I : Fld := ⟨0x150, 8, 0, 48⟩
abbrev MON_I_VAL : Fld := ⟨0x150, 8, 0, 48⟩
abbrev MON_P : Fld := ⟨0x158, 8, 0, 48⟩
abbrev MON_P_VAL : Fld := ⟨0x158, 8, 0, 48⟩
abbrev MON_T : Fld := ⟨0x160, 8, 0, 48⟩
abbrev MON_T_CASE_T : Fld := ⟨0x160, 8, 0, 16⟩
abbrev MEM_CMD : Fld := ⟨0x170, 8, 0, 48⟩
abbrev MEM_CMD_WRITE : Fld := ⟨0x170, 8, 47, 1⟩
abbrev MEM_CMD_LEN : Fld := ⟨0x170, 8, 44, 3⟩
abbrev MEM_CMD_OFFSET : Fld := ⟨0x170, 8, 0, 16⟩
abbrev MEM_STATUS : Fld := ⟨0x178, 8, 0, 48⟩
abbrev MEM_STATUS_ERROR : Fld := ⟨0x178, 8, 2, 1⟩
abbrev MEM_STATUS_REFUSED : Fld := ⟨0x178, 8, 1, 1⟩
abbrev MEM_STATUS_BUSY : Fld := ⟨0x178, 8, 0, 1⟩
abbrev MEM_DATA : Fld := ⟨0x180, 8, 0, 48⟩
abbrev MEM_DATA_DATA : Fld := ⟨0x180, 8, 0, 48⟩
/-- Source 3, RECORD. -/
abbrev S_PRESENT_CHANGE : Nat := 3
/-- Source 4, NOTIFY. -/
abbrev S_ID_BAD : Nat := 4
/-- Source 5, NOTIFY. -/
abbrev S_INTERLOCK_OPEN : Nat := 5
/-- Source 6, DEGRADE. -/
abbrev S_LASER_FAIL : Nat := 6
/-- Source 7, NOTIFY. -/
abbrev S_NO_STANDBY : Nat := 7
/-- Source 8, NOTIFY. -/
abbrev S_STANDBY_FAIL : Nat := 8
/-- Source 9, NOTIFY. -/
abbrev S_WEAR_80 : Nat := 9
/-- Source 10, NOTIFY. -/
abbrev S_WEAR_95 : Nat := 10
/-- Source 11, NOTIFY. -/
abbrev S_LIFE_EXCEEDED : Nat := 11
/-- Source 12, NOTIFY. -/
abbrev S_BUS_STUCK : Nat := 12
/-- Source 13, RECORD. -/
abbrev S_WEAR_RECORD : Nat := 13
/-- Source 14, NOTIFY. -/
abbrev S_CASE_HOT : Nat := 14
end LMP

namespace OEN
abbrev OEN_CTL : Fld := ⟨0x100, 8, 0, 48⟩
abbrev OEN_CTL_AUTO_SAVE : Fld := ⟨0x100, 8, 1, 1⟩
abbrev OEN_CTL_TX_EN : Fld := ⟨0x100, 8, 0, 1⟩
abbrev OEN_STATUS : Fld := ⟨0x108, 8, 0, 48⟩
abbrev OEN_STATUS_ENG_TEMP : Fld := ⟨0x108, 8, 16, 16⟩
abbrev OEN_STATUS_RINGS_LOCKED : Fld := ⟨0x108, 8, 5, 6⟩
abbrev OEN_STATUS_FAU_PRESENT : Fld := ⟨0x108, 8, 4, 1⟩
abbrev OEN_STATUS_FEED_SEL : Fld := ⟨0x108, 8, 0, 4⟩
abbrev FEED_POWER_A : Fld := ⟨0x110, 8, 0, 48⟩
abbrev FEED_POWER_A_VAL : Fld := ⟨0x110, 8, 0, 48⟩
abbrev FEED_POWER_B : Fld := ⟨0x118, 8, 0, 48⟩
abbrev FEED_POWER_B_VAL : Fld := ⟨0x118, 8, 0, 48⟩
abbrev CAL_CMD : Fld := ⟨0x120, 8, 0, 48⟩
abbrev CAL_CMD_SAVE : Fld := ⟨0x120, 8, 0, 1⟩
abbrev CAL_STATUS : Fld := ⟨0x128, 8, 0, 48⟩
abbrev CAL_STATUS_SEQ : Fld := ⟨0x128, 8, 16, 32⟩
abbrev CAL_STATUS_BUSY : Fld := ⟨0x128, 8, 3, 1⟩
abbrev CAL_STATUS_DEVICE : Fld := ⟨0x128, 8, 2, 1⟩
abbrev CAL_STATUS_SLOT : Fld := ⟨0x128, 8, 1, 1⟩
abbrev CAL_STATUS_VALID : Fld := ⟨0x128, 8, 0, 1⟩
abbrev TAP_SEL : Fld := ⟨0x130, 8, 0, 48⟩
abbrev TAP_SEL_WL : Fld := ⟨0x130, 8, 4, 2⟩
abbrev TAP_SEL_PORT : Fld := ⟨0x130, 8, 1, 3⟩
abbrev TAP_SEL_EN : Fld := ⟨0x130, 8, 0, 1⟩
abbrev TAP_STATUS : Fld := ⟨0x138, 8, 0, 48⟩
abbrev TAP_STATUS_CLOSURE : Fld := ⟨0x138, 8, 2, 1⟩
abbrev TAP_STATUS_PAT_LOCK : Fld := ⟨0x138, 8, 1, 1⟩
abbrev TAP_STATUS_ALIGNED : Fld := ⟨0x138, 8, 0, 1⟩
abbrev TAP_ERRORS : Fld := ⟨0x140, 8, 0, 48⟩
abbrev TAP_ERRORS_COUNT : Fld := ⟨0x140, 8, 0, 48⟩
abbrev PORT_SPARE : Fld := ⟨0x180, 8, 0, 48⟩
abbrev PORT_SPARE_PROFILE : Fld := ⟨0x180, 8, 0, 2⟩
abbrev SPARE_STATUS : Fld := ⟨0x1c0, 8, 0, 48⟩
abbrev SPARE_STATUS_WIDTH : Fld := ⟨0x1c0, 8, 8, 2⟩
abbrev SPARE_STATUS_IN_USE : Fld := ⟨0x1c0, 8, 4, 4⟩
abbrev SPARE_STATUS_SPARED : Fld := ⟨0x1c0, 8, 0, 4⟩
abbrev SPARE_CMD : Fld := ⟨0x200, 8, 0, 48⟩
abbrev SPARE_CMD_RESTORE : Fld := ⟨0x200, 8, 0, 8⟩
/-- Source 3, RECORD. -/
abbrev S_CAL_SLOT_BAD : Nat := 3
/-- Source 4, NOTIFY. -/
abbrev S_CAL_NONE : Nat := 4
/-- Source 5, NOTIFY. -/
abbrev S_CAL_WRITE_FAIL : Nat := 5
/-- Source 6, NOTIFY. -/
abbrev S_FAU_CHANGE : Nat := 6
/-- Source 7, NOTIFY. -/
abbrev S_ENGINE_HOT : Nat := 7
/-- Source 8, DEGRADE. -/
abbrev S_LANE_SPARED : Nat := 8
/-- Source 9, NOTIFY. -/
abbrev S_SPARE_REFUSED : Nat := 9
end OEN

namespace LN
abbrev LANE_CTL : Fld := ⟨0x100, 8, 0, 48⟩
abbrev LANE_CTL_AN_EN : Fld := ⟨0x100, 8, 15, 1⟩
abbrev LANE_CTL_PRECODE_ALLOW : Fld := ⟨0x100, 8, 14, 1⟩
abbrev LANE_CTL_TRAIN_EN : Fld := ⟨0x100, 8, 13, 1⟩
abbrev LANE_CTL_RX_INVERT : Fld := ⟨0x100, 8, 12, 1⟩
abbrev LANE_CTL_TX_INVERT : Fld := ⟨0x100, 8, 11, 1⟩
abbrev LANE_CTL_MEDIUM : Fld := ⟨0x100, 8, 9, 2⟩
abbrev LANE_CTL_FABRIC : Fld := ⟨0x100, 8, 8, 1⟩
abbrev LANE_CTL_RATE : Fld := ⟨0x100, 8, 0, 3⟩
abbrev LANE_STATUS : Fld := ⟨0x108, 8, 0, 48⟩
abbrev LANE_STATUS_BACKOFF : Fld := ⟨0x108, 8, 24, 16⟩
abbrev LANE_STATUS_ATTEMPTS : Fld := ⟨0x108, 8, 16, 8⟩
abbrev LANE_STATUS_PRECODE_ON : Fld := ⟨0x108, 8, 11, 1⟩
abbrev LANE_STATUS_LOCKED : Fld := ⟨0x108, 8, 10, 1⟩
abbrev LANE_STATUS_SIG_DET : Fld := ⟨0x108, 8, 9, 1⟩
abbrev LANE_STATUS_PEER_PRESENT : Fld := ⟨0x108, 8, 8, 1⟩
abbrev LANE_STATUS_LSTATE : Fld := ⟨0x108, 8, 0, 4⟩
abbrev TRAIN_FAILS : Fld := ⟨0x110, 8, 0, 48⟩
abbrev TRAIN_FAILS_COUNT : Fld := ⟨0x110, 8, 0, 48⟩
abbrev PEER_LOSTS : Fld := ⟨0x118, 8, 0, 48⟩
abbrev PEER_LOSTS_COUNT : Fld := ⟨0x118, 8, 0, 48⟩
abbrev LANE_LOSSES : Fld := ⟨0x120, 8, 0, 48⟩
abbrev LANE_LOSSES_COUNT : Fld := ⟨0x120, 8, 0, 48⟩
abbrev BER_CFG : Fld := ⟨0x128, 8, 0, 48⟩
abbrev BER_CFG_MANT : Fld := ⟨0x128, 8, 4, 4⟩
abbrev BER_CFG_EXP : Fld := ⟨0x128, 8, 0, 4⟩
abbrev CORR_BITS : Fld := ⟨0x130, 8, 0, 48⟩
abbrev CORR_BITS_COUNT : Fld := ⟨0x130, 8, 0, 48⟩
abbrev PAT_CTL : Fld := ⟨0x140, 8, 0, 48⟩
abbrev PAT_CTL_CHK_EN : Fld := ⟨0x140, 8, 15, 1⟩
abbrev PAT_CTL_CHK_SEL : Fld := ⟨0x140, 8, 12, 3⟩
abbrev PAT_CTL_GEN_EN : Fld := ⟨0x140, 8, 11, 1⟩
abbrev PAT_CTL_GEN_SEL : Fld := ⟨0x140, 8, 8, 3⟩
abbrev PAT_CTL_USER_LEN : Fld := ⟨0x140, 8, 0, 8⟩
abbrev PAT_STATUS : Fld := ⟨0x148, 8, 0, 48⟩
abbrev PAT_STATUS_PAT_LOCK : Fld := ⟨0x148, 8, 1, 1⟩
abbrev PAT_STATUS_GEN_ON : Fld := ⟨0x148, 8, 0, 1⟩
abbrev PAT_ERRORS : Fld := ⟨0x150, 8, 0, 48⟩
abbrev PAT_ERRORS_COUNT : Fld := ⟨0x150, 8, 0, 48⟩
abbrev PAT_BITS : Fld := ⟨0x158, 8, 0, 48⟩
abbrev PAT_BITS_COUNT : Fld := ⟨0x158, 8, 0, 48⟩
abbrev INJ_CFG : Fld := ⟨0x160, 8, 0, 48⟩
abbrev INJ_CFG_BURST_LEN : Fld := ⟨0x160, 8, 16, 8⟩
abbrev INJ_CFG_RATE : Fld := ⟨0x160, 8, 10, 6⟩
abbrev INJ_CFG_TARGET : Fld := ⟨0x160, 8, 9, 1⟩
abbrev INJ_CFG_MODE : Fld := ⟨0x160, 8, 0, 2⟩
abbrev INJ_CMD : Fld := ⟨0x168, 8, 0, 48⟩
abbrev INJ_CMD_FIRE : Fld := ⟨0x168, 8, 0, 1⟩
abbrev INJ_COUNT : Fld := ⟨0x170, 8, 0, 48⟩
abbrev INJ_COUNT_COUNT : Fld := ⟨0x170, 8, 0, 48⟩
abbrev PAT_USER : Fld := ⟨0x178, 8, 0, 48⟩
abbrev PAT_USER_BITS : Fld := ⟨0x178, 8, 0, 48⟩
/-- Source 3, RECORD. -/
abbrev S_STATE_CHANGE : Nat := 3
/-- Source 4, RECORD. -/
abbrev S_TRAIN_TIMEOUT : Nat := 4
/-- Source 5, RECORD. -/
abbrev S_PEER_LOST : Nat := 5
/-- Source 6, NOTIFY. -/
abbrev S_ATTEMPTS_EXCEEDED : Nat := 6
/-- Source 7, RECORD. -/
abbrev S_LOCK_TIMEOUT : Nat := 7
/-- Source 8, RECORD. -/
abbrev S_TIEIN_FAIL : Nat := 8
/-- Source 9, NOTIFY. -/
abbrev S_LANE_LOSS : Nat := 9
/-- Source 10, DEGRADE. -/
abbrev S_SPARED_ENTRY : Nat := 10
/-- Source 11, NOTIFY. -/
abbrev S_LANE_DEGRADED : Nat := 11
/-- Source 12, RECORD. -/
abbrev S_PAT_LOCK_LOST : Nat := 12
/-- Source 13, NOTIFY. -/
abbrev S_SEQ_FAULT : Nat := 13
/-- Source 14, RECORD. -/
abbrev S_ADAPT_LIMIT : Nat := 14
/-- Source 15, NOTIFY. -/
abbrev S_MODE_MISMATCH : Nat := 15
end LN

namespace ELN
abbrev TX_EQ : Fld := ⟨0x200, 8, 0, 48⟩
abbrev TX_EQ_C0 : Fld := ⟨0x200, 8, 40, 8⟩
abbrev TX_EQ_C1 : Fld := ⟨0x200, 8, 32, 8⟩
abbrev TX_EQ_CM1 : Fld := ⟨0x200, 8, 24, 8⟩
abbrev TX_EQ_CM2 : Fld := ⟨0x200, 8, 16, 8⟩
abbrev TX_EQ_CM3 : Fld := ⟨0x200, 8, 8, 8⟩
abbrev TX_EQ_CFG : Fld := ⟨0x208, 8, 0, 48⟩
abbrev TX_EQ_CFG_INIT_PRESET : Fld := ⟨0x208, 8, 4, 4⟩
abbrev TX_EQ_CFG_SWING : Fld := ⟨0x208, 8, 0, 4⟩
abbrev RX_EQ_CTL : Fld := ⟨0x210, 8, 0, 48⟩
abbrev RX_EQ_CTL_FREEZE : Fld := ⟨0x210, 8, 5, 1⟩
abbrev RX_EQ_CTL_MANUAL : Fld := ⟨0x210, 8, 4, 1⟩
abbrev RX_EQ_CTL_CTLE_CODE : Fld := ⟨0x210, 8, 0, 4⟩
abbrev RX_EQ_STATUS : Fld := ⟨0x218, 8, 0, 48⟩
abbrev RX_EQ_STATUS_SNR : Fld := ⟨0x218, 8, 32, 16⟩
abbrev RX_EQ_STATUS_DFE1 : Fld := ⟨0x218, 8, 24, 8⟩
abbrev RX_EQ_STATUS_FFE_MAIN : Fld := ⟨0x218, 8, 16, 8⟩
abbrev RX_EQ_STATUS_ADAPT_DONE : Fld := ⟨0x218, 8, 12, 1⟩
abbrev RX_EQ_STATUS_VGA : Fld := ⟨0x218, 8, 8, 4⟩
abbrev RX_EQ_STATUS_CTLE : Fld := ⟨0x218, 8, 0, 4⟩
end ELN

namespace OLN
abbrev RING_CTL : Fld := ⟨0x200, 8, 0, 48⟩
abbrev RING_CTL_MODE : Fld := ⟨0x200, 8, 16, 1⟩
abbrev RING_CTL_MANUAL_CODE : Fld := ⟨0x200, 8, 0, 16⟩
abbrev RING_STATUS : Fld := ⟨0x208, 8, 0, 48⟩
abbrev RING_STATUS_HOLD : Fld := ⟨0x208, 8, 32, 16⟩
abbrev RING_STATUS_CODE : Fld := ⟨0x208, 8, 16, 16⟩
abbrev RING_STATUS_RSTATE : Fld := ⟨0x208, 8, 0, 3⟩
abbrev OPT_POWER : Fld := ⟨0x210, 8, 0, 48⟩
abbrev OPT_POWER_TX_POWER : Fld := ⟨0x210, 8, 16, 16⟩
abbrev OPT_POWER_RX_POWER : Fld := ⟨0x210, 8, 0, 16⟩
abbrev RELOCKS : Fld := ⟨0x218, 8, 0, 48⟩
abbrev RELOCKS_COUNT : Fld := ⟨0x218, 8, 0, 48⟩
abbrev LOS_CFG : Fld := ⟨0x220, 8, 0, 48⟩
abbrev LOS_CFG_LOS_HOLD : Fld := ⟨0x220, 8, 0, 8⟩
/-- Source 16, NOTIFY. -/
abbrev S_RING_UNLOCK : Nat := 16
/-- Source 17, NOTIFY. -/
abbrev S_RING_LIMIT : Nat := 17
/-- Source 18, RECORD. -/
abbrev S_RX_LOS : Nat := 18
/-- Source 19, NOTIFY. -/
abbrev S_TX_POWER_LOW : Nat := 19
/-- Source 20, NOTIFY. -/
abbrev S_TAP_FAIL : Nat := 20
end OLN

namespace LSQ
abbrev SEQ_STATUS : Fld := ⟨0x100, 8, 0, 48⟩
abbrev SEQ_STATUS_ROM_ID : Fld := ⟨0x100, 8, 24, 16⟩
abbrev SEQ_STATUS_IMAGE_VALID : Fld := ⟨0x100, 8, 23, 1⟩
abbrev SEQ_STATUS_LOCKED : Fld := ⟨0x100, 8, 22, 1⟩
abbrev SEQ_STATUS_TSTATE : Fld := ⟨0x100, 8, 0, 18⟩
abbrev THREAD_MODE : Fld := ⟨0x108, 8, 0, 48⟩
abbrev THREAD_MODE_IN_TRAP : Fld := ⟨0x108, 8, 16, 9⟩
abbrev THREAD_MODE_VERTICAL : Fld := ⟨0x108, 8, 0, 9⟩
abbrev TRAP_REC : Fld := ⟨0x110, 8, 0, 48⟩
abbrev TRAP_REC_CAUSE : Fld := ⟨0x110, 8, 44, 4⟩
abbrev TRAP_REC_DEPTH : Fld := ⟨0x110, 8, 40, 4⟩
abbrev TRAP_REC_SPACE : Fld := ⟨0x110, 8, 39, 1⟩
abbrev TRAP_REC_ADDR : Fld := ⟨0x110, 8, 24, 14⟩
abbrev TRAP_REC_COUNT : Fld := ⟨0x110, 8, 16, 8⟩
abbrev TRAP_REC_CODE : Fld := ⟨0x110, 8, 8, 8⟩
abbrev TRAPS : Fld := ⟨0x158, 8, 0, 48⟩
abbrev TRAPS_COUNT : Fld := ⟨0x158, 8, 0, 48⟩
abbrev STALLS : Fld := ⟨0x160, 8, 0, 48⟩
abbrev STALLS_COUNT : Fld := ⟨0x160, 8, 0, 48⟩
abbrev RECOVERIES : Fld := ⟨0x168, 8, 0, 48⟩
abbrev RECOVERIES_COUNT : Fld := ⟨0x168, 8, 0, 48⟩
abbrev CORRECTED : Fld := ⟨0x170, 8, 0, 48⟩
abbrev CORRECTED_COUNT : Fld := ⟨0x170, 8, 0, 48⟩
abbrev MBX_CMD : Fld := ⟨0x180, 8, 0, 48⟩
abbrev MBX_CMD_OPCODE : Fld := ⟨0x180, 8, 40, 8⟩
abbrev MBX_CMD_THREAD : Fld := ⟨0x180, 8, 36, 4⟩
abbrev MBX_ARG : Fld := ⟨0x188, 8, 0, 48⟩
abbrev MBX_ARG_ARG1 : Fld := ⟨0x188, 8, 24, 24⟩
abbrev MBX_ARG_ARG0 : Fld := ⟨0x188, 8, 0, 24⟩
abbrev MBX_STATUS : Fld := ⟨0x190, 8, 0, 48⟩
abbrev MBX_STATUS_RESULT : Fld := ⟨0x190, 8, 2, 3⟩
abbrev MBX_STATUS_DONE : Fld := ⟨0x190, 8, 1, 1⟩
abbrev MBX_STATUS_BUSY : Fld := ⟨0x190, 8, 0, 1⟩
abbrev MBX_RSP : Fld := ⟨0x198, 8, 0, 48⟩
abbrev MBX_RSP_DATA : Fld := ⟨0x198, 8, 0, 48⟩
abbrev IMG_CTL : Fld := ⟨0x300, 8, 0, 48⟩
abbrev IMG_CTL_SLOT : Fld := ⟨0x300, 8, 1, 2⟩
abbrev IMG_CTL_RELOAD : Fld := ⟨0x300, 8, 0, 1⟩
abbrev IMG_STATUS : Fld := ⟨0x308, 8, 0, 48⟩
abbrev IMG_STATUS_SVN : Fld := ⟨0x308, 8, 32, 8⟩
abbrev IMG_STATUS_REJECTED : Fld := ⟨0x308, 8, 12, 4⟩
abbrev IMG_STATUS_COPY : Fld := ⟨0x308, 8, 10, 2⟩
abbrev IMG_STATUS_BANK : Fld := ⟨0x308, 8, 9, 1⟩
abbrev IMG_STATUS_VERIFIED : Fld := ⟨0x308, 8, 8, 1⟩
abbrev IMG_STATUS_REASON : Fld := ⟨0x308, 8, 4, 4⟩
abbrev IMG_STATUS_BUSY : Fld := ⟨0x308, 8, 0, 1⟩
abbrev IMG_VERSION : Fld := ⟨0x310, 8, 0, 48⟩
abbrev IMG_VERSION_VERSION : Fld := ⟨0x310, 8, 0, 32⟩
abbrev IMG_LOADS : Fld := ⟨0x318, 8, 0, 48⟩
abbrev IMG_LOADS_COUNT : Fld := ⟨0x318, 8, 0, 48⟩
abbrev IMG_REJECTS : Fld := ⟨0x320, 8, 0, 48⟩
abbrev IMG_REJECTS_COUNT : Fld := ⟨0x320, 8, 0, 48⟩
/-- Source 3, RECORD. -/
abbrev S_THREAD_TRAP : Nat := 3
/-- Source 4, NOTIFY. -/
abbrev S_THREAD_HALT : Nat := 4
/-- Source 5, NOTIFY. -/
abbrev S_STALL : Nat := 5
/-- Source 6, NOTIFY. -/
abbrev S_STALL_RESYNC : Nat := 6
/-- Source 7, RECORD. -/
abbrev S_STORE_CORRECTED : Nat := 7
/-- Source 8, DEGRADE. -/
abbrev S_STORE_INVALID : Nat := 8
/-- Source 9, NOTIFY. -/
abbrev S_GROUP_HALT : Nat := 9
/-- Source 10, HALT. -/
abbrev S_NO_IMAGE : Nat := 10
/-- Source 11, RECORD. -/
abbrev S_MBX_REFUSED : Nat := 11
/-- Source 12, NOTIFY. -/
abbrev S_IMG_REJECT : Nat := 12
/-- Source 13, NOTIFY. -/
abbrev S_IMG_NONE : Nat := 13
/-- Source 14, NOTIFY. -/
abbrev S_STAGING_WRITE : Nat := 14
/-- Source 15, RECORD. -/
abbrev S_IMG_LOADED : Nat := 15
end LSQ

namespace PEN
abbrev PE_CFG : Fld := ⟨0x100, 8, 0, 48⟩
abbrev PE_CFG_SPARE_PROFILE : Fld := ⟨0x100, 8, 2, 2⟩
abbrev PE_CFG_BREAKOUT : Fld := ⟨0x100, 8, 0, 2⟩
abbrev LP_CTL : Fld := ⟨0x110, 8, 0, 48⟩
abbrev LP_CTL_MAX_FRAME : Fld := ⟨0x110, 8, 19, 14⟩
abbrev LP_CTL_PFC_TX_EN : Fld := ⟨0x110, 8, 11, 8⟩
abbrev LP_CTL_PFC_RX_EN : Fld := ⟨0x110, 8, 3, 8⟩
abbrev LP_CTL_FC_MODE : Fld := ⟨0x110, 8, 1, 2⟩
abbrev LP_CTL_ENABLE : Fld := ⟨0x110, 8, 0, 1⟩
abbrev LP_STATUS : Fld := ⟨0x130, 8, 0, 48⟩
abbrev LP_STATUS_XOFF_SENT : Fld := ⟨0x130, 8, 34, 8⟩
abbrev LP_STATUS_PAUSED : Fld := ⟨0x130, 8, 26, 8⟩
abbrev LP_STATUS_REMOTE_FAULT : Fld := ⟨0x130, 8, 25, 1⟩
abbrev LP_STATUS_LOCAL_FAULT : Fld := ⟨0x130, 8, 24, 1⟩
abbrev LP_STATUS_RATE : Fld := ⟨0x130, 8, 8, 16⟩
abbrev LP_STATUS_LANES : Fld := ⟨0x130, 8, 4, 4⟩
abbrev LP_STATUS_LSTATE : Fld := ⟨0x130, 8, 0, 3⟩
abbrev PFC_MAP : Fld := ⟨0x150, 8, 0, 48⟩
abbrev PFC_MAP_CLASS : Fld := ⟨0x150, 8, 0, 48⟩
abbrev PAUSE_SA : Fld := ⟨0x170, 8, 0, 48⟩
abbrev PAUSE_SA_ADDR : Fld := ⟨0x170, 8, 0, 48⟩
abbrev PFC_TX_CFG : Fld := ⟨0x178, 8, 0, 48⟩
abbrev PFC_TX_CFG_WD_MS : Fld := ⟨0x178, 8, 32, 16⟩
abbrev PFC_TX_CFG_REFRESH : Fld := ⟨0x178, 8, 16, 16⟩
abbrev PFC_TX_CFG_QUANTA : Fld := ⟨0x178, 8, 0, 16⟩
abbrev TIEIN_STATUS : Fld := ⟨0x180, 8, 0, 48⟩
abbrev TIEIN_STATUS_PEER_DEV_HI : Fld := ⟨0x180, 8, 32, 16⟩
abbrev TIEIN_STATUS_VALID : Fld := ⟨0x180, 8, 26, 1⟩
abbrev TIEIN_STATUS_PEER_SUB : Fld := ⟨0x180, 8, 24, 2⟩
abbrev TIEIN_STATUS_PEER_PE : Fld := ⟨0x180, 8, 16, 8⟩
abbrev TIEIN_STATUS_REASON : Fld := ⟨0x180, 8, 8, 4⟩
abbrev TIEIN_STATUS_AGREED : Fld := ⟨0x180, 8, 0, 4⟩
abbrev PEER_DEV : Fld := ⟨0x1a0, 8, 0, 48⟩
abbrev PEER_DEV_ID : Fld := ⟨0x1a0, 8, 0, 48⟩
abbrev TS_META : Fld := ⟨0x1c0, 8, 0, 48⟩
abbrev TS_META_VALID : Fld := ⟨0x1c0, 8, 47, 1⟩
abbrev TS_META_DATUM : Fld := ⟨0x1c0, 8, 36, 2⟩
abbrev TS_META_LP : Fld := ⟨0x1c0, 8, 26, 10⟩
abbrev TS_META_COOKIE : Fld := ⟨0x1c0, 8, 0, 16⟩
abbrev TS_SEC : Fld := ⟨0x1c8, 8, 0, 48⟩
abbrev TS_SEC_SECONDS : Fld := ⟨0x1c8, 8, 0, 48⟩
abbrev TS_NS : Fld := ⟨0x1d0, 8, 0, 48⟩
abbrev TS_NS_NS : Fld := ⟨0x1d0, 8, 16, 30⟩
abbrev TS_NS_FRAC : Fld := ⟨0x1d0, 8, 0, 16⟩
abbrev CTR_WRAP_LO : Fld := ⟨0x700, 16, 0, 48⟩
abbrev CTR_WRAP_LO_WRAP : Fld := ⟨0x700, 16, 0, 48⟩
abbrev CTR_WRAP_HI : Fld := ⟨0x708, 16, 0, 48⟩
abbrev CTR_WRAP_HI_WRAP : Fld := ⟨0x708, 16, 0, 16⟩
abbrev C_PEER_LOSTS : Fld := ⟨0x200, 8, 0, 48⟩
abbrev C_LINK_DOWNS : Fld := ⟨0x208, 8, 0, 48⟩
abbrev C_TIEIN_FAILS : Fld := ⟨0x228, 8, 0, 48⟩
abbrev C_LANE_MOVES : Fld := ⟨0x230, 8, 0, 48⟩
abbrev C_TS_FIFO_LOST : Fld := ⟨0x238, 8, 0, 48⟩
abbrev C_PFC_STORMS : Fld := ⟨0x240, 8, 0, 48⟩
abbrev C_RX_OCTETS_OK : Fld := ⟨0x800, 512, 0, 48⟩
abbrev C_TX_OCTETS_OK : Fld := ⟨0x900, 512, 0, 48⟩
abbrev C_RX_FRAMES_OK : Fld := ⟨0x808, 512, 0, 48⟩
abbrev C_TX_FRAMES_OK : Fld := ⟨0x908, 512, 0, 48⟩
abbrev C_RX_UCAST : Fld := ⟨0x810, 512, 0, 48⟩
abbrev C_TX_UCAST : Fld := ⟨0x910, 512, 0, 48⟩
abbrev C_RX_MCAST : Fld := ⟨0x818, 512, 0, 48⟩
abbrev C_TX_MCAST : Fld := ⟨0x918, 512, 0, 48⟩
abbrev C_RX_BCAST : Fld := ⟨0x820, 512, 0, 48⟩
abbrev C_TX_BCAST : Fld := ⟨0x920, 512, 0, 48⟩
abbrev C_RX_PAUSE : Fld := ⟨0x828, 512, 0, 48⟩
abbrev C_TX_PAUSE : Fld := ⟨0x928, 512, 0, 48⟩
abbrev C_RX_PFC : Fld := ⟨0x830, 512, 0, 48⟩
abbrev C_TX_PFC : Fld := ⟨0x930, 512, 0, 48⟩
abbrev C_RX_FCS_ERRORS : Fld := ⟨0x838, 512, 0, 48⟩
abbrev C_TX_STOMPED : Fld := ⟨0x938, 512, 0, 48⟩
abbrev C_RX_UNDERSIZE : Fld := ⟨0x840, 512, 0, 48⟩
abbrev C_TX_UNDERRUN : Fld := ⟨0x940, 512, 0, 48⟩
abbrev C_RX_FRAGMENTS : Fld := ⟨0x848, 512, 0, 48⟩
abbrev C_TX_TAG_ERRORS : Fld := ⟨0x948, 512, 0, 48⟩
abbrev C_RX_OVERSIZE : Fld := ⟨0x850, 512, 0, 48⟩
abbrev C_TX_DARK_LOST : Fld := ⟨0x950, 512, 0, 48⟩
abbrev C_RX_JABBER : Fld := ⟨0x858, 512, 0, 48⟩
abbrev C_TX_SPARE_LOST : Fld := ⟨0x958, 512, 0, 48⟩
abbrev C_RX_CODE_ERRORS : Fld := ⟨0x860, 512, 0, 48⟩
abbrev C_TX_TS_INSERTED : Fld := ⟨0x960, 512, 0, 48⟩
abbrev C_RX_MAC_CTL_DISCARD : Fld := ⟨0x868, 512, 0, 48⟩
abbrev C_TX_TS_REFUSED : Fld := ⟨0x968, 512, 0, 48⟩
abbrev C_RX_LOST : Fld := ⟨0x870, 512, 0, 48⟩
abbrev C_RX_OVERRUN : Fld := ⟨0x878, 512, 0, 48⟩
abbrev C_TX_SIZE0 : Fld := ⟨0x980, 512, 0, 48⟩
abbrev C_TX_SIZE1 : Fld := ⟨0x988, 512, 0, 48⟩
abbrev C_TX_SIZE2 : Fld := ⟨0x990, 512, 0, 48⟩
abbrev C_TX_SIZE3 : Fld := ⟨0x998, 512, 0, 48⟩
abbrev C_TX_SIZE4 : Fld := ⟨0x9a0, 512, 0, 48⟩
abbrev C_TX_SIZE5 : Fld := ⟨0x9a8, 512, 0, 48⟩
abbrev C_TX_SIZE6 : Fld := ⟨0x9b0, 512, 0, 48⟩
abbrev C_TX_SIZE7 : Fld := ⟨0x9b8, 512, 0, 48⟩
abbrev C_RX_SIZE0 : Fld := ⟨0x880, 512, 0, 48⟩
abbrev C_RX_SIZE1 : Fld := ⟨0x888, 512, 0, 48⟩
abbrev C_RX_SIZE2 : Fld := ⟨0x890, 512, 0, 48⟩
abbrev C_RX_SIZE3 : Fld := ⟨0x898, 512, 0, 48⟩
abbrev C_RX_SIZE4 : Fld := ⟨0x8a0, 512, 0, 48⟩
abbrev C_RX_SIZE5 : Fld := ⟨0x8a8, 512, 0, 48⟩
abbrev C_RX_SIZE6 : Fld := ⟨0x8b0, 512, 0, 48⟩
abbrev C_RX_SIZE7 : Fld := ⟨0x8b8, 512, 0, 48⟩
abbrev C_TX_PFC_XOFF0 : Fld := ⟨0x9c0, 512, 0, 48⟩
abbrev C_TX_PFC_XOFF1 : Fld := ⟨0x9c8, 512, 0, 48⟩
abbrev C_TX_PFC_XOFF2 : Fld := ⟨0x9d0, 512, 0, 48⟩
abbrev C_TX_PFC_XOFF3 : Fld := ⟨0x9d8, 512, 0, 48⟩
abbrev C_TX_PFC_XOFF4 : Fld := ⟨0x9e0, 512, 0, 48⟩
abbrev C_TX_PFC_XOFF5 : Fld := ⟨0x9e8, 512, 0, 48⟩
abbrev C_TX_PFC_XOFF6 : Fld := ⟨0x9f0, 512, 0, 48⟩
abbrev C_TX_PFC_XOFF7 : Fld := ⟨0x9f8, 512, 0, 48⟩
abbrev C_RX_PFC_XOFF0 : Fld := ⟨0x8c0, 512, 0, 48⟩
abbrev C_RX_PFC_XOFF1 : Fld := ⟨0x8c8, 512, 0, 48⟩
abbrev C_RX_PFC_XOFF2 : Fld := ⟨0x8d0, 512, 0, 48⟩
abbrev C_RX_PFC_XOFF3 : Fld := ⟨0x8d8, 512, 0, 48⟩
abbrev C_RX_PFC_XOFF4 : Fld := ⟨0x8e0, 512, 0, 48⟩
abbrev C_RX_PFC_XOFF5 : Fld := ⟨0x8e8, 512, 0, 48⟩
abbrev C_RX_PFC_XOFF6 : Fld := ⟨0x8f0, 512, 0, 48⟩
abbrev C_RX_PFC_XOFF7 : Fld := ⟨0x8f8, 512, 0, 48⟩
/-- Source 3, RECORD. -/
abbrev S_LINK_CHANGE : Nat := 3
/-- Source 4, NOTIFY. -/
abbrev S_TIEIN_REFUSED : Nat := 4
/-- Source 5, NOTIFY. -/
abbrev S_TAG_ERROR : Nat := 5
/-- Source 6, NOTIFY. -/
abbrev S_TX_UNDERRUN : Nat := 6
/-- Source 7, NOTIFY. -/
abbrev S_PFC_STORM : Nat := 7
/-- Source 8, RECORD. -/
abbrev S_TS_FIFO_FULL : Nat := 8
/-- Source 9, NOTIFY. -/
abbrev S_LANE_MOVE_REFUSED : Nat := 9
/-- Source 10, RECORD. -/
abbrev S_BREAKOUT_INVALID : Nat := 10
/-- Source 11, RECORD. -/
abbrev S_PORT_REDUCED : Nat := 11
end PEN

namespace MSC
abbrev MSC_STATUS : Fld := ⟨0x100, 8, 0, 48⟩
abbrev MSC_STATUS_WORKING : Fld := ⟨0x100, 8, 16, 3⟩
abbrev MSC_STATUS_PAIR_STATE : Fld := ⟨0x100, 8, 0, 15⟩
abbrev PAIR_CMD : Fld := ⟨0x108, 8, 0, 48⟩
abbrev PAIR_CMD_READMIT : Fld := ⟨0x108, 8, 0, 5⟩
abbrev BYPASS_ET : Fld := ⟨0x110, 8, 0, 48⟩
abbrev BYPASS_ET_EN : Fld := ⟨0x110, 8, 16, 1⟩
abbrev BYPASS_ET_ETHERTYPE : Fld := ⟨0x110, 8, 0, 16⟩
abbrev LP_SEC : Fld := ⟨0x200, 8, 0, 48⟩
abbrev LP_SEC_TX_SC : Fld := ⟨0x200, 8, 34, 14⟩
abbrev LP_SEC_RX_DEFAULT_SC : Fld := ⟨0x200, 8, 20, 14⟩
abbrev LP_SEC_RX_DEFAULT_EN : Fld := ⟨0x200, 8, 19, 1⟩
abbrev LP_SEC_VALIDATE : Fld := ⟨0x200, 8, 17, 2⟩
abbrev LP_SEC_PROTECT_TX : Fld := ⟨0x200, 8, 1, 1⟩
abbrev LP_SEC_PROTECT_RX : Fld := ⟨0x200, 8, 0, 1⟩
abbrev C_CIPHER_DROPS : Fld := ⟨0x400, 8, 0, 48⟩
abbrev C_ZEROED_FRAMES : Fld := ⟨0x408, 8, 0, 48⟩
abbrev C_ZEROED_CELLS : Fld := ⟨0x410, 8, 0, 48⟩
abbrev C_CIPHER_OVERRUN : Fld := ⟨0x418, 8, 0, 48⟩
abbrev C_TAG_ERRORS : Fld := ⟨0x420, 8, 0, 48⟩
abbrev C_TX_SC_MISMATCH : Fld := ⟨0x428, 8, 0, 48⟩
abbrev C_KAT_RUNS : Fld := ⟨0x430, 8, 0, 48⟩
abbrev C_KAT_FAILS : Fld := ⟨0x438, 8, 0, 48⟩
abbrev C_NO_TAG : Fld := ⟨0x800, 32, 0, 48⟩
abbrev C_BAD_TAG : Fld := ⟨0x808, 32, 0, 48⟩
abbrev C_UNKNOWN_SCI : Fld := ⟨0x810, 32, 0, 48⟩
abbrev C_BYPASS : Fld := ⟨0x818, 32, 0, 48⟩
/-- Source 3, DEGRADE. -/
abbrev S_DUAL_RAIL : Nat := 3
/-- Source 4, NOTIFY. -/
abbrev S_KAT_FAIL : Nat := 4
/-- Source 5, NOTIFY. -/
abbrev S_NO_SPARE_PAIR : Nat := 5
/-- Source 6, HALT. -/
abbrev S_CIPHER_LOST : Nat := 6
/-- Source 7, NOTIFY. -/
abbrev S_TAG_ERROR : Nat := 7
/-- Source 8, RECORD. -/
abbrev S_AUTH_FAIL : Nat := 8
/-- Source 9, NOTIFY. -/
abbrev S_CIPHER_OVERRUN : Nat := 9
/-- Source 10, RECORD. -/
abbrev S_TX_SC_MISMATCH : Nat := 10
end MSC

namespace MSG
abbrev KEY_LOCK : Fld := ⟨0x100, 8, 0, 48⟩
abbrev KEY_LOCK_BROKEN_SEEN : Fld := ⟨0x100, 8, 15, 1⟩
abbrev KEY_LOCK_LOCK_BROKEN : Fld := ⟨0x100, 8, 14, 1⟩
abbrev KEY_LOCK_HOLDER : Fld := ⟨0x100, 8, 12, 2⟩
abbrev KEY_LOCK_BREAK : Fld := ⟨0x100, 8, 2, 1⟩
abbrev KEY_LOCK_RELEASE : Fld := ⟨0x100, 8, 1, 1⟩
abbrev KEY_LOCK_ACQUIRE : Fld := ⟨0x100, 8, 0, 1⟩
abbrev SC_CMD : Fld := ⟨0x108, 8, 0, 48⟩
abbrev SC_CMD_OP : Fld := ⟨0x108, 8, 46, 2⟩
abbrev SC_CMD_SC : Fld := ⟨0x108, 8, 0, 14⟩
abbrev SA_CMD : Fld := ⟨0x110, 8, 0, 48⟩
abbrev SA_CMD_OP : Fld := ⟨0x110, 8, 45, 3⟩
abbrev SA_CMD_ACTIVATE : Fld := ⟨0x110, 8, 44, 1⟩
abbrev SA_CMD_AS_NEXT : Fld := ⟨0x110, 8, 43, 1⟩
abbrev SA_CMD_SA : Fld := ⟨0x110, 8, 0, 16⟩
abbrev CMD_STATUS : Fld := ⟨0x118, 8, 0, 48⟩
abbrev CMD_STATUS_ERROR : Fld := ⟨0x118, 8, 4, 4⟩
abbrev CMD_STATUS_DONE : Fld := ⟨0x118, 8, 1, 1⟩
abbrev CMD_STATUS_BUSY : Fld := ⟨0x118, 8, 0, 1⟩
abbrev SC_DATA0 : Fld := ⟨0x120, 8, 0, 48⟩
abbrev SC_DATA0_SCI_ADDR : Fld := ⟨0x120, 8, 0, 48⟩
abbrev SC_DATA1 : Fld := ⟨0x128, 8, 0, 48⟩
abbrev SC_DATA1_SCI_PORT : Fld := ⟨0x128, 8, 32, 16⟩
abbrev SC_DATA1_LP : Fld := ⟨0x128, 8, 22, 10⟩
abbrev SC_DATA1_PARCEL : Fld := ⟨0x128, 8, 10, 12⟩
abbrev SC_DATA1_DIR : Fld := ⟨0x128, 8, 9, 1⟩
abbrev SC_DATA1_SUITE : Fld := ⟨0x128, 8, 7, 2⟩
abbrev SC_DATA1_VALID : Fld := ⟨0x128, 8, 6, 1⟩
abbrev SC_DATA1_REPLAY_PROTECT : Fld := ⟨0x128, 8, 5, 1⟩
abbrev SC_DATA1_ENCRYPT : Fld := ⟨0x128, 8, 4, 1⟩
abbrev SC_DATA1_INCLUDE_SCI : Fld := ⟨0x128, 8, 3, 1⟩
abbrev SC_DATA1_CONF_OFFSET : Fld := ⟨0x128, 8, 1, 2⟩
abbrev SC_DATA1_SUSPENDED : Fld := ⟨0x128, 8, 0, 1⟩
abbrev SC_DATA2 : Fld := ⟨0x130, 8, 0, 48⟩
abbrev SC_DATA2_REPLAY_WINDOW : Fld := ⟨0x130, 8, 16, 32⟩
abbrev SC_DATA2_ACTIVE_AN : Fld := ⟨0x130, 8, 14, 2⟩
abbrev SC_DATA2_NEXT_AN : Fld := ⟨0x130, 8, 12, 2⟩
abbrev SC_DATA2_NEXT_VALID : Fld := ⟨0x130, 8, 11, 1⟩
abbrev SC_DATA3 : Fld := ⟨0x138, 8, 0, 48⟩
abbrev SC_DATA3_SWITCH_PN : Fld := ⟨0x138, 8, 0, 48⟩
abbrev SC_DATA4 : Fld := ⟨0x140, 8, 0, 48⟩
abbrev SC_DATA4_NOTIFY_PN : Fld := ⟨0x140, 8, 0, 48⟩
abbrev SA_DATA0 : Fld := ⟨0x148, 8, 0, 48⟩
abbrev SA_DATA0_NEXT_PN_LO : Fld := ⟨0x148, 8, 0, 48⟩
abbrev SA_DATA1 : Fld := ⟨0x150, 8, 0, 48⟩
abbrev SA_DATA1_IN_USE : Fld := ⟨0x150, 8, 16, 1⟩
abbrev SA_DATA1_NEXT_PN_HI : Fld := ⟨0x150, 8, 0, 16⟩
abbrev SA_DATA2 : Fld := ⟨0x158, 8, 0, 48⟩
abbrev SA_DATA2_LOWEST_PN_LO : Fld := ⟨0x158, 8, 0, 48⟩
abbrev SA_DATA3 : Fld := ⟨0x160, 8, 0, 48⟩
abbrev SA_DATA3_LOWEST_PN_HI : Fld := ⟨0x160, 8, 0, 16⟩
abbrev KEY_DATA : Fld := ⟨0x180, 8, 0, 48⟩
abbrev KEY_DATA_KEY : Fld := ⟨0x180, 8, 0, 48⟩
abbrev SALT : Fld := ⟨0x1b0, 8, 0, 48⟩
abbrev SALT_SALT : Fld := ⟨0x1b0, 8, 0, 48⟩
abbrev SSCI : Fld := ⟨0x1c0, 8, 0, 48⟩
abbrev SSCI_SSCI : Fld := ⟨0x1c0, 8, 0, 32⟩
abbrev PN_EVENT : Fld := ⟨0x1d0, 8, 0, 48⟩
abbrev PN_EVENT_VALID : Fld := ⟨0x1d0, 8, 47, 1⟩
abbrev PN_EVENT_KIND : Fld := ⟨0x1d0, 8, 45, 2⟩
abbrev PN_EVENT_SA : Fld := ⟨0x1d0, 8, 0, 16⟩
abbrev PN_EVENT_LOST : Fld := ⟨0x1d8, 8, 0, 48⟩
abbrev PN_EVENT_LOST_COUNT : Fld := ⟨0x1d8, 8, 0, 48⟩
/-- Source 3, RECORD. -/
abbrev S_KEY_NO_LOCK : Nat := 3
/-- Source 4, RECORD. -/
abbrev S_LOCK_REFUSED : Nat := 4
/-- Source 5, NOTIFY. -/
abbrev S_LOCK_BROKEN : Nat := 5
/-- Source 6, NOTIFY. -/
abbrev S_PN_EVENT : Nat := 6
/-- Source 7, NOTIFY. -/
abbrev S_PN_EVENT_LOST : Nat := 7
/-- Source 8, NOTIFY. -/
abbrev S_SUITE_RATE : Nat := 8
/-- Source 9, RECORD. -/
abbrev S_SC_REFUSED : Nat := 9
end MSG

namespace TRV
abbrev TRV_CTL : Fld := ⟨0x100, 8, 0, 48⟩
abbrev TRV_CTL_SHADOW_SEL : Fld := ⟨0x100, 8, 8, 5⟩
abbrev TRV_CTL_PROBE_EN : Fld := ⟨0x100, 8, 1, 1⟩
abbrev TRV_CTL_AUTO_SPARE : Fld := ⟨0x100, 8, 0, 1⟩
abbrev TRV_STATUS : Fld := ⟨0x108, 8, 0, 48⟩
abbrev TRV_STATUS_SHADOW_GROUP : Fld := ⟨0x108, 8, 16, 5⟩
abbrev TRV_STATUS_SERVES : Fld := ⟨0x108, 8, 8, 5⟩
abbrev TRV_STATUS_ROLE : Fld := ⟨0x108, 8, 0, 3⟩
abbrev SPARE_CMD : Fld := ⟨0x110, 8, 0, 48⟩
abbrev SPARE_CMD_RETURN : Fld := ⟨0x110, 8, 7, 1⟩
abbrev SPARE_CMD_TAKEOVER : Fld := ⟨0x110, 8, 6, 1⟩
abbrev SPARE_CMD_GROUP : Fld := ⟨0x110, 8, 0, 5⟩
abbrev PROBE_CFG : Fld := ⟨0x118, 8, 0, 48⟩
abbrev PROBE_CFG_PERIOD : Fld := ⟨0x118, 8, 0, 7⟩
abbrev PROBE_STATUS : Fld := ⟨0x120, 8, 0, 48⟩
abbrev PROBE_STATUS_SEQ : Fld := ⟨0x120, 8, 16, 16⟩
abbrev PROBE_STATUS_LAST : Fld := ⟨0x120, 8, 0, 2⟩
abbrev BRIDGE_MASK : Fld := ⟨0x128, 8, 0, 48⟩
abbrev BRIDGE_MASK_MASK : Fld := ⟨0x128, 8, 0, 48⟩
abbrev C_ING_PACKETS : Fld := ⟨0x200, 8, 0, 48⟩
abbrev C_EGR_PACKETS : Fld := ⟨0x208, 8, 0, 48⟩
abbrev C_SWITCH_LOST : Fld := ⟨0x210, 8, 0, 48⟩
abbrev C_SWITCHES : Fld := ⟨0x218, 8, 0, 48⟩
abbrev C_PROBES_RUN : Fld := ⟨0x220, 8, 0, 48⟩
abbrev C_PROBE_FAILS : Fld := ⟨0x228, 8, 0, 48⟩
abbrev C_RETURNS : Fld := ⟨0x230, 8, 0, 48⟩
/-- Source 3, RECORD. -/
abbrev S_FENCED : Nat := 3
/-- Source 4, NOTIFY. -/
abbrev S_NO_SPARE : Nat := 4
/-- Source 5, HALT. -/
abbrev S_PROBE_FAIL : Nat := 5
/-- Source 6, NOTIFY. -/
abbrev S_STANDING_IN : Nat := 6
/-- Source 7, NOTIFY. -/
abbrev S_SHADOW_STALE : Nat := 7
/-- Source 8, RECORD. -/
abbrev S_BRIDGE_INVALID : Nat := 8
/-- Source 9, RECORD. -/
abbrev S_SPARE_REFUSED : Nat := 9
end TRV

namespace PRS
abbrev HASH_CFG : Fld := ⟨0x100, 8, 0, 48⟩
abbrev HASH_CFG_USE_PARCEL : Fld := ⟨0x100, 8, 33, 1⟩
abbrev HASH_CFG_USE_LP : Fld := ⟨0x100, 8, 32, 1⟩
abbrev HASH_CFG_SEED : Fld := ⟨0x100, 8, 0, 32⟩
abbrev BANK_STATUS : Fld := ⟨0x108, 8, 0, 48⟩
abbrev BANK_STATUS_GEN_B : Fld := ⟨0x108, 8, 32, 16⟩
abbrev BANK_STATUS_GEN_A : Fld := ⟨0x108, 8, 16, 16⟩
abbrev BANK_STATUS_ARMED : Fld := ⟨0x108, 8, 4, 1⟩
abbrev BANK_STATUS_VALID_B : Fld := ⟨0x108, 8, 3, 1⟩
abbrev BANK_STATUS_VALID_A : Fld := ⟨0x108, 8, 2, 1⟩
abbrev BANK_STATUS_ACTIVE_BANK : Fld := ⟨0x108, 8, 1, 1⟩
abbrev BANK_STATUS_ACTIVE_VALID : Fld := ⟨0x108, 8, 0, 1⟩
abbrev FLIP_CTL : Fld := ⟨0x110, 8, 0, 48⟩
abbrev FLIP_CTL_DISARM : Fld := ⟨0x110, 8, 2, 1⟩
abbrev FLIP_CTL_ARM : Fld := ⟨0x110, 8, 1, 1⟩
abbrev FLIP_CTL_FLIP_NOW : Fld := ⟨0x110, 8, 0, 1⟩
abbrev FLIP_SEC : Fld := ⟨0x118, 8, 0, 48⟩
abbrev FLIP_SEC_SECONDS : Fld := ⟨0x118, 8, 0, 48⟩
abbrev FLIP_NS : Fld := ⟨0x120, 8, 0, 48⟩
abbrev FLIP_NS_NS : Fld := ⟨0x120, 8, 0, 30⟩
abbrev FLIP_STAMP : Fld := ⟨0x128, 8, 0, 48⟩
abbrev FLIP_STAMP_TIME : Fld := ⟨0x128, 8, 0, 32⟩
abbrev IND_CMD : Fld := ⟨0x140, 8, 0, 48⟩
abbrev IND_CMD_TARGET : Fld := ⟨0x140, 8, 44, 4⟩
abbrev IND_CMD_OP : Fld := ⟨0x140, 8, 41, 3⟩
abbrev IND_CMD_BANK : Fld := ⟨0x140, 8, 40, 1⟩
abbrev IND_CMD_BCAST : Fld := ⟨0x140, 8, 39, 1⟩
abbrev IND_CMD_INDEX : Fld := ⟨0x140, 8, 0, 16⟩
abbrev IND_STATUS : Fld := ⟨0x148, 8, 0, 48⟩
abbrev IND_STATUS_DONE : Fld := ⟨0x148, 8, 7, 1⟩
abbrev IND_STATUS_SKIPPED : Fld := ⟨0x148, 8, 6, 1⟩
abbrev IND_STATUS_CODE : Fld := ⟨0x148, 8, 2, 4⟩
abbrev IND_STATUS_ERROR : Fld := ⟨0x148, 8, 1, 1⟩
abbrev IND_STATUS_BUSY : Fld := ⟨0x148, 8, 0, 1⟩
abbrev IND_DATA : Fld := ⟨0x150, 8, 0, 48⟩
abbrev IND_DATA_DATA : Fld := ⟨0x150, 8, 0, 48⟩
abbrev C_PARSED : Fld := ⟨0x200, 8, 0, 48⟩
abbrev C_NOT_READY : Fld := ⟨0x208, 8, 0, 48⟩
abbrev C_PARSE_DROPS : Fld := ⟨0x210, 8, 0, 48⟩
abbrev C_PARSE_MISS : Fld := ⟨0x218, 8, 0, 48⟩
abbrev C_TRUNC : Fld := ⟨0x220, 8, 0, 48⟩
abbrev C_LA_LIMIT : Fld := ⟨0x228, 8, 0, 48⟩
abbrev C_STEP_LIMIT : Fld := ⟨0x230, 8, 0, 48⟩
abbrev C_HDR_OVERFLOW : Fld := ⟨0x238, 8, 0, 48⟩
abbrev C_UNCLASSIFIED : Fld := ⟨0x240, 8, 0, 48⟩
abbrev C_ECMP_DROPS : Fld := ⟨0x248, 8, 0, 48⟩
abbrev C_LAG_DROPS : Fld := ⟨0x250, 8, 0, 48⟩
abbrev C_SCRUB_FIXED : Fld := ⟨0x258, 8, 0, 48⟩
abbrev C_FLIPS : Fld := ⟨0x260, 8, 0, 48⟩
/-- Source 3, RECORD. -/
abbrev S_NOT_READY : Nat := 3
/-- Source 4, RECORD. -/
abbrev S_FLIP_DONE : Nat := 4
/-- Source 5, NOTIFY. -/
abbrev S_FLIP_LATE : Nat := 5
/-- Source 6, NOTIFY. -/
abbrev S_FLIP_REFUSED : Nat := 6
/-- Source 7, RECORD. -/
abbrev S_IND_ERROR : Nat := 7
/-- Source 8, RECORD. -/
abbrev S_UNCLASSIFIED : Nat := 8
/-- Source 9, NOTIFY. -/
abbrev S_ECMP_EMPTY : Nat := 9
/-- Source 10, NOTIFY. -/
abbrev S_LAG_EMPTY : Nat := 10
/-- Source 11, RECORD. -/
abbrev S_SCRUB_FIXED : Nat := 11
/-- Source 12, NOTIFY. -/
abbrev S_BANK_LOST : Nat := 12
/-- Source 13, HALT. -/
abbrev S_PRS_MEM_FAIL : Nat := 13
/-- Source 14, RECORD. -/
abbrev S_PARSE_DROP : Nat := 14
end PRS

namespace STN
abbrev STN_CFG : Fld := ⟨0x100, 8, 0, 48⟩
abbrev STN_CFG_LT_EN : Fld := ⟨0x100, 8, 0, 8⟩
abbrev LT_CFG : Fld := ⟨0x108, 8, 0, 48⟩
abbrev LT_CFG_TABLE : Fld := ⟨0x108, 8, 38, 10⟩
abbrev LT_CFG_SLOT_BASE : Fld := ⟨0x108, 8, 34, 4⟩
abbrev LT_CFG_SLOT_COUNT : Fld := ⟨0x108, 8, 29, 5⟩
abbrev LT_CFG_GATE_EN : Fld := ⟨0x108, 8, 28, 1⟩
abbrev LT_CFG_GATE_POL : Fld := ⟨0x108, 8, 27, 1⟩
abbrev LT_CFG_GATE_WORD : Fld := ⟨0x108, 8, 19, 8⟩
abbrev LT_CFG_GATE_BIT : Fld := ⟨0x108, 8, 13, 6⟩
abbrev LT_CFG_MISS_PROG : Fld := ⟨0x108, 8, 4, 9⟩
abbrev LT_CFG_MISS_EN : Fld := ⟨0x108, 8, 3, 1⟩
abbrev SE_CFG : Fld := ⟨0x148, 8, 0, 48⟩
abbrev SE_CFG_KIND : Fld := ⟨0x148, 8, 46, 2⟩
abbrev SE_CFG_BLOCK_BASE : Fld := ⟨0x148, 8, 38, 8⟩
abbrev SE_CFG_BLOCKS : Fld := ⟨0x148, 8, 30, 8⟩
abbrev SE_CFG_COLOUR_AWARE : Fld := ⟨0x148, 8, 29, 1⟩
abbrev SE_CFG_PKT_MODE : Fld := ⟨0x148, 8, 28, 1⟩
abbrev SE_CFG_COLOUR_WORD : Fld := ⟨0x148, 8, 20, 8⟩
abbrev SE_CFG_COLOUR_LSB : Fld := ⟨0x148, 8, 14, 6⟩
abbrev KEYF : Fld := ⟨0x200, 8, 0, 48⟩
abbrev KEYF_VALID : Fld := ⟨0x200, 8, 47, 1⟩
abbrev KEYF_WORD : Fld := ⟨0x200, 8, 36, 8⟩
abbrev KEYF_LSB : Fld := ⟨0x200, 8, 30, 6⟩
abbrev KEYF_WIDTH_M1 : Fld := ⟨0x200, 8, 24, 6⟩
abbrev IND_CMD : Fld := ⟨0x400, 8, 0, 48⟩
abbrev IND_CMD_TARGET : Fld := ⟨0x400, 8, 45, 3⟩
abbrev IND_CMD_OP : Fld := ⟨0x400, 8, 43, 2⟩
abbrev IND_CMD_BCAST : Fld := ⟨0x400, 8, 42, 1⟩
abbrev IND_CMD_SE : Fld := ⟨0x400, 8, 39, 3⟩
abbrev IND_CMD_INDEX : Fld := ⟨0x400, 8, 0, 21⟩
abbrev IND_STATUS : Fld := ⟨0x408, 8, 0, 48⟩
abbrev IND_STATUS_DONE : Fld := ⟨0x408, 8, 7, 1⟩
abbrev IND_STATUS_SKIPPED : Fld := ⟨0x408, 8, 6, 1⟩
abbrev IND_STATUS_CODE : Fld := ⟨0x408, 8, 2, 4⟩
abbrev IND_STATUS_ERROR : Fld := ⟨0x408, 8, 1, 1⟩
abbrev IND_STATUS_BUSY : Fld := ⟨0x408, 8, 0, 1⟩
abbrev IND_DATA : Fld := ⟨0x410, 8, 0, 48⟩
abbrev IND_DATA_DATA : Fld := ⟨0x410, 8, 0, 48⟩
abbrev C_PACKETS : Fld := ⟨0x500, 8, 0, 48⟩
abbrev C_PHV_PARITY : Fld := ⟨0x508, 8, 0, 48⟩
abbrev C_ALU_CHECK : Fld := ⟨0x510, 8, 0, 48⟩
abbrev C_SLOT_TRUNC : Fld := ⟨0x518, 8, 0, 48⟩
abbrev C_PUSH_OVERFLOW : Fld := ⟨0x520, 8, 0, 48⟩
abbrev C_SCRUB_FIXED : Fld := ⟨0x528, 8, 0, 48⟩
abbrev C_SE_RANGE : Fld := ⟨0x530, 8, 0, 48⟩
/-- Source 3, NOTIFY. -/
abbrev S_PHV_PARITY : Nat := 3
/-- Source 4, NOTIFY. -/
abbrev S_ALU_CHECK : Nat := 4
/-- Source 5, RECORD. -/
abbrev S_SCRUB_FIXED : Nat := 5
/-- Source 6, HALT. -/
abbrev S_STN_MEM_FAIL : Nat := 6
/-- Source 7, RECORD. -/
abbrev S_SLOT_TRUNC : Nat := 7
/-- Source 8, RECORD. -/
abbrev S_PUSH_OVERFLOW : Nat := 8
/-- Source 9, RECORD. -/
abbrev S_LT_INVALID : Nat := 9
/-- Source 10, RECORD. -/
abbrev S_IND_ERROR : Nat := 10
/-- Source 11, RECORD. -/
abbrev S_SE_RANGE : Nat := 11
end STN

namespace DPR
abbrev DPR_CFG : Fld := ⟨0x100, 8, 0, 48⟩
abbrev DPR_CFG_HT_IPV4 : Fld := ⟨0x100, 8, 0, 6⟩
abbrev IND_CMD : Fld := ⟨0x108, 8, 0, 48⟩
abbrev IND_CMD_TARGET : Fld := ⟨0x108, 8, 46, 2⟩
abbrev IND_CMD_WRITE : Fld := ⟨0x108, 8, 45, 1⟩
abbrev IND_CMD_BCAST : Fld := ⟨0x108, 8, 44, 1⟩
abbrev IND_CMD_INDEX : Fld := ⟨0x108, 8, 0, 9⟩
abbrev IND_STATUS : Fld := ⟨0x110, 8, 0, 48⟩
abbrev IND_STATUS_DONE : Fld := ⟨0x110, 8, 7, 1⟩
abbrev IND_STATUS_SKIPPED : Fld := ⟨0x110, 8, 6, 1⟩
abbrev IND_STATUS_CODE : Fld := ⟨0x110, 8, 2, 4⟩
abbrev IND_STATUS_ERROR : Fld := ⟨0x110, 8, 1, 1⟩
abbrev IND_STATUS_BUSY : Fld := ⟨0x110, 8, 0, 1⟩
abbrev IND_DATA : Fld := ⟨0x118, 8, 0, 48⟩
abbrev IND_DATA_DATA : Fld := ⟨0x118, 8, 0, 48⟩
abbrev C_FRAMES : Fld := ⟨0x200, 8, 0, 48⟩
abbrev C_TAG_ERRORS : Fld := ⟨0x208, 8, 0, 48⟩
abbrev C_EDIT_DROPS : Fld := ⟨0x210, 8, 0, 48⟩
abbrev C_CSUM_UPDATES : Fld := ⟨0x218, 8, 0, 48⟩
abbrev C_SCRUB_FIXED : Fld := ⟨0x220, 8, 0, 48⟩
/-- Source 3, NOTIFY. -/
abbrev S_TAG_ERROR : Nat := 3
/-- Source 4, RECORD. -/
abbrev S_EDIT_DROP : Nat := 4
/-- Source 5, HALT. -/
abbrev S_DPR_MEM_FAIL : Nat := 5
/-- Source 6, RECORD. -/
abbrev S_SCRUB_FIXED : Nat := 6
/-- Source 7, RECORD. -/
abbrev S_IND_ERROR : Nat := 7
/-- Source 8, NOTIFY. -/
abbrev S_PHV_PARITY : Nat := 8
end DPR

namespace TBC
abbrev TBC_CMD : Fld := ⟨0x100, 8, 0, 48⟩
abbrev TBC_CMD_OPCODE : Fld := ⟨0x100, 8, 40, 8⟩
abbrev TBC_CMD_TABLE : Fld := ⟨0x100, 8, 30, 10⟩
abbrev TBC_CMD_BCAST : Fld := ⟨0x100, 8, 29, 1⟩
abbrev TBC_CMD_INDEX : Fld := ⟨0x100, 8, 0, 29⟩
abbrev TBC_STATUS : Fld := ⟨0x108, 8, 0, 48⟩
abbrev TBC_STATUS_SKIPPED : Fld := ⟨0x108, 8, 8, 1⟩
abbrev TBC_STATUS_STATUS : Fld := ⟨0x108, 8, 5, 3⟩
abbrev TBC_STATUS_DONE : Fld := ⟨0x108, 8, 1, 1⟩
abbrev TBC_STATUS_BUSY : Fld := ⟨0x108, 8, 0, 1⟩
abbrev TBC_RESULT : Fld := ⟨0x110, 8, 0, 48⟩
abbrev TBC_RESULT_INDEX : Fld := ⟨0x110, 8, 0, 29⟩
abbrev ROW_STATUS : Fld := ⟨0x118, 8, 0, 48⟩
abbrev ROW_STATUS_SPARES_FREE : Fld := ⟨0x118, 8, 0, 10⟩
abbrev TBC_DATA : Fld := ⟨0x180, 8, 0, 48⟩
abbrev TBC_DATA_DATA : Fld := ⟨0x180, 8, 0, 48⟩
abbrev C_CMDS_DONE : Fld := ⟨0x200, 8, 0, 48⟩
abbrev C_CMD_ERRORS : Fld := ⟨0x208, 8, 0, 48⟩
abbrev C_SCRUB_FIXED : Fld := ⟨0x210, 8, 0, 48⟩
abbrev C_ROWS_RETIRED : Fld := ⟨0x218, 8, 0, 48⟩
abbrev C_CACHE_HITS : Fld := ⟨0x220, 8, 0, 48⟩
abbrev C_CACHE_MISSES : Fld := ⟨0x228, 8, 0, 48⟩
abbrev C_WRITEBACKS : Fld := ⟨0x230, 8, 0, 48⟩
abbrev C_MERGES : Fld := ⟨0x238, 8, 0, 48⟩
abbrev C_FILL_DROPS : Fld := ⟨0x240, 8, 0, 48⟩
abbrev C_LEARNED_LOST : Fld := ⟨0x248, 8, 0, 48⟩
/-- Source 3, RECORD. -/
abbrev S_CMD_ERROR : Nat := 3
/-- Source 4, RECORD. -/
abbrev S_ALLOC_CONFLICT : Nat := 4
/-- Source 5, RECORD. -/
abbrev S_TBL_SCRUB_FIXED : Nat := 5
/-- Source 6, HALT. -/
abbrev S_TBL_MEM_FAIL : Nat := 6
/-- Source 7, NOTIFY. -/
abbrev S_ROW_RETIRED : Nat := 7
/-- Source 8, NOTIFY. -/
abbrev S_SPARE_ROWS_OUT : Nat := 8
/-- Source 9, RECORD. -/
abbrev S_CACHE_ECC : Nat := 9
end TBC

namespace LRN
abbrev LRN_STATUS : Fld := ⟨0x100, 8, 0, 48⟩
abbrev LRN_STATUS_NOTE_COUNT : Fld := ⟨0x100, 8, 16, 14⟩
abbrev LRN_STATUS_QUEUE_DEPTH : Fld := ⟨0x100, 8, 0, 13⟩
abbrev FLOOD_CMD : Fld := ⟨0x108, 8, 0, 48⟩
abbrev FLOOD_CMD_WRITE : Fld := ⟨0x108, 8, 47, 1⟩
abbrev FLOOD_CMD_BCAST : Fld := ⟨0x108, 8, 46, 1⟩
abbrev FLOOD_CMD_PARCEL : Fld := ⟨0x108, 8, 0, 12⟩
abbrev FLOOD_DATA : Fld := ⟨0x110, 8, 0, 48⟩
abbrev FLOOD_DATA_VALID : Fld := ⟨0x110, 8, 14, 1⟩
abbrev FLOOD_DATA_MGID : Fld := ⟨0x110, 8, 0, 14⟩
abbrev NOTE0 : Fld := ⟨0x140, 8, 0, 48⟩
abbrev NOTE0_VALID : Fld := ⟨0x140, 8, 47, 1⟩
abbrev NOTE0_KIND : Fld := ⟨0x140, 8, 44, 3⟩
abbrev NOTE0_TABLE : Fld := ⟨0x140, 8, 34, 10⟩
abbrev NOTE0_PARCEL : Fld := ⟨0x140, 8, 22, 12⟩
abbrev NOTE0_INDEX : Fld := ⟨0x140, 8, 0, 20⟩
abbrev NOTE1 : Fld := ⟨0x148, 8, 0, 48⟩
abbrev NOTE1_DATA : Fld := ⟨0x148, 8, 0, 48⟩
abbrev C_LEARNS : Fld := ⟨0x200, 8, 0, 48⟩
abbrev C_MOVES : Fld := ⟨0x208, 8, 0, 48⟩
abbrev C_EVICTIONS : Fld := ⟨0x210, 8, 0, 48⟩
abbrev C_AGE_OUTS : Fld := ⟨0x218, 8, 0, 48⟩
abbrev C_LEARN_OVERRUNS : Fld := ⟨0x220, 8, 0, 48⟩
abbrev C_LEARN_DROPS : Fld := ⟨0x228, 8, 0, 48⟩
abbrev C_NOTIFY_LOST : Fld := ⟨0x230, 8, 0, 48⟩
abbrev C_AGE_LATE : Fld := ⟨0x238, 8, 0, 48⟩
/-- Source 3, RECORD. -/
abbrev S_LEARN_OVERRUN : Nat := 3
/-- Source 4, RECORD. -/
abbrev S_LEARN_DROP : Nat := 4
/-- Source 5, NOTIFY. -/
abbrev S_NOTIFY_LOST : Nat := 5
/-- Source 6, RECORD. -/
abbrev S_AGE_LATE : Nat := 6
end LRN

namespace TRC
abbrev STAKE_CFG : Fld := ⟨0x100, 8, 0, 48⟩
abbrev STAKE_CFG_EN : Fld := ⟨0x100, 8, 36, 1⟩
abbrev STAKE_CFG_SEED : Fld := ⟨0x100, 8, 5, 31⟩
abbrev STAKE_CFG_K : Fld := ⟨0x100, 8, 0, 5⟩
abbrev TRC_STATUS : Fld := ⟨0x108, 8, 0, 48⟩
abbrev TRC_STATUS_FIFO : Fld := ⟨0x108, 8, 0, 13⟩
abbrev C_STAKED : Fld := ⟨0x200, 8, 0, 48⟩
abbrev C_STAKE_SKIPS : Fld := ⟨0x208, 8, 0, 48⟩
abbrev C_TRACE_RECORDS : Fld := ⟨0x210, 8, 0, 48⟩
abbrev C_TRACE_LOST : Fld := ⟨0x218, 8, 0, 48⟩
/-- Source 3, RECORD. -/
abbrev S_TRACE_LOST : Nat := 3
end TRC

namespace RES
abbrev C_FORWARDED : Fld := ⟨0x100, 8, 0, 48⟩
abbrev C_COPIES : Fld := ⟨0x108, 8, 0, 48⟩
abbrev C_MIRRORS : Fld := ⟨0x110, 8, 0, 48⟩
abbrev C_PHV_PARITY : Fld := ⟨0x118, 8, 0, 48⟩
abbrev C_DROPS_IN : Fld := ⟨0x400, 8, 0, 48⟩
abbrev C_DROPS_EG : Fld := ⟨0x800, 8, 0, 48⟩
/-- Source 3, RECORD. -/
abbrev S_BAD_TARGET : Nat := 3
/-- Source 4, RECORD. -/
abbrev S_NO_DISPOSITION : Nat := 4
/-- Source 5, NOTIFY. -/
abbrev S_PHV_PARITY : Nat := 5
end RES

namespace TMC
abbrev TM_CFG : Fld := ⟨0x100, 8, 0, 48⟩
abbrev TM_CFG_CT_EN : Fld := ⟨0x100, 8, 47, 1⟩
abbrev ECN_CFG : Fld := ⟨0x108, 8, 0, 48⟩
abbrev ECN_CFG_HT_IPV4 : Fld := ⟨0x108, 8, 6, 6⟩
abbrev ECN_CFG_HT_IPV6 : Fld := ⟨0x108, 8, 0, 6⟩
abbrev DESC_STATUS : Fld := ⟨0x110, 8, 0, 48⟩
abbrev DESC_STATUS_FREE : Fld := ⟨0x110, 8, 0, 21⟩
abbrev IND_CMD : Fld := ⟨0x140, 8, 0, 48⟩
abbrev IND_CMD_TARGET : Fld := ⟨0x140, 8, 45, 3⟩
abbrev IND_CMD_WRITE : Fld := ⟨0x140, 8, 44, 1⟩
abbrev IND_CMD_INDEX : Fld := ⟨0x140, 8, 0, 17⟩
abbrev IND_STATUS : Fld := ⟨0x148, 8, 0, 48⟩
abbrev IND_STATUS_DONE : Fld := ⟨0x148, 8, 7, 1⟩
abbrev IND_STATUS_SKIPPED : Fld := ⟨0x148, 8, 6, 1⟩
abbrev IND_STATUS_CODE : Fld := ⟨0x148, 8, 2, 4⟩
abbrev IND_STATUS_ERROR : Fld := ⟨0x148, 8, 1, 1⟩
abbrev IND_STATUS_BUSY : Fld := ⟨0x148, 8, 0, 1⟩
abbrev IND_DATA : Fld := ⟨0x150, 8, 0, 48⟩
abbrev IND_DATA_DATA : Fld := ⟨0x150, 8, 0, 48⟩
abbrev C_DROP_NO_DESC : Fld := ⟨0x200, 8, 0, 48⟩
abbrev C_COPIES_MADE : Fld := ⟨0x208, 8, 0, 48⟩
abbrev C_REPL_DROPS : Fld := ⟨0x210, 8, 0, 48⟩
abbrev C_MC_DROPS : Fld := ⟨0x218, 8, 0, 48⟩
abbrev C_PRUNED : Fld := ⟨0x220, 8, 0, 48⟩
abbrev C_SCRUB_FIXED : Fld := ⟨0x228, 8, 0, 48⟩
/-- Source 3, NOTIFY. -/
abbrev S_DESC_EXHAUSTED : Nat := 3
/-- Source 4, RECORD. -/
abbrev S_IND_ERROR : Nat := 4
/-- Source 5, RECORD. -/
abbrev S_NODE_QUOTA : Nat := 5
/-- Source 6, RECORD. -/
abbrev S_SCRUB_FIXED : Nat := 6
/-- Source 7, HALT. -/
abbrev S_TM_MEM_FAIL : Nat := 7
end TMC

namespace TMW
abbrev LP_TM_CFG : Fld := ⟨0x100, 8, 0, 48⟩
abbrev LP_TM_CFG_HOLD_US : Fld := ⟨0x100, 8, 28, 20⟩
abbrev LP_TM_CFG_CT_EN : Fld := ⟨0x100, 8, 27, 1⟩
abbrev LP_TM_CFG_SHAPE_ADJ : Fld := ⟨0x100, 8, 19, 8⟩
abbrev LP_TM_STATUS : Fld := ⟨0x108, 8, 0, 48⟩
abbrev LP_TM_STATUS_HOLD_LEFT : Fld := ⟨0x108, 8, 28, 20⟩
abbrev LP_TM_STATUS_PSTATE : Fld := ⟨0x108, 8, 0, 2⟩
abbrev PG_CFG : Fld := ⟨0x140, 8, 0, 48⟩
abbrev PG_CFG_XOFF_CELLS : Fld := ⟨0x140, 8, 21, 21⟩
abbrev PG_CFG_XON_CELLS : Fld := ⟨0x140, 8, 0, 21⟩
abbrev PG_HEAD : Fld := ⟨0x180, 8, 0, 48⟩
abbrev PG_HEAD_HEADROOM : Fld := ⟨0x180, 8, 0, 21⟩
abbrev PG_STATUS : Fld := ⟨0x1c0, 8, 0, 48⟩
abbrev PG_STATUS_ASSERTED : Fld := ⟨0x1c0, 8, 21, 1⟩
abbrev PG_STATUS_CELLS : Fld := ⟨0x1c0, 8, 0, 21⟩
abbrev Q_CFG : Fld := ⟨0x400, 128, 0, 48⟩
abbrev Q_CFG_NODE : Fld := ⟨0x400, 128, 32, 16⟩
abbrev Q_CFG_PRIO : Fld := ⟨0x400, 128, 29, 3⟩
abbrev Q_CFG_WEIGHT : Fld := ⟨0x400, 128, 21, 8⟩
abbrev Q_CFG_OVF_EN : Fld := ⟨0x400, 128, 20, 1⟩
abbrev Q_CFG_LAUNCH_EN : Fld := ⟨0x400, 128, 19, 1⟩
abbrev Q_LIMIT : Fld := ⟨0x408, 128, 0, 48⟩
abbrev Q_LIMIT_Q_MAX : Fld := ⟨0x408, 128, 27, 21⟩
abbrev Q_LIMIT_Q_ALPHA : Fld := ⟨0x408, 128, 23, 4⟩
abbrev Q_LIMIT_Q_MIN : Fld := ⟨0x408, 128, 2, 21⟩
abbrev Q_SHAPE : Fld := ⟨0x410, 128, 0, 48⟩
abbrev Q_SHAPE_RATE : Fld := ⟨0x410, 128, 27, 21⟩
abbrev Q_SHAPE_BURST : Fld := ⟨0x410, 128, 11, 16⟩
abbrev Q_ECN : Fld := ⟨0x418, 128, 0, 48⟩
abbrev Q_ECN_EN : Fld := ⟨0x418, 128, 47, 1⟩
abbrev Q_ECN_NECT_DROP : Fld := ⟨0x418, 128, 46, 1⟩
abbrev Q_ECN_K_MIN : Fld := ⟨0x418, 128, 28, 18⟩
abbrev Q_ECN_K_MAX : Fld := ⟨0x418, 128, 10, 18⟩
abbrev Q_ECN_P_MAX : Fld := ⟨0x418, 128, 2, 8⟩
abbrev Q_AGE : Fld := ⟨0x420, 128, 0, 48⟩
abbrev Q_AGE_AGE_US : Fld := ⟨0x420, 128, 0, 22⟩
abbrev Q_OVF : Fld := ⟨0x428, 128, 0, 48⟩
abbrev Q_OVF_SPILL_CELLS : Fld := ⟨0x428, 128, 27, 21⟩
abbrev Q_OVF_OVF_LIMIT : Fld := ⟨0x428, 128, 0, 26⟩
abbrev Q_STATUS : Fld := ⟨0x430, 128, 0, 48⟩
abbrev Q_STATUS_CELLS : Fld := ⟨0x430, 128, 24, 21⟩
abbrev Q_STATUS_LAUNCH_WAIT : Fld := ⟨0x430, 128, 7, 1⟩
abbrev Q_STATUS_SHAPED : Fld := ⟨0x430, 128, 6, 1⟩
abbrev Q_STATUS_PAUSED : Fld := ⟨0x430, 128, 5, 1⟩
abbrev Q_STATUS_SPILLING : Fld := ⟨0x430, 128, 4, 1⟩
abbrev Q_STATUS_QSTATE : Fld := ⟨0x430, 128, 0, 2⟩
abbrev Q_HBM : Fld := ⟨0x438, 128, 0, 48⟩
abbrev Q_HBM_CHUNKS : Fld := ⟨0x438, 128, 0, 26⟩
abbrev C_DROP_PORT_DOWN : Fld := ⟨0x300, 8, 0, 48⟩
abbrev C_HOLD_STARTS : Fld := ⟨0x308, 8, 0, 48⟩
abbrev C_HOLD_RESUMES : Fld := ⟨0x310, 8, 0, 48⟩
abbrev C_HOLD_EXPIRIES : Fld := ⟨0x318, 8, 0, 48⟩
abbrev C_DROP_HEADROOM : Fld := ⟨0x320, 8, 0, 48⟩
abbrev C_XOFF_REQUESTS : Fld := ⟨0x328, 8, 0, 48⟩
abbrev C_TX_PKTS : Fld := ⟨0x440, 128, 0, 48⟩
abbrev C_TX_BYTES : Fld := ⟨0x448, 128, 0, 48⟩
abbrev C_Q_DROPS : Fld := ⟨0x450, 128, 0, 48⟩
abbrev C_AGED : Fld := ⟨0x458, 128, 0, 48⟩
abbrev C_ECN_MARKED : Fld := ⟨0x460, 128, 0, 48⟩
abbrev C_FLUSHED : Fld := ⟨0x468, 128, 0, 48⟩
abbrev C_CUT_THROUGH : Fld := ⟨0x470, 128, 0, 48⟩
abbrev C_SPILLED : Fld := ⟨0x478, 128, 0, 48⟩
/-- Source 3, RECORD. -/
abbrev S_HOLD_START : Nat := 3
/-- Source 4, NOTIFY. -/
abbrev S_HOLD_EXPIRED : Nat := 4
/-- Source 5, NOTIFY. -/
abbrev S_PORT_FLUSH : Nat := 5
/-- Source 6, NOTIFY. -/
abbrev S_HEADROOM_DROP : Nat := 6
/-- Source 7, RECORD. -/
abbrev S_CFG_REFUSED : Nat := 7
/-- Source 8, RECORD. -/
abbrev S_SPILL_START : Nat := 8
end TMW

namespace BPM
abbrev BPM_CFG : Fld := ⟨0x100, 8, 0, 48⟩
abbrev BPM_CFG_SEC_POOL : Fld := ⟨0x100, 8, 4, 4⟩
abbrev BPM_CFG_ALPHA : Fld := ⟨0x100, 8, 0, 4⟩
abbrev ISLAND_CTL : Fld := ⟨0x108, 8, 0, 48⟩
abbrev ISLAND_CTL_IN_SERVICE : Fld := ⟨0x108, 8, 4, 4⟩
abbrev ISLAND_CTL_ENABLE : Fld := ⟨0x108, 8, 1, 3⟩
abbrev ISLAND_CTL_ENABLE0 : Fld := ⟨0x108, 8, 0, 1⟩
abbrev CARVE_CMD : Fld := ⟨0x110, 8, 0, 48⟩
abbrev CARVE_CMD_APPLY : Fld := ⟨0x110, 8, 0, 1⟩
abbrev CARVE_STATUS : Fld := ⟨0x118, 8, 0, 48⟩
abbrev CARVE_STATUS_REASON : Fld := ⟨0x118, 8, 4, 4⟩
abbrev CARVE_STATUS_REFUSED : Fld := ⟨0x118, 8, 1, 1⟩
abbrev CARVE_STATUS_CARVED : Fld := ⟨0x118, 8, 0, 1⟩
abbrev POOL_CFG : Fld := ⟨0x140, 8, 0, 48⟩
abbrev POOL_CFG_VALID : Fld := ⟨0x140, 8, 11, 1⟩
abbrev POOL_CFG_CLASS : Fld := ⟨0x140, 8, 9, 2⟩
abbrev POOL_CFG_SHARE : Fld := ⟨0x140, 8, 8, 1⟩
abbrev POOL_CFG_FALLBACK_EN : Fld := ⟨0x140, 8, 7, 1⟩
abbrev POOL_CFG_FALLBACK : Fld := ⟨0x140, 8, 3, 4⟩
abbrev POOL_EXT : Fld := ⟨0x200, 8, 0, 48⟩
abbrev POOL_EXT_BUFFERS : Fld := ⟨0x200, 8, 0, 19⟩
abbrev POOL_SET : Fld := ⟨0x400, 8, 0, 48⟩
abbrev POOL_SET_VALID : Fld := ⟨0x400, 8, 16, 1⟩
abbrev POOL_SET_START3 : Fld := ⟨0x400, 8, 12, 4⟩
abbrev POOL_SET_START2 : Fld := ⟨0x400, 8, 8, 4⟩
abbrev POOL_SET_START1 : Fld := ⟨0x400, 8, 4, 4⟩
abbrev POOL_SET_START0 : Fld := ⟨0x400, 8, 0, 4⟩
abbrev POOL_STATUS : Fld := ⟨0x480, 8, 0, 48⟩
abbrev POOL_STATUS_CARVED : Fld := ⟨0x480, 8, 21, 21⟩
abbrev POOL_STATUS_FREE : Fld := ⟨0x480, 8, 0, 21⟩
abbrev PSET_CMD : Fld := ⟨0x500, 8, 0, 48⟩
abbrev PSET_CMD_WRITE : Fld := ⟨0x500, 8, 47, 1⟩
abbrev PSET_CMD_PARCEL : Fld := ⟨0x500, 8, 0, 12⟩
abbrev PSET_DATA : Fld := ⟨0x508, 8, 0, 48⟩
abbrev PSET_DATA_SET : Fld := ⟨0x508, 8, 0, 4⟩
abbrev RESERVE : Fld := ⟨0x510, 8, 0, 48⟩
abbrev RESERVE_FREE_CELLS : Fld := ⟨0x510, 8, 21, 21⟩
abbrev RESERVE_RESERVE : Fld := ⟨0x510, 8, 0, 21⟩
abbrev DFREE_REC : Fld := ⟨0x518, 8, 0, 48⟩
abbrev DFREE_REC_VALID : Fld := ⟨0x518, 8, 47, 1⟩
abbrev DFREE_REC_REQ_KIND : Fld := ⟨0x518, 8, 44, 3⟩
abbrev DFREE_REC_REQ_UNIT : Fld := ⟨0x518, 8, 39, 5⟩
abbrev DFREE_REC_POOL : Fld := ⟨0x518, 8, 21, 4⟩
abbrev DFREE_REC_BUFFER : Fld := ⟨0x518, 8, 0, 21⟩
abbrev LEAK_REC : Fld := ⟨0x520, 8, 0, 48⟩
abbrev LEAK_REC_VALID : Fld := ⟨0x520, 8, 47, 1⟩
abbrev LEAK_REC_REQ_KIND : Fld := ⟨0x520, 8, 44, 3⟩
abbrev LEAK_REC_REQ_UNIT : Fld := ⟨0x520, 8, 39, 5⟩
abbrev LEAK_REC_POOL : Fld := ⟨0x520, 8, 21, 4⟩
abbrev LEAK_REC_BUFFER : Fld := ⟨0x520, 8, 0, 21⟩
abbrev DFQ_STATUS : Fld := ⟨0x528, 8, 0, 48⟩
abbrev DFQ_STATUS_ENTRIES : Fld := ⟨0x528, 8, 0, 18⟩
abbrev ROW_CMD : Fld := ⟨0x540, 8, 0, 48⟩
abbrev ROW_CMD_READMIT : Fld := ⟨0x540, 8, 0, 1⟩
abbrev ROW_STATUS : Fld := ⟨0x548, 8, 0, 48⟩
abbrev ROW_STATUS_RETIRED : Fld := ⟨0x548, 8, 24, 17⟩
abbrev ROW_STATUS_QUARANTINED : Fld := ⟨0x548, 8, 0, 17⟩
abbrev POOL_AUDIT : Fld := ⟨0x580, 8, 0, 48⟩
abbrev POOL_AUDIT_REFERENCED : Fld := ⟨0x580, 8, 21, 21⟩
abbrev POOL_AUDIT_ALLOCATED : Fld := ⟨0x580, 8, 0, 21⟩
abbrev C_DROP_NO_BUFFER : Fld := ⟨0x600, 8, 0, 48⟩
abbrev C_DROP_STRICT_POOL : Fld := ⟨0x608, 8, 0, 48⟩
abbrev C_DROP_NO_SET : Fld := ⟨0x610, 8, 0, 48⟩
abbrev C_DROP_SHARE : Fld := ⟨0x618, 8, 0, 48⟩
abbrev C_DROP_SEC_NO_BUFFER : Fld := ⟨0x620, 8, 0, 48⟩
abbrev C_TO_OVERFLOW : Fld := ⟨0x628, 8, 0, 48⟩
abbrev C_DOUBLE_FREES : Fld := ⟨0x630, 8, 0, 48⟩
abbrev C_LEAKED_BUFFERS : Fld := ⟨0x638, 8, 0, 48⟩
abbrev C_REF_FREE_BUFFERS : Fld := ⟨0x640, 8, 0, 48⟩
abbrev C_DFQ_FULL_COPIES : Fld := ⟨0x648, 8, 0, 48⟩
abbrev C_CELL_ECC_FIXED : Fld := ⟨0x650, 8, 0, 48⟩
abbrev C_CELL_ECC_UNCORR : Fld := ⟨0x658, 8, 0, 48⟩
abbrev C_ROWS_RETIRED : Fld := ⟨0x660, 8, 0, 48⟩
abbrev C_META_FIXED : Fld := ⟨0x668, 8, 0, 48⟩
/-- Source 3, RECORD. -/
abbrev S_CHAIN_EXHAUSTED : Nat := 3
/-- Source 4, NOTIFY. -/
abbrev S_DOUBLE_FREE : Nat := 4
/-- Source 5, NOTIFY. -/
abbrev S_LEAK_SUSPECT : Nat := 5
/-- Source 6, RECORD. -/
abbrev S_LEAK_RECLAIMED : Nat := 6
/-- Source 7, NOTIFY. -/
abbrev S_REF_FREE : Nat := 7
/-- Source 8, RECORD. -/
abbrev S_CARVE_REFUSED : Nat := 8
/-- Source 9, RECORD. -/
abbrev S_ROW_QUARANTINE : Nat := 9
/-- Source 10, NOTIFY. -/
abbrev S_ROW_RETIRED : Nat := 10
/-- Source 11, HALT. -/
abbrev S_META_MEM_FAIL : Nat := 11
/-- Source 12, RECORD. -/
abbrev S_DFQ_FULL : Nat := 12
/-- Source 13, NOTIFY. -/
abbrev S_ISLAND_OUT : Nat := 13
end BPM

namespace OVM
abbrev LAYOUT : Fld := ⟨0x100, 8, 0, 48⟩
abbrev LAYOUT_DUMP_UNITS : Fld := ⟨0x100, 8, 16, 8⟩
abbrev LAYOUT_FLOW_UNITS : Fld := ⟨0x100, 8, 8, 8⟩
abbrev LAYOUT_TBL_UNITS : Fld := ⟨0x100, 8, 0, 8⟩
abbrev LAYOUT_CMD : Fld := ⟨0x108, 8, 0, 48⟩
abbrev LAYOUT_CMD_APPLY : Fld := ⟨0x108, 8, 0, 1⟩
abbrev LAYOUT_STATUS : Fld := ⟨0x110, 8, 0, 48⟩
abbrev LAYOUT_STATUS_REASON : Fld := ⟨0x110, 8, 30, 3⟩
abbrev LAYOUT_STATUS_REFUSED : Fld := ⟨0x110, 8, 29, 1⟩
abbrev LAYOUT_STATUS_CHUNKS : Fld := ⟨0x110, 8, 0, 26⟩
abbrev CHUNKS_FREE : Fld := ⟨0x118, 8, 0, 48⟩
abbrev CHUNKS_FREE_FREE : Fld := ⟨0x118, 8, 0, 26⟩
abbrev RES : Fld := ⟨0x140, 8, 0, 48⟩
abbrev RES_EFFECTIVE : Fld := ⟨0x140, 8, 24, 17⟩
abbrev RES_RESERVED : Fld := ⟨0x140, 8, 0, 17⟩
abbrev RES_CMD : Fld := ⟨0x168, 8, 0, 48⟩
abbrev RES_CMD_APPLY : Fld := ⟨0x168, 8, 0, 1⟩
abbrev RES_STATUS : Fld := ⟨0x170, 8, 0, 48⟩
abbrev RES_STATUS_RES_ERR : Fld := ⟨0x170, 8, 41, 1⟩
abbrev RES_STATUS_DELIVERABLE : Fld := ⟨0x170, 8, 24, 17⟩
abbrev RES_STATUS_BUDGET : Fld := ⟨0x170, 8, 0, 17⟩
abbrev STAGING : Fld := ⟨0x178, 8, 0, 48⟩
abbrev STAGING_PANIC_HIGH : Fld := ⟨0x178, 8, 16, 13⟩
abbrev STAGING_PANIC_LOW : Fld := ⟨0x178, 8, 0, 13⟩
abbrev STAGING_STATUS : Fld := ⟨0x180, 8, 0, 48⟩
abbrev STAGING_STATUS_PANIC : Fld := ⟨0x180, 8, 29, 1⟩
abbrev STAGING_STATUS_REFILL_FILL : Fld := ⟨0x180, 8, 16, 13⟩
abbrev STAGING_STATUS_WRITE_FILL : Fld := ⟨0x180, 8, 0, 12⟩
abbrev SCHED_CFG : Fld := ⟨0x188, 8, 0, 48⟩
abbrev SCHED_CFG_THERM_THRESH : Fld := ⟨0x188, 8, 0, 7⟩
abbrev SELFTEST_PC : Fld := ⟨0x190, 8, 0, 48⟩
abbrev SELFTEST_PC_PC : Fld := ⟨0x190, 8, 0, 8⟩
abbrev STACK_STATUS : Fld := ⟨0x1c0, 8, 0, 48⟩
abbrev STACK_STATUS_TEMP : Fld := ⟨0x1c0, 8, 32, 16⟩
abbrev STACK_STATUS_RETIRED : Fld := ⟨0x1c0, 8, 16, 4⟩
abbrev STACK_STATUS_RELOCATING : Fld := ⟨0x1c0, 8, 2, 1⟩
abbrev STACK_STATUS_HOT : Fld := ⟨0x1c0, 8, 1, 1⟩
abbrev STACK_STATUS_TRAINED : Fld := ⟨0x1c0, 8, 0, 1⟩
abbrev PC_RET_LO : Fld := ⟨0x200, 16, 0, 48⟩
abbrev PC_RET_LO_RETIRED : Fld := ⟨0x200, 16, 0, 48⟩
abbrev PC_RET_HI : Fld := ⟨0x208, 16, 0, 48⟩
abbrev PC_RET_HI_RETIRED : Fld := ⟨0x208, 16, 0, 16⟩
abbrev UE_REC : Fld := ⟨0x240, 8, 0, 48⟩
abbrev UE_REC_VALID : Fld := ⟨0x240, 8, 47, 1⟩
abbrev UE_REC_AREA : Fld := ⟨0x240, 8, 44, 3⟩
abbrev UE_REC_PC : Fld := ⟨0x240, 8, 36, 8⟩
abbrev UE_REC_ADDR : Fld := ⟨0x240, 8, 0, 36⟩
abbrev C_CHUNKS_WRITTEN : Fld := ⟨0x300, 8, 0, 48⟩
abbrev C_CHUNKS_READ : Fld := ⟨0x308, 8, 0, 48⟩
abbrev C_PANICS : Fld := ⟨0x310, 8, 0, 48⟩
abbrev C_HAZARD_WAITS : Fld := ⟨0x318, 8, 0, 48⟩
abbrev C_REFRESH_FORCED : Fld := ⟨0x320, 8, 0, 48⟩
abbrev C_CE_FIXED : Fld := ⟨0x328, 8, 0, 48⟩
abbrev C_UE : Fld := ⟨0x330, 8, 0, 48⟩
abbrev C_OVF_PKTS_LOST : Fld := ⟨0x338, 8, 0, 48⟩
abbrev C_CHAIN_LOST : Fld := ⟨0x340, 8, 0, 48⟩
abbrev C_TBL_LINES_LOST : Fld := ⟨0x348, 8, 0, 48⟩
abbrev C_RECLAIMED : Fld := ⟨0x350, 8, 0, 48⟩
abbrev C_SCRUB_PASSES : Fld := ⟨0x358, 8, 0, 48⟩
abbrev C_RETIREMENTS : Fld := ⟨0x360, 8, 0, 48⟩
abbrev C_SHED_EVENTS : Fld := ⟨0x368, 8, 0, 48⟩
/-- Source 3, NOTIFY. -/
abbrev S_SHED : Nat := 3
/-- Source 4, RECORD. -/
abbrev S_RES_REFUSED : Nat := 4
/-- Source 5, RECORD. -/
abbrev S_PANIC : Nat := 5
/-- Source 6, RECORD. -/
abbrev S_CE_FIXED : Nat := 6
/-- Source 7, NOTIFY. -/
abbrev S_UE : Nat := 7
/-- Source 8, DEGRADE. -/
abbrev S_PC_RETIRED : Nat := 8
/-- Source 9, HALT. -/
abbrev S_HBM_LOST : Nat := 9
/-- Source 10, NOTIFY. -/
abbrev S_STACK_HOT : Nat := 10
/-- Source 11, NOTIFY. -/
abbrev S_CHAIN_LOST : Nat := 11
/-- Source 12, RECORD. -/
abbrev S_LAYOUT_REFUSED : Nat := 12
/-- Source 13, NOTIFY. -/
abbrev S_SCRUB_LATE : Nat := 13
end OVM

namespace SPR
abbrev SPR_CTL : Fld := ⟨0x100, 8, 0, 48⟩
abbrev SPR_CTL_RESTORE_MAX_CELLS : Fld := ⟨0x100, 8, 16, 21⟩
abbrev SPR_CTL_REJOIN_MS : Fld := ⟨0x100, 8, 0, 16⟩
abbrev SPR_STATUS : Fld := ⟨0x108, 8, 0, 48⟩
abbrev SPR_STATUS_HELD_CELLS : Fld := ⟨0x108, 8, 20, 21⟩
abbrev SPR_STATUS_HOLDING : Fld := ⟨0x108, 8, 0, 17⟩
abbrev IND_CMD : Fld := ⟨0x110, 8, 0, 48⟩
abbrev IND_CMD_TARGET : Fld := ⟨0x110, 8, 45, 3⟩
abbrev IND_CMD_WRITE : Fld := ⟨0x110, 8, 44, 1⟩
abbrev IND_CMD_INDEX : Fld := ⟨0x110, 8, 0, 16⟩
abbrev IND_STATUS : Fld := ⟨0x118, 8, 0, 48⟩
abbrev IND_STATUS_DONE : Fld := ⟨0x118, 8, 7, 1⟩
abbrev IND_STATUS_SKIPPED : Fld := ⟨0x118, 8, 6, 1⟩
abbrev IND_STATUS_CODE : Fld := ⟨0x118, 8, 2, 4⟩
abbrev IND_STATUS_ERROR : Fld := ⟨0x118, 8, 1, 1⟩
abbrev IND_STATUS_BUSY : Fld := ⟨0x118, 8, 0, 1⟩
abbrev IND_DATA : Fld := ⟨0x120, 8, 0, 48⟩
abbrev IND_DATA_DATA : Fld := ⟨0x120, 8, 0, 48⟩
abbrev C_SPRAYED : Fld := ⟨0x200, 8, 0, 48⟩
abbrev C_SPRAY_EMPTY_DROPS : Fld := ⟨0x208, 8, 0, 48⟩
abbrev C_SENT_DROPPED : Fld := ⟨0x210, 8, 0, 48⟩
abbrev C_MEMBER_REMOVALS : Fld := ⟨0x218, 8, 0, 48⟩
abbrev C_MEMBER_REJOINS : Fld := ⟨0x220, 8, 0, 48⟩
abbrev C_SHIM_BAD : Fld := ⟨0x228, 8, 0, 48⟩
abbrev C_UNRESTORED : Fld := ⟨0x230, 8, 0, 48⟩
abbrev C_TAG_MISMATCH : Fld := ⟨0x238, 8, 0, 48⟩
abbrev C_RESTORED : Fld := ⟨0x240, 8, 0, 48⟩
abbrev C_GAPS_LOST : Fld := ⟨0x248, 8, 0, 48⟩
abbrev C_LATE_DELIVERED : Fld := ⟨0x250, 8, 0, 48⟩
abbrev C_LATE_DROPPED : Fld := ⟨0x258, 8, 0, 48⟩
abbrev C_WINDOW_SLIDES : Fld := ⟨0x260, 8, 0, 48⟩
abbrev C_RESTORE_FULL : Fld := ⟨0x268, 8, 0, 48⟩
/-- Source 3, NOTIFY. -/
abbrev S_SPRAY_EMPTY : Nat := 3
/-- Source 4, RECORD. -/
abbrev S_MEMBER_DOWN : Nat := 4
/-- Source 5, RECORD. -/
abbrev S_SHIM_BAD : Nat := 5
/-- Source 6, RECORD. -/
abbrev S_GAP_LOST : Nat := 6
/-- Source 7, RECORD. -/
abbrev S_LATE : Nat := 7
/-- Source 8, NOTIFY. -/
abbrev S_RESTORE_FULL : Nat := 8
/-- Source 9, RECORD. -/
abbrev S_TAG_MISMATCH : Nat := 9
/-- Source 10, RECORD. -/
abbrev S_IND_ERROR : Nat := 10
end SPR

namespace DTM
abbrev DTM_CTL : Fld := ⟨0x100, 8, 0, 48⟩
abbrev DTM_CTL_FREQ_SRC : Fld := ⟨0x100, 8, 0, 1⟩
abbrev DTM_STATUS : Fld := ⟨0x108, 8, 0, 48⟩
abbrev DTM_STATUS_FREQ_PRESENT : Fld := ⟨0x108, 8, 6, 1⟩
abbrev DTM_STATUS_AT_LIMIT : Fld := ⟨0x108, 8, 5, 1⟩
abbrev DTM_STATUS_FOLLOW_LOCK : Fld := ⟨0x108, 8, 4, 1⟩
abbrev DTM_STATUS_HOLDOVER : Fld := ⟨0x108, 8, 3, 1⟩
abbrev DTM_STATUS_IN_SERVICE : Fld := ⟨0x108, 8, 2, 1⟩
abbrev DTM_STATUS_W_SET : Fld := ⟨0x108, 8, 0, 1⟩
abbrev W_CTL : Fld := ⟨0x110, 8, 0, 48⟩
abbrev W_CTL_LOCK_NS : Fld := ⟨0x110, 8, 26, 16⟩
abbrev W_CTL_TAU : Fld := ⟨0x110, 8, 10, 16⟩
abbrev W_CTL_SLEW_MAX : Fld := ⟨0x110, 8, 2, 8⟩
abbrev W_CTL_FOLLOW : Fld := ⟨0x110, 8, 0, 2⟩
abbrev W_SET_SEC : Fld := ⟨0x118, 8, 0, 48⟩
abbrev W_SET_SEC_SECONDS : Fld := ⟨0x118, 8, 0, 48⟩
abbrev W_SET_NS : Fld := ⟨0x120, 8, 0, 48⟩
abbrev W_SET_NS_NS : Fld := ⟨0x120, 8, 16, 30⟩
abbrev W_SET_NS_FRAC : Fld := ⟨0x120, 8, 0, 16⟩
abbrev W_CMD : Fld := ⟨0x128, 8, 0, 48⟩
abbrev W_CMD_SRC : Fld := ⟨0x128, 8, 1, 2⟩
abbrev W_CMD_SET : Fld := ⟨0x128, 8, 0, 1⟩
abbrev W_PHASE : Fld := ⟨0x130, 8, 0, 48⟩
abbrev W_PHASE_PHI : Fld := ⟨0x130, 8, 0, 48⟩
abbrev W_RATE : Fld := ⟨0x138, 8, 0, 48⟩
abbrev W_RATE_RATE : Fld := ⟨0x138, 8, 0, 40⟩
abbrev W_LAST_SEC : Fld := ⟨0x140, 8, 0, 48⟩
abbrev W_LAST_SEC_SECONDS : Fld := ⟨0x140, 8, 0, 48⟩
abbrev W_LAST_NS : Fld := ⟨0x148, 8, 0, 48⟩
abbrev W_LAST_NS_NS : Fld := ⟨0x148, 8, 16, 30⟩
abbrev W_LAST_NS_FRAC : Fld := ⟨0x148, 8, 0, 16⟩
abbrev D_CTL : Fld := ⟨0x180, 64, 0, 48⟩
abbrev D_CTL_SDO_MATCH : Fld := ⟨0x180, 64, 20, 1⟩
abbrev D_CTL_MAJOR_SDO : Fld := ⟨0x180, 64, 16, 4⟩
abbrev D_CTL_DOMAIN : Fld := ⟨0x180, 64, 8, 8⟩
abbrev D_CTL_EN : Fld := ⟨0x180, 64, 0, 1⟩
abbrev D_RATE : Fld := ⟨0x188, 64, 0, 48⟩
abbrev D_RATE_RATE : Fld := ⟨0x188, 64, 0, 40⟩
abbrev STEP_SEC : Fld := ⟨0x190, 64, 0, 48⟩
abbrev STEP_SEC_SECONDS : Fld := ⟨0x190, 64, 0, 48⟩
abbrev STEP_NS : Fld := ⟨0x198, 64, 0, 48⟩
abbrev STEP_NS_NS : Fld := ⟨0x198, 64, 16, 30⟩
abbrev STEP_NS_FRAC : Fld := ⟨0x198, 64, 0, 16⟩
abbrev D_CMD : Fld := ⟨0x1a0, 64, 0, 48⟩
abbrev D_CMD_MODE : Fld := ⟨0x1a0, 64, 2, 1⟩
abbrev D_CMD_ARM : Fld := ⟨0x1a0, 64, 1, 1⟩
abbrev D_CMD_STEP : Fld := ⟨0x1a0, 64, 0, 1⟩
abbrev D_ADJ : Fld := ⟨0x1a8, 64, 0, 48⟩
abbrev D_ADJ_ADJ_PPM : Fld := ⟨0x1a8, 64, 40, 8⟩
abbrev D_ADJ_AMOUNT : Fld := ⟨0x1a8, 64, 0, 40⟩
abbrev D_STATUS : Fld := ⟨0x1b0, 64, 0, 48⟩
abbrev D_STATUS_ADJ_LEFT : Fld := ⟨0x1b0, 64, 8, 40⟩
abbrev D_STATUS_IN_SERVICE : Fld := ⟨0x1b0, 64, 2, 1⟩
abbrev D_STATUS_STEPPED : Fld := ⟨0x1b0, 64, 1, 1⟩
abbrev D_STATUS_ARMED : Fld := ⟨0x1b0, 64, 0, 1⟩
abbrev PPS_IN_CTL : Fld := ⟨0x200, 8, 0, 48⟩
abbrev PPS_IN_CTL_SEL1 : Fld := ⟨0x200, 8, 4, 2⟩
abbrev PPS_IN_CTL_SEL0 : Fld := ⟨0x200, 8, 2, 2⟩
abbrev PPS_IN_CTL_EN1 : Fld := ⟨0x200, 8, 1, 1⟩
abbrev PPS_IN_CTL_EN0 : Fld := ⟨0x200, 8, 0, 1⟩
abbrev CAP_W_SEC : Fld := ⟨0x210, 32, 0, 48⟩
abbrev CAP_W_SEC_SECONDS : Fld := ⟨0x210, 32, 0, 48⟩
abbrev CAP_W_NS : Fld := ⟨0x218, 32, 0, 48⟩
abbrev CAP_W_NS_VALID : Fld := ⟨0x218, 32, 47, 1⟩
abbrev CAP_W_NS_OVERRUN : Fld := ⟨0x218, 32, 46, 1⟩
abbrev CAP_W_NS_NS : Fld := ⟨0x218, 32, 16, 30⟩
abbrev CAP_W_NS_FRAC : Fld := ⟨0x218, 32, 0, 16⟩
abbrev CAP_D_SEC : Fld := ⟨0x220, 32, 0, 48⟩
abbrev CAP_D_SEC_SECONDS : Fld := ⟨0x220, 32, 0, 48⟩
abbrev CAP_D_NS : Fld := ⟨0x228, 32, 0, 48⟩
abbrev CAP_D_NS_NS : Fld := ⟨0x228, 32, 16, 30⟩
abbrev CAP_D_NS_FRAC : Fld := ⟨0x228, 32, 0, 16⟩
abbrev PPS_OUT_CTL : Fld := ⟨0x280, 8, 0, 48⟩
abbrev PPS_OUT_CTL_ADV_NS : Fld := ⟨0x280, 8, 24, 16⟩
abbrev PPS_OUT_CTL_WIDTH : Fld := ⟨0x280, 8, 4, 20⟩
abbrev PPS_OUT_CTL_SEL1 : Fld := ⟨0x280, 8, 2, 2⟩
abbrev PPS_OUT_CTL_EN1 : Fld := ⟨0x280, 8, 1, 1⟩
abbrev PPS_OUT_CTL_EN0 : Fld := ⟨0x280, 8, 0, 1⟩
abbrev TIME_SNAP : Fld := ⟨0x300, 8, 0, 48⟩
abbrev TIME_SNAP_SNAP : Fld := ⟨0x300, 8, 0, 1⟩
abbrev SNAP_W_SEC : Fld := ⟨0x308, 8, 0, 48⟩
abbrev SNAP_W_SEC_SECONDS : Fld := ⟨0x308, 8, 0, 48⟩
abbrev SNAP_W_NS : Fld := ⟨0x310, 8, 0, 48⟩
abbrev SNAP_W_NS_NS : Fld := ⟨0x310, 8, 16, 30⟩
abbrev SNAP_W_NS_FRAC : Fld := ⟨0x310, 8, 0, 16⟩
abbrev SNAP_A_SEC : Fld := ⟨0x318, 8, 0, 48⟩
abbrev SNAP_A_SEC_SECONDS : Fld := ⟨0x318, 8, 0, 48⟩
abbrev SNAP_A_NS : Fld := ⟨0x320, 8, 0, 48⟩
abbrev SNAP_A_NS_NS : Fld := ⟨0x320, 8, 16, 30⟩
abbrev SNAP_A_NS_FRAC : Fld := ⟨0x320, 8, 0, 16⟩
abbrev SNAP_B_SEC : Fld := ⟨0x328, 8, 0, 48⟩
abbrev SNAP_B_SEC_SECONDS : Fld := ⟨0x328, 8, 0, 48⟩
abbrev SNAP_B_NS : Fld := ⟨0x330, 8, 0, 48⟩
abbrev SNAP_B_NS_NS : Fld := ⟨0x330, 8, 16, 30⟩
abbrev SNAP_B_NS_FRAC : Fld := ⟨0x330, 8, 0, 16⟩
abbrev LAUNCH_CFG : Fld := ⟨0x380, 8, 0, 48⟩
abbrev LAUNCH_CFG_LATE_TOL : Fld := ⟨0x380, 8, 16, 24⟩
abbrev LAUNCH_CFG_EN : Fld := ⟨0x380, 8, 9, 1⟩
abbrev LAUNCH_CFG_LATE_DROP : Fld := ⟨0x380, 8, 8, 1⟩
abbrev LAUNCH_CFG_WORD : Fld := ⟨0x380, 8, 0, 8⟩
abbrev CAL_STATUS : Fld := ⟨0x388, 8, 0, 48⟩
abbrev CAL_STATUS_WORST : Fld := ⟨0x388, 8, 16, 16⟩
abbrev CAL_STATUS_ISLAND : Fld := ⟨0x388, 8, 8, 6⟩
abbrev CAL_STATUS_FAIL : Fld := ⟨0x388, 8, 0, 1⟩
abbrev C_STEPS_A : Fld := ⟨0x400, 8, 0, 48⟩
abbrev C_STEPS_B : Fld := ⟨0x408, 8, 0, 48⟩
abbrev C_REARMS_A : Fld := ⟨0x410, 8, 0, 48⟩
abbrev C_REARMS_B : Fld := ⟨0x418, 8, 0, 48⟩
abbrev C_LAUNCH_LATE_SENT : Fld := ⟨0x420, 8, 0, 48⟩
abbrev C_LAUNCH_LATE_DROPS : Fld := ⟨0x428, 8, 0, 48⟩
abbrev C_LAUNCH_BAD : Fld := ⟨0x430, 8, 0, 48⟩
abbrev C_PPS_MISSED0 : Fld := ⟨0x438, 8, 0, 48⟩
abbrev C_PPS_MISSED1 : Fld := ⟨0x440, 8, 0, 48⟩
abbrev C_FREQ_LOSSES : Fld := ⟨0x448, 8, 0, 48⟩
abbrev C_CAL_FAILS : Fld := ⟨0x450, 8, 0, 48⟩
/-- Source 3, RECORD. -/
abbrev S_W_SET_REFUSED : Nat := 3
/-- Source 4, RECORD. -/
abbrev S_STEPPED : Nat := 4
/-- Source 5, RECORD. -/
abbrev S_REARM : Nat := 5
/-- Source 6, RECORD. -/
abbrev S_STEP_REFUSED : Nat := 6
/-- Source 7, NOTIFY. -/
abbrev S_FOLLOW_LOST : Nat := 7
/-- Source 8, RECORD. -/
abbrev S_SLEW_LIMIT : Nat := 8
/-- Source 9, RECORD. -/
abbrev S_FOLLOW_LOCK : Nat := 9
/-- Source 10, DEGRADE. -/
abbrev S_FREQ_LOST : Nat := 10
/-- Source 11, RECORD. -/
abbrev S_PPS_IN0 : Nat := 11
/-- Source 12, RECORD. -/
abbrev S_PPS_IN1 : Nat := 12
/-- Source 13, NOTIFY. -/
abbrev S_PPS_MISSING : Nat := 13
/-- Source 14, NOTIFY. -/
abbrev S_CAL_FAIL : Nat := 14
/-- Source 15, RECORD. -/
abbrev S_LAUNCH_LATE : Nat := 15
/-- Source 16, RECORD. -/
abbrev S_LAUNCH_BAD : Nat := 16
end DTM

namespace TEL
abbrev FLOW_CFG : Fld := ⟨0x100, 8, 0, 48⟩
abbrev FLOW_CFG_SEED : Fld := ⟨0x100, 8, 16, 32⟩
abbrev FLOW_CFG_BACKING : Fld := ⟨0x100, 8, 1, 1⟩
abbrev FLOW_CFG_EN : Fld := ⟨0x100, 8, 0, 1⟩
abbrev FLOW_TIMEOUT : Fld := ⟨0x108, 8, 0, 48⟩
abbrev FLOW_TIMEOUT_ACTIVE_S : Fld := ⟨0x108, 8, 24, 24⟩
abbrev FLOW_TIMEOUT_IDLE_MS : Fld := ⟨0x108, 8, 0, 24⟩
abbrev FKEY_ADDR : Fld := ⟨0x110, 8, 0, 48⟩
abbrev FKEY_ADDR_SRC_WORD : Fld := ⟨0x110, 8, 40, 8⟩
abbrev FKEY_ADDR_DST_WORD : Fld := ⟨0x110, 8, 32, 8⟩
abbrev FKEY_ADDR_HT_IPV4 : Fld := ⟨0x110, 8, 26, 6⟩
abbrev FKEY_ADDR_HT_IPV6 : Fld := ⟨0x110, 8, 20, 6⟩
abbrev FKEY_L4 : Fld := ⟨0x118, 8, 0, 48⟩
abbrev FKEY_L4_PROTO_WORD : Fld := ⟨0x118, 8, 40, 8⟩
abbrev FKEY_L4_PROTO_LSB : Fld := ⟨0x118, 8, 34, 6⟩
abbrev FKEY_L4_PORT_WORD : Fld := ⟨0x118, 8, 26, 8⟩
abbrev FKEY_L4_PORT_LSB : Fld := ⟨0x118, 8, 20, 6⟩
abbrev FKEY_L4_TCPF_WORD : Fld := ⟨0x118, 8, 12, 8⟩
abbrev FKEY_L4_TCPF_LSB : Fld := ⟨0x118, 8, 6, 6⟩
abbrev METER_CFG : Fld := ⟨0x120, 8, 0, 48⟩
abbrev METER_CFG_WIN : Fld := ⟨0x120, 8, 8, 5⟩
abbrev METER_CFG_ADJ : Fld := ⟨0x120, 8, 0, 8⟩
abbrev INT_CFG : Fld := ⟨0x128, 8, 0, 48⟩
abbrev INT_CFG_EN : Fld := ⟨0x128, 8, 21, 1⟩
abbrev INT_CFG_SINK_EXPORT : Fld := ⟨0x128, 8, 20, 1⟩
abbrev INT_CFG_MAX_HOPS : Fld := ⟨0x128, 8, 17, 3⟩
abbrev INT_CFG_WORD : Fld := ⟨0x128, 8, 9, 8⟩
abbrev INT_CFG_BIT : Fld := ⟨0x128, 8, 3, 6⟩
abbrev FLOW_STATUS : Fld := ⟨0x130, 8, 0, 48⟩
abbrev FLOW_STATUS_WB_QUEUE : Fld := ⟨0x130, 8, 20, 13⟩
abbrev FLOW_STATUS_CACHED : Fld := ⟨0x130, 8, 0, 20⟩
abbrev C_FLOWS_CREATED : Fld := ⟨0x200, 8, 0, 48⟩
abbrev C_FLOW_EXPORTS : Fld := ⟨0x208, 8, 0, 48⟩
abbrev C_FLOW_EVICTIONS : Fld := ⟨0x210, 8, 0, 48⟩
abbrev C_FLOW_PARTIAL : Fld := ⟨0x218, 8, 0, 48⟩
abbrev C_FLOW_POISONED : Fld := ⟨0x220, 8, 0, 48⟩
abbrev C_FLOW_LOST : Fld := ⟨0x228, 8, 0, 48⟩
abbrev C_EXPORT_LOST : Fld := ⟨0x230, 8, 0, 48⟩
abbrev C_INT_INSERTED : Fld := ⟨0x238, 8, 0, 48⟩
abbrev C_INT_OVERFLOW : Fld := ⟨0x240, 8, 0, 48⟩
abbrev C_INT_BAD : Fld := ⟨0x248, 8, 0, 48⟩
abbrev C_INT_EXPORTS : Fld := ⟨0x250, 8, 0, 48⟩
/-- Source 3, NOTIFY. -/
abbrev S_FLOW_POISONED : Nat := 3
/-- Source 4, RECORD. -/
abbrev S_FLOW_MEM : Nat := 4
/-- Source 5, RECORD. -/
abbrev S_INT_BAD : Nat := 5
end TEL

namespace SVC
abbrev IND_CMD : Fld := ⟨0x100, 8, 0, 48⟩
abbrev IND_CMD_WRITE : Fld := ⟨0x100, 8, 47, 1⟩
abbrev IND_CMD_INDEX : Fld := ⟨0x100, 8, 0, 12⟩
abbrev WRAP_ADDR : Fld := ⟨0x140, 8, 0, 48⟩
abbrev WRAP_ADDR_BULK : Fld := ⟨0x140, 8, 47, 1⟩
abbrev WRAP_ADDR_ADDR : Fld := ⟨0x140, 8, 0, 47⟩
abbrev WRAP_MAP : Fld := ⟨0x148, 8, 0, 48⟩
abbrev WRAP_MAP_WRAP : Fld := ⟨0x148, 8, 0, 48⟩
abbrev IND_STATUS : Fld := ⟨0x108, 8, 0, 48⟩
abbrev IND_STATUS_DONE : Fld := ⟨0x108, 8, 7, 1⟩
abbrev IND_STATUS_SKIPPED : Fld := ⟨0x108, 8, 6, 1⟩
abbrev IND_STATUS_CODE : Fld := ⟨0x108, 8, 2, 4⟩
abbrev IND_STATUS_ERROR : Fld := ⟨0x108, 8, 1, 1⟩
abbrev IND_STATUS_BUSY : Fld := ⟨0x108, 8, 0, 1⟩
abbrev IND_DATA : Fld := ⟨0x110, 8, 0, 48⟩
abbrev IND_DATA_DATA : Fld := ⟨0x110, 8, 0, 48⟩
/-- Source 3, RECORD. -/
abbrev S_IND_ERROR : Nat := 3
end SVC

namespace DMP
abbrev DMP_CFG : Fld := ⟨0x100, 8, 0, 48⟩
abbrev DMP_CFG_EN : Fld := ⟨0x100, 8, 15, 1⟩
abbrev DMP_CFG_DEST : Fld := ⟨0x100, 8, 14, 1⟩
abbrev DMP_CFG_CLEAR_WRAP : Fld := ⟨0x100, 8, 13, 1⟩
abbrev DMP_CFG_SECTIONS : Fld := ⟨0x100, 8, 6, 7⟩
abbrev DMP_PERIOD : Fld := ⟨0x108, 8, 0, 48⟩
abbrev DMP_PERIOD_PERIOD_US : Fld := ⟨0x108, 8, 0, 24⟩
abbrev DMP_CMD : Fld := ⟨0x110, 8, 0, 48⟩
abbrev DMP_CMD_NOW : Fld := ⟨0x110, 8, 0, 1⟩
abbrev DMP_STATUS : Fld := ⟨0x118, 8, 0, 48⟩
abbrev DMP_STATUS_BUSY : Fld := ⟨0x118, 8, 47, 1⟩
abbrev DMP_STATUS_HBM_NEXT : Fld := ⟨0x118, 8, 21, 21⟩
abbrev DMP_STATUS_BLOCKS : Fld := ⟨0x118, 8, 0, 21⟩
abbrev DMP_SEQ : Fld := ⟨0x120, 8, 0, 48⟩
abbrev DMP_SEQ_SEQ : Fld := ⟨0x120, 8, 0, 48⟩
abbrev XBASE : Fld := ⟨0x200, 64, 0, 48⟩
abbrev XBASE_ADDR : Fld := ⟨0x200, 64, 0, 48⟩
abbrev XCFG : Fld := ⟨0x208, 64, 0, 48⟩
abbrev XCFG_OVERWRITE : Fld := ⟨0x208, 64, 11, 1⟩
abbrev XCFG_SIZE : Fld := ⟨0x208, 64, 7, 4⟩
abbrev XCFG_STREAM : Fld := ⟨0x208, 64, 5, 2⟩
abbrev XCFG_PORT : Fld := ⟨0x208, 64, 4, 1⟩
abbrev XCFG_ENABLE : Fld := ⟨0x208, 64, 0, 1⟩
abbrev XPROD : Fld := ⟨0x210, 64, 0, 48⟩
abbrev XPROD_INDEX : Fld := ⟨0x210, 64, 0, 15⟩
abbrev XCONS : Fld := ⟨0x218, 64, 0, 48⟩
abbrev XCONS_INDEX : Fld := ⟨0x218, 64, 0, 15⟩
abbrev XLOST : Fld := ⟨0x220, 64, 0, 48⟩
abbrev XLOST_COUNT : Fld := ⟨0x220, 64, 0, 48⟩
abbrev RECORDS : Fld := ⟨0x228, 64, 0, 48⟩
abbrev RECORDS_COUNT : Fld := ⟨0x228, 64, 0, 48⟩
abbrev C_DUMPS_TAKEN : Fld := ⟨0x400, 8, 0, 48⟩
abbrev C_DUMPS_SKIPPED : Fld := ⟨0x408, 8, 0, 48⟩
abbrev C_BLOCKS_WRITTEN : Fld := ⟨0x410, 8, 0, 48⟩
abbrev C_POISONED_READS : Fld := ⟨0x418, 8, 0, 48⟩
/-- Source 3, NOTIFY. -/
abbrev S_XRING_DATA : Nat := 3
/-- Source 4, NOTIFY. -/
abbrev S_DUMP_SKIPPED : Nat := 4
/-- Source 5, RECORD. -/
abbrev S_DUMP_REFUSED : Nat := 5
/-- Source 6, NOTIFY. -/
abbrev S_POISONED : Nat := 6
end DMP

namespace VFE
abbrev LOG_STATUS : Fld := ⟨0x100, 8, 0, 48⟩
abbrev LOG_STATUS_REFUSED : Fld := ⟨0x100, 8, 7, 1⟩
abbrev LOG_STATUS_DONE : Fld := ⟨0x100, 8, 6, 1⟩
abbrev LOG_STATUS_LOST : Fld := ⟨0x100, 8, 5, 1⟩
abbrev LOG_STATUS_COUNT : Fld := ⟨0x100, 8, 0, 5⟩
abbrev LOG_SNAP : Fld := ⟨0x108, 8, 0, 48⟩
abbrev LOG_SNAP_SNAP : Fld := ⟨0x108, 8, 0, 1⟩
abbrev LOG_ENTRY : Fld := ⟨0x140, 8, 0, 48⟩
abbrev LOG_ENTRY_ENTRY : Fld := ⟨0x140, 8, 0, 48⟩
abbrev CMD_BASE : Fld := ⟨0x1000, 64, 0, 48⟩
abbrev CMD_BASE_ADDR : Fld := ⟨0x1000, 64, 0, 48⟩
abbrev CMD_CFG : Fld := ⟨0x1008, 64, 0, 48⟩
abbrev CMD_CFG_PARCEL_MASK : Fld := ⟨0x1008, 64, 5, 12⟩
abbrev CMD_CFG_SIZE : Fld := ⟨0x1008, 64, 1, 4⟩
abbrev CMD_CFG_ENABLE : Fld := ⟨0x1008, 64, 0, 1⟩
abbrev CMD_HEAD : Fld := ⟨0x1010, 64, 0, 48⟩
abbrev CMD_HEAD_INDEX : Fld := ⟨0x1010, 64, 0, 12⟩
abbrev CMD_TAIL : Fld := ⟨0x1018, 64, 0, 48⟩
abbrev CMD_TAIL_INDEX : Fld := ⟨0x1018, 64, 0, 12⟩
abbrev CMD_REFUSED : Fld := ⟨0x1020, 64, 0, 48⟩
abbrev CMD_REFUSED_COUNT : Fld := ⟨0x1020, 64, 0, 48⟩
abbrev CMD_DONE : Fld := ⟨0x1028, 64, 0, 48⟩
abbrev CMD_DONE_COUNT : Fld := ⟨0x1028, 64, 0, 48⟩
/-- Source 3, RECORD. -/
abbrev S_UNMAPPED : Nat := 3
/-- Source 4, NOTIFY. -/
abbrev S_RING_DMA_ERROR : Nat := 4
/-- Source 5, RECORD. -/
abbrev S_DESC_ERROR : Nat := 5
/-- Source 6, NOTIFY. -/
abbrev S_PARCEL_CHECK : Nat := 6
end VFE

end Sys2Proof.Machine
end

