-- ==== Sys2Proof/Machine/RegMap.lean ====
section
/-!
DEFINITION. Sys2Proof/Machine/RegMap.lean: the register map. For each page type, its registers with their offsets,
instances, fields, access codes (R13), "64-bit write only" marks (R62) and reset values, and its event sources' default
severities (R601), as the chapters' register tables give them.
-/
namespace Sys2Proof.Machine

/-- The access codes of R13. -/
inductive Acc where
  | rw | ro | rc | w1c | w1s | wo | rwh | rwl
deriving DecidableEq, Repr

/-- One field of a row: its lowest bit, its width and its access code. -/
structure RowField where
  lo  : Nat
  w   : Nat
  acc : Acc
deriving DecidableEq, Repr

/-- One register (with `n` instances `st` bytes apart): its fields, its marked bits (R62), its reset value, and whether it is a counter
(R561). -/
structure RegRow where
  off    : Nat
  st     : Nat
  n      : Nat
  reset  : Nat
  mark   : Nat
  ctr    : Bool
  fields : List RowField
deriving DecidableEq, Repr

/-- Registers of TB (02_host_interface_and_pages.md). -/
def rowsTB : List RegRow :=
  [⟨0x0, 8, 1, 0x0, 0x0, false, [⟨32, 16, .ro⟩, ⟨16, 16, .ro⟩, ⟨8, 8, .ro⟩, ⟨0, 8, .ro⟩]⟩,
   ⟨0x8, 8, 1, 0x0, 0x0, false, [⟨16, 6, .ro⟩, ⟨8, 8, .ro⟩, ⟨7, 1, .ro⟩, ⟨6, 1, .ro⟩, ⟨0, 6, .ro⟩]⟩,
   ⟨0x10, 8, 1, 0x2000000, 0x0, false, [⟨25, 1, .rw⟩, ⟨24, 1, .rw⟩, ⟨16, 8, .rw⟩, ⟨0, 12, .rw⟩]⟩,
   ⟨0x18, 8, 1, 0x2, 0x10, false, [⟨13, 1, .ro⟩, ⟨8, 5, .ro⟩, ⟨7, 1, .w1s⟩, ⟨6, 1, .rw⟩, ⟨5, 1, .rwh⟩, ⟨4, 1, .wo⟩, ⟨0, 3, .ro⟩]⟩,
   ⟨0x20, 8, 1, 0x0, 0x0, false, [⟨0, 48, .w1c⟩]⟩,
   ⟨0x28, 8, 1, 0x0, 0x0, false, [⟨0, 48, .rw⟩]⟩,
   ⟨0x30, 8, 1, 0x0, 0x0, false, [⟨0, 48, .rwl⟩]⟩,
   ⟨0x38, 8, 1, 0x0, 0x0, false, [⟨0, 48, .rwl⟩]⟩,
   ⟨0x40, 8, 1, 0x0, 0x0, false, [⟨13, 1, .rw⟩, ⟨12, 1, .rw⟩, ⟨0, 11, .rw⟩]⟩,
   ⟨0x48, 8, 1, 0x0, 0x0, false, [⟨47, 1, .ro⟩, ⟨40, 6, .ro⟩, ⟨38, 2, .ro⟩, ⟨0, 32, .ro⟩]⟩,
   ⟨0x50, 8, 1, 0x0, 0x0, false, [⟨0, 48, .ro⟩]⟩,
   ⟨0x58, 8, 1, 0x0, 0x0, false, [⟨16, 32, .ro⟩, ⟨8, 8, .rw⟩, ⟨1, 2, .ro⟩, ⟨0, 1, .w1s⟩]⟩,
   ⟨0x60, 8, 1, 0x0, 0x0, false, [⟨0, 48, .rw⟩]⟩]

/-- Registers of DEV (20_power_reset_lifecycle.md). -/
def rowsDEV : List RegRow :=
  [⟨0x100, 8, 1, 0x7680000b100, 0x0, false, [⟨32, 16, .ro⟩, ⟨8, 8, .ro⟩]⟩,
   ⟨0x108, 8, 1, 0x0, 0x0, false, [⟨0, 48, .ro⟩]⟩,
   ⟨0x110, 8, 1, 0x0, 0x0, false, [⟨0, 16, .ro⟩]⟩,
   ⟨0x118, 8, 1, 0x0, 0x1, false, [⟨32, 16, .wo⟩, ⟨0, 1, .wo⟩]⟩,
   ⟨0x120, 8, 1, 0xfa0000000001, 0x0, false, [⟨38, 10, .ro⟩, ⟨3, 1, .ro⟩, ⟨2, 1, .ro⟩, ⟨1, 1, .ro⟩, ⟨0, 1, .ro⟩]⟩,
   ⟨0x128, 8, 1, 0x0, 0x0, false, [⟨0, 2, .ro⟩]⟩,
   ⟨0x130, 8, 1, 0x0, 0x0, false, [⟨12, 4, .ro⟩, ⟨9, 3, .ro⟩, ⟨8, 1, .ro⟩, ⟨7, 1, .ro⟩, ⟨6, 1, .ro⟩, ⟨3, 1, .ro⟩, ⟨0, 3, .ro⟩]⟩,
   ⟨0x138, 8, 1, 0x0, 0x7, false, [⟨3, 1, .wo⟩, ⟨0, 3, .wo⟩]⟩,
   ⟨0x140, 8, 1, 0x0, 0x0, false, [⟨8, 7, .ro⟩, ⟨0, 4, .ro⟩]⟩,
   ⟨0x148, 8, 1, 0x0, 0x7f, false, [⟨46, 2, .wo⟩, ⟨0, 7, .wo⟩]⟩,
   ⟨0x150, 8, 1, 0x0, 0x0, false, [⟨3, 3, .ro⟩, ⟨2, 1, .ro⟩, ⟨1, 1, .ro⟩, ⟨0, 1, .ro⟩]⟩,
   ⟨0x160, 8, 4, 0x0, 0x0, false, [⟨0, 48, .rw⟩]⟩,
   ⟨0x180, 8, 1, 0x0, 0x1, false, [⟨0, 1, .wo⟩]⟩,
   ⟨0x188, 8, 1, 0x0, 0x0, false, [⟨2, 1, .ro⟩, ⟨1, 1, .ro⟩, ⟨0, 1, .ro⟩]⟩]

/-- Registers of CLK (20_power_reset_lifecycle.md). -/
def rowsCLK : List RegRow :=
  [⟨0x100, 8, 1, 0x8, 0x0, false, [⟨3, 1, .rw⟩, ⟨0, 3, .rw⟩]⟩,
   ⟨0x108, 8, 1, 0x0, 0x0, false, [⟨22, 1, .ro⟩, ⟨16, 6, .ro⟩, ⟨8, 3, .ro⟩, ⟨5, 2, .ro⟩, ⟨0, 5, .ro⟩]⟩,
   ⟨0x110, 8, 1, 0x0, 0x0, false, [⟨0, 48, .ro⟩]⟩,
   ⟨0x118, 8, 1, 0x0, 0x0, false, [⟨0, 16, .ro⟩]⟩,
   ⟨0x120, 8, 1, 0x0, 0x0, true, [⟨0, 48, .ro⟩]⟩]

/-- Registers of PWR (20_power_reset_lifecycle.md). -/
def rowsPWR : List RegRow :=
  [⟨0x100, 8, 1, 0x3fffffff, 0x0, false, [⟨0, 30, .rwh⟩]⟩,
   ⟨0x108, 8, 1, 0x0, 0x0, false, [⟨36, 1, .ro⟩, ⟨31, 5, .ro⟩, ⟨0, 30, .ro⟩]⟩,
   ⟨0x110, 8, 1, 0x0, 0x0, false, [⟨47, 1, .rc⟩, ⟨5, 42, .rc⟩, ⟨0, 5, .rc⟩]⟩]

/-- Registers of FLS (20_power_reset_lifecycle.md). -/
def rowsFLS : List RegRow :=
  [⟨0x100, 8, 1, 0x0, 0x0, false, [⟨33, 2, .ro⟩, ⟨32, 1, .ro⟩, ⟨24, 8, .ro⟩, ⟨16, 8, .ro⟩, ⟨2, 2, .ro⟩, ⟨0, 2, .ro⟩]⟩,
   ⟨0x108, 8, 1, 0x0, 0x0, false, [⟨1, 1, .rwl⟩, ⟨0, 1, .rwl⟩]⟩,
   ⟨0x110, 8, 1, 0x0, 0xffffffff, false, [⟨45, 3, .wo⟩, ⟨44, 1, .wo⟩, ⟨38, 6, .wo⟩, ⟨0, 32, .wo⟩]⟩,
   ⟨0x118, 8, 1, 0x0, 0x0, false, [⟨3, 3, .ro⟩, ⟨2, 1, .ro⟩, ⟨1, 1, .ro⟩, ⟨0, 1, .ro⟩]⟩,
   ⟨0x120, 8, 8, 0x0, 0x0, false, [⟨0, 48, .rw⟩]⟩,
   ⟨0x180, 8, 1, 0x0, 0x0, true, [⟨0, 48, .ro⟩]⟩]

/-- Registers of THM (22_package_and_electrical.md). -/
def rowsTHM : List RegRow :=
  [⟨0x100, 8, 1, 0x917d, 0x0, false, [⟨8, 8, .rw⟩, ⟨0, 8, .rw⟩]⟩,
   ⟨0x108, 8, 1, 0x0, 0x0, false, [⟨32, 16, .ro⟩, ⟨26, 6, .ro⟩, ⟨2, 1, .ro⟩, ⟨1, 1, .ro⟩, ⟨0, 1, .ro⟩]⟩,
   ⟨0x140, 8, 16, 0x800080008000, 0x0, false, [⟨32, 16, .ro⟩, ⟨16, 16, .ro⟩, ⟨0, 16, .ro⟩]⟩,
   ⟨0x1c0, 8, 1, 0x0, 0x0, false, [⟨0, 1, .ro⟩]⟩,
   ⟨0x200, 8, 1, 0x0, 0x0, false, [⟨0, 16, .rw⟩]⟩,
   ⟨0x208, 8, 1, 0x0, 0x0, false, [⟨0, 16, .rw⟩]⟩,
   ⟨0x210, 8, 1, 0x0, 0x0, false, [⟨0, 16, .ro⟩]⟩,
   ⟨0x218, 8, 1, 0x0, 0x0, false, [⟨16, 16, .rw⟩, ⟨0, 16, .rw⟩]⟩,
   ⟨0x220, 8, 1, 0x0, 0x0, false, [⟨0, 16, .w1c⟩]⟩]

/-- Registers of MGB (04_octen_laser_modules.md). -/
def rowsMGB : List RegRow :=
  [⟨0x100, 8, 1, 0x1, 0x0, false, [⟨2, 2, .rw⟩, ⟨1, 1, .w1s⟩, ⟨0, 1, .rw⟩]⟩,
   ⟨0x108, 8, 1, 0x0, 0x0, false, [⟨4, 4, .ro⟩, ⟨3, 1, .ro⟩, ⟨2, 1, .ro⟩, ⟨0, 2, .ro⟩]⟩,
   ⟨0x110, 8, 1, 0x0, 0x0, true, [⟨0, 48, .ro⟩]⟩,
   ⟨0x118, 8, 1, 0x0, 0x0, true, [⟨0, 48, .ro⟩]⟩]

/-- Registers of HIF (02_host_interface_and_pages.md). -/
def rowsHIF : List RegRow :=
  [⟨0x100, 8, 1, 0x0, 0x0, false, [⟨16, 1, .ro⟩, ⟨8, 8, .ro⟩, ⟨7, 1, .ro⟩, ⟨4, 3, .ro⟩, ⟨1, 3, .ro⟩, ⟨0, 1, .ro⟩]⟩,
   ⟨0x108, 8, 1, 0x0, 0x0, false, [⟨1, 1, .rw⟩, ⟨0, 1, .rw⟩]⟩,
   ⟨0x110, 8, 1, 0x0, 0x0, false, [⟨47, 1, .rc⟩, ⟨40, 7, .rc⟩, ⟨37, 3, .rc⟩, ⟨36, 1, .rc⟩, ⟨28, 8, .rc⟩, ⟨0, 28, .rc⟩]⟩,
   ⟨0x118, 8, 1, 0x0, 0xffff, false, [⟨0, 16, .wo⟩]⟩,
   ⟨0x120, 8, 1, 0x0, 0x0, false, [⟨7, 1, .ro⟩, ⟨6, 1, .ro⟩, ⟨5, 1, .ro⟩, ⟨0, 5, .ro⟩]⟩,
   ⟨0x128, 8, 3, 0x0, 0x0, false, [⟨0, 48, .ro⟩]⟩,
   ⟨0x140, 8, 16, 0x0, 0x0, false, [⟨0, 48, .ro⟩]⟩,
   ⟨0x200, 8, 8, 0x0, 0x0, false, [⟨24, 24, .rw⟩]⟩,
   ⟨0x800, 8, 256, 0x0, 0x0, true, [⟨0, 48, .ro⟩]⟩]

/-- Registers of DMQ (02_host_interface_and_pages.md). -/
def rowsDMQ : List RegRow :=
  [⟨0x100, 64, 32, 0x0, 0x0, false, [⟨0, 48, .rw⟩]⟩,
   ⟨0x108, 64, 32, 0x0, 0x0, false, [⟨34, 5, .rw⟩, ⟨30, 4, .rw⟩, ⟨18, 12, .rw⟩, ⟨17, 1, .rw⟩, ⟨6, 11, .rw⟩, ⟨2, 4, .rw⟩, ⟨1, 1, .rw⟩, ⟨0, 1, .rw⟩]⟩,
   ⟨0x110, 64, 32, 0x0, 0x0, false, [⟨0, 15, .ro⟩]⟩,
   ⟨0x118, 64, 32, 0x0, 0x0, false, [⟨0, 15, .rw⟩]⟩,
   ⟨0x120, 64, 32, 0x0, 0x0, true, [⟨0, 48, .ro⟩]⟩,
   ⟨0x128, 64, 32, 0x0, 0x0, true, [⟨0, 48, .ro⟩]⟩,
   ⟨0x900, 8, 1, 0x0, 0x0, false, [⟨0, 5, .rc⟩]⟩]

/-- Registers of PCL (03_parcels_and_easements.md). -/
def rowsPCL : List RegRow :=
  [⟨0x100, 56, 64, 0x1, 0x0, false, [⟨9, 1, .rw⟩, ⟨1, 8, .rw⟩, ⟨0, 1, .rw⟩]⟩,
   ⟨0x108, 56, 64, 0x140000000000, 0x0, false, [⟨24, 21, .rw⟩, ⟨0, 21, .rw⟩]⟩,
   ⟨0x110, 56, 64, 0x100020010000, 0x0, false, [⟨30, 15, .rw⟩, ⟨17, 13, .rw⟩, ⟨0, 17, .rw⟩]⟩,
   ⟨0x118, 56, 64, 0xffffffffffff, 0x0, false, [⟨24, 24, .rw⟩, ⟨0, 24, .rw⟩]⟩,
   ⟨0x120, 56, 64, 0x3000000, 0x0, false, [⟨0, 26, .rw⟩]⟩,
   ⟨0x128, 56, 64, 0x0, 0x0, false, [⟨24, 21, .rc⟩, ⟨0, 21, .ro⟩]⟩,
   ⟨0x130, 56, 64, 0x0, 0x0, false, [⟨0, 26, .ro⟩]⟩,
   ⟨0xf00, 8, 1, 0x0, 0x0, false, [⟨0, 48, .w1c⟩]⟩,
   ⟨0xf08, 8, 1, 0x0, 0x0, false, [⟨0, 16, .w1c⟩]⟩,
   ⟨0xf10, 8, 1, 0x0, 0xffff, false, [⟨46, 2, .wo⟩, ⟨45, 1, .wo⟩, ⟨0, 16, .wo⟩]⟩,
   ⟨0xf18, 8, 1, 0x0, 0x0, false, [⟨1, 1, .ro⟩, ⟨0, 1, .ro⟩]⟩,
   ⟨0xf20, 8, 4, 0x0, 0x0, false, [⟨0, 48, .rw⟩]⟩]

/-- Registers of LMP (04_octen_laser_modules.md). -/
def rowsLMP : List RegRow :=
  [⟨0x100, 8, 1, 0x0, 0xfc0, false, [⟨8, 4, .wo⟩, ⟨7, 1, .wo⟩, ⟨6, 1, .wo⟩, ⟨5, 1, .rwh⟩, ⟨0, 1, .rwh⟩]⟩,
   ⟨0x108, 8, 1, 0x0, 0x0, false, [⟨24, 1, .rc⟩, ⟨20, 4, .ro⟩, ⟨16, 4, .ro⟩, ⟨12, 4, .ro⟩, ⟨11, 1, .ro⟩, ⟨10, 1, .ro⟩, ⟨9, 1, .ro⟩, ⟨8, 1, .ro⟩, ⟨7, 1, .ro⟩, ⟨6, 1, .ro⟩, ⟨5, 1, .ro⟩, ⟨0, 3, .ro⟩]⟩,
   ⟨0x110, 8, 1, 0x41e, 0x0, false, [⟨8, 4, .rw⟩, ⟨0, 8, .rw⟩]⟩,
   ⟨0x120, 8, 4, 0x0, 0x0, false, [⟨0, 48, .ro⟩]⟩,
   ⟨0x140, 8, 1, 0x0, 0x0, false, [⟨16, 32, .ro⟩, ⟨0, 16, .ro⟩]⟩,
   ⟨0x148, 8, 1, 0x0, 0x0, true, [⟨0, 48, .ro⟩]⟩,
   ⟨0x150, 8, 1, 0x0, 0x0, false, [⟨0, 48, .ro⟩]⟩,
   ⟨0x158, 8, 1, 0x0, 0x0, false, [⟨0, 48, .ro⟩]⟩,
   ⟨0x160, 8, 1, 0x0, 0x0, false, [⟨0, 16, .ro⟩]⟩,
   ⟨0x170, 8, 1, 0x0, 0xffff, false, [⟨47, 1, .wo⟩, ⟨44, 3, .wo⟩, ⟨0, 16, .wo⟩]⟩,
   ⟨0x178, 8, 1, 0x0, 0x0, false, [⟨2, 1, .ro⟩, ⟨1, 1, .ro⟩, ⟨0, 1, .ro⟩]⟩,
   ⟨0x180, 8, 1, 0x0, 0x0, false, [⟨0, 48, .rw⟩]⟩]

/-- Registers of OEN (05_optical_engines.md). -/
def rowsOEN : List RegRow :=
  [⟨0x100, 8, 1, 0x2, 0x0, false, [⟨1, 1, .rw⟩, ⟨0, 1, .rw⟩]⟩,
   ⟨0x108, 8, 1, 0x0, 0x0, false, [⟨16, 16, .ro⟩, ⟨5, 6, .ro⟩, ⟨4, 1, .ro⟩, ⟨0, 4, .ro⟩]⟩,
   ⟨0x110, 8, 1, 0x0, 0x0, false, [⟨0, 48, .ro⟩]⟩,
   ⟨0x118, 8, 1, 0x0, 0x0, false, [⟨0, 48, .ro⟩]⟩,
   ⟨0x120, 8, 1, 0x0, 0x1, false, [⟨0, 1, .wo⟩]⟩,
   ⟨0x128, 8, 1, 0x0, 0x0, false, [⟨16, 32, .ro⟩, ⟨3, 1, .ro⟩, ⟨2, 1, .ro⟩, ⟨1, 1, .ro⟩, ⟨0, 1, .ro⟩]⟩,
   ⟨0x130, 8, 1, 0x0, 0x0, false, [⟨4, 2, .rw⟩, ⟨1, 3, .rw⟩, ⟨0, 1, .rw⟩]⟩,
   ⟨0x138, 8, 1, 0x0, 0x0, false, [⟨2, 1, .ro⟩, ⟨1, 1, .ro⟩, ⟨0, 1, .ro⟩]⟩,
   ⟨0x140, 8, 1, 0x0, 0x0, true, [⟨0, 48, .ro⟩]⟩,
   ⟨0x180, 8, 8, 0x1, 0x0, false, [⟨0, 2, .rw⟩]⟩,
   ⟨0x1c0, 8, 8, 0x0, 0x0, false, [⟨8, 2, .ro⟩, ⟨4, 4, .ro⟩, ⟨0, 4, .ro⟩]⟩,
   ⟨0x200, 8, 1, 0x0, 0xff, false, [⟨0, 8, .wo⟩]⟩]

/-- Registers of LN (06_electrical_lanes.md). -/
def rowsLN : List RegRow :=
  [⟨0x100, 8, 1, 0x6004, 0x0, false, [⟨15, 1, .rw⟩, ⟨14, 1, .rw⟩, ⟨13, 1, .rw⟩, ⟨12, 1, .rw⟩, ⟨11, 1, .rw⟩, ⟨9, 2, .rw⟩, ⟨8, 1, .rw⟩, ⟨0, 3, .rw⟩]⟩,
   ⟨0x108, 8, 1, 0x0, 0x0, false, [⟨24, 16, .ro⟩, ⟨16, 8, .ro⟩, ⟨11, 1, .ro⟩, ⟨10, 1, .ro⟩, ⟨9, 1, .ro⟩, ⟨8, 1, .ro⟩, ⟨0, 4, .ro⟩]⟩,
   ⟨0x110, 8, 1, 0x0, 0x0, true, [⟨0, 48, .ro⟩]⟩,
   ⟨0x118, 8, 1, 0x0, 0x0, true, [⟨0, 48, .ro⟩]⟩,
   ⟨0x120, 8, 1, 0x0, 0x0, true, [⟨0, 48, .ro⟩]⟩,
   ⟨0x128, 8, 1, 0x14, 0x0, false, [⟨4, 4, .rw⟩, ⟨0, 4, .rw⟩]⟩,
   ⟨0x130, 8, 1, 0x0, 0x0, true, [⟨0, 48, .ro⟩]⟩,
   ⟨0x140, 8, 1, 0x0, 0x0, false, [⟨15, 1, .rw⟩, ⟨12, 3, .rw⟩, ⟨11, 1, .rw⟩, ⟨8, 3, .rw⟩, ⟨0, 8, .rw⟩]⟩,
   ⟨0x148, 8, 1, 0x0, 0x0, false, [⟨1, 1, .ro⟩, ⟨0, 1, .ro⟩]⟩,
   ⟨0x150, 8, 1, 0x0, 0x0, true, [⟨0, 48, .ro⟩]⟩,
   ⟨0x158, 8, 1, 0x0, 0x0, true, [⟨0, 48, .ro⟩]⟩,
   ⟨0x160, 8, 1, 0x0, 0x0, false, [⟨16, 8, .rw⟩, ⟨10, 6, .rw⟩, ⟨9, 1, .rw⟩, ⟨0, 2, .rw⟩]⟩,
   ⟨0x168, 8, 1, 0x0, 0x1, false, [⟨0, 1, .wo⟩]⟩,
   ⟨0x170, 8, 1, 0x0, 0x0, true, [⟨0, 48, .ro⟩]⟩,
   ⟨0x178, 8, 4, 0x0, 0x0, false, [⟨0, 48, .rw⟩]⟩]

/-- Registers of ELN (06_electrical_lanes.md). -/
def rowsELN : List RegRow :=
  [⟨0x200, 8, 1, 0x400000000000, 0x0, false, [⟨40, 8, .ro⟩, ⟨32, 8, .rwh⟩, ⟨24, 8, .rwh⟩, ⟨16, 8, .rwh⟩, ⟨8, 8, .rwh⟩]⟩,
   ⟨0x208, 8, 1, 0x1f, 0x0, false, [⟨4, 4, .rw⟩, ⟨0, 4, .rw⟩]⟩,
   ⟨0x210, 8, 1, 0x0, 0x0, false, [⟨5, 1, .rw⟩, ⟨4, 1, .rw⟩, ⟨0, 4, .rw⟩]⟩,
   ⟨0x218, 8, 1, 0x0, 0x0, false, [⟨32, 16, .ro⟩, ⟨24, 8, .ro⟩, ⟨16, 8, .ro⟩, ⟨12, 1, .ro⟩, ⟨8, 4, .ro⟩, ⟨0, 4, .ro⟩]⟩]

/-- Registers of OLN (05_optical_engines.md). -/
def rowsOLN : List RegRow :=
  [⟨0x200, 8, 1, 0x0, 0x0, false, [⟨16, 1, .rw⟩, ⟨0, 16, .rw⟩]⟩,
   ⟨0x208, 8, 1, 0x0, 0x0, false, [⟨32, 16, .ro⟩, ⟨16, 16, .ro⟩, ⟨0, 3, .ro⟩]⟩,
   ⟨0x210, 8, 1, 0x0, 0x0, false, [⟨16, 16, .ro⟩, ⟨0, 16, .ro⟩]⟩,
   ⟨0x218, 8, 1, 0x0, 0x0, true, [⟨0, 48, .ro⟩]⟩,
   ⟨0x220, 8, 1, 0x23, 0x0, false, [⟨0, 8, .rw⟩]⟩]

/-- Registers of LSQ (07_lane_sequencers.md). -/
def rowsLSQ : List RegRow :=
  [⟨0x100, 8, 1, 0xb01000000, 0x0, false, [⟨24, 16, .ro⟩, ⟨23, 1, .ro⟩, ⟨22, 1, .ro⟩, ⟨0, 18, .ro⟩]⟩,
   ⟨0x108, 8, 1, 0x0, 0x0, false, [⟨16, 9, .ro⟩, ⟨0, 9, .ro⟩]⟩,
   ⟨0x110, 8, 9, 0x0, 0x0, false, [⟨44, 4, .ro⟩, ⟨40, 4, .ro⟩, ⟨39, 1, .ro⟩, ⟨24, 14, .ro⟩, ⟨16, 8, .rc⟩, ⟨8, 8, .ro⟩]⟩,
   ⟨0x158, 8, 1, 0x0, 0x0, true, [⟨0, 48, .ro⟩]⟩,
   ⟨0x160, 8, 1, 0x0, 0x0, true, [⟨0, 48, .ro⟩]⟩,
   ⟨0x168, 8, 1, 0x0, 0x0, true, [⟨0, 48, .ro⟩]⟩,
   ⟨0x170, 8, 1, 0x0, 0x0, true, [⟨0, 48, .ro⟩]⟩,
   ⟨0x180, 8, 1, 0x0, 0xfffffffff, false, [⟨40, 8, .wo⟩, ⟨36, 4, .wo⟩]⟩,
   ⟨0x188, 8, 1, 0x0, 0x0, false, [⟨24, 24, .rw⟩, ⟨0, 24, .rw⟩]⟩,
   ⟨0x190, 8, 1, 0x0, 0x0, false, [⟨2, 3, .ro⟩, ⟨1, 1, .ro⟩, ⟨0, 1, .ro⟩]⟩,
   ⟨0x198, 8, 4, 0x0, 0x0, false, [⟨0, 48, .ro⟩]⟩,
   ⟨0x300, 8, 1, 0x0, 0x0, false, [⟨1, 2, .rw⟩, ⟨0, 1, .w1s⟩]⟩,
   ⟨0x308, 8, 1, 0x0, 0x0, false, [⟨32, 8, .ro⟩, ⟨12, 4, .ro⟩, ⟨10, 2, .ro⟩, ⟨9, 1, .ro⟩, ⟨8, 1, .ro⟩, ⟨4, 4, .ro⟩, ⟨0, 1, .ro⟩]⟩,
   ⟨0x310, 8, 1, 0x0, 0x0, false, [⟨0, 32, .ro⟩]⟩,
   ⟨0x318, 8, 1, 0x0, 0x0, true, [⟨0, 48, .ro⟩]⟩,
   ⟨0x320, 8, 1, 0x0, 0x0, true, [⟨0, 48, .ro⟩]⟩]

/-- Registers of PEN (08_port_engines.md). -/
def rowsPEN0 : List RegRow :=
  [⟨0x100, 8, 1, 0x4, 0x0, false, [⟨2, 2, .rw⟩, ⟨0, 2, .rw⟩]⟩,
   ⟨0x110, 8, 4, 0x120000000, 0x0, false, [⟨19, 14, .rw⟩, ⟨11, 8, .rw⟩, ⟨3, 8, .rw⟩, ⟨1, 2, .rw⟩, ⟨0, 1, .rw⟩]⟩,
   ⟨0x130, 8, 4, 0x0, 0x0, false, [⟨34, 8, .ro⟩, ⟨26, 8, .ro⟩, ⟨25, 1, .ro⟩, ⟨24, 1, .ro⟩, ⟨8, 16, .ro⟩, ⟨4, 4, .ro⟩, ⟨0, 3, .ro⟩]⟩,
   ⟨0x150, 8, 4, 0xff6b646d2240, 0x0, false, [⟨0, 48, .rw⟩]⟩,
   ⟨0x170, 8, 1, 0x0, 0x0, false, [⟨0, 48, .rw⟩]⟩,
   ⟨0x178, 8, 1, 0x7fffffff, 0x0, false, [⟨32, 16, .rw⟩, ⟨16, 16, .rw⟩, ⟨0, 16, .rw⟩]⟩,
   ⟨0x180, 8, 4, 0x0, 0x0, false, [⟨32, 16, .ro⟩, ⟨26, 1, .ro⟩, ⟨24, 2, .ro⟩, ⟨16, 8, .ro⟩, ⟨8, 4, .ro⟩, ⟨0, 4, .ro⟩]⟩,
   ⟨0x1a0, 8, 4, 0x0, 0x0, false, [⟨0, 48, .ro⟩]⟩,
   ⟨0x1c0, 8, 1, 0x0, 0x0, false, [⟨47, 1, .rc⟩, ⟨38, 9, .rc⟩, ⟨36, 2, .rc⟩, ⟨26, 10, .rc⟩, ⟨16, 10, .rc⟩, ⟨0, 16, .rc⟩]⟩,
   ⟨0x1c8, 8, 1, 0x0, 0x0, false, [⟨0, 48, .ro⟩]⟩,
   ⟨0x1d0, 8, 1, 0x0, 0x0, false, [⟨16, 30, .ro⟩, ⟨0, 16, .ro⟩]⟩,
   ⟨0x700, 16, 4, 0x0, 0x0, false, [⟨0, 48, .w1c⟩]⟩,
   ⟨0x708, 16, 4, 0x0, 0x0, false, [⟨0, 16, .w1c⟩]⟩,
   ⟨0x200, 8, 1, 0x0, 0x0, true, [⟨0, 48, .ro⟩]⟩,
   ⟨0x208, 8, 4, 0x0, 0x0, true, [⟨0, 48, .ro⟩]⟩,
   ⟨0x228, 8, 1, 0x0, 0x0, true, [⟨0, 48, .ro⟩]⟩,
   ⟨0x230, 8, 1, 0x0, 0x0, true, [⟨0, 48, .ro⟩]⟩,
   ⟨0x238, 8, 1, 0x0, 0x0, true, [⟨0, 48, .ro⟩]⟩,
   ⟨0x240, 8, 1, 0x0, 0x0, true, [⟨0, 48, .ro⟩]⟩,
   ⟨0x800, 512, 4, 0x0, 0x0, true, [⟨0, 48, .ro⟩]⟩]

/-- Registers of PEN (08_port_engines.md). -/
def rowsPEN1 : List RegRow :=
  [⟨0x900, 512, 4, 0x0, 0x0, true, [⟨0, 48, .ro⟩]⟩,
   ⟨0x808, 512, 4, 0x0, 0x0, true, [⟨0, 48, .ro⟩]⟩,
   ⟨0x908, 512, 4, 0x0, 0x0, true, [⟨0, 48, .ro⟩]⟩,
   ⟨0x810, 512, 4, 0x0, 0x0, true, [⟨0, 48, .ro⟩]⟩,
   ⟨0x910, 512, 4, 0x0, 0x0, true, [⟨0, 48, .ro⟩]⟩,
   ⟨0x818, 512, 4, 0x0, 0x0, true, [⟨0, 48, .ro⟩]⟩,
   ⟨0x918, 512, 4, 0x0, 0x0, true, [⟨0, 48, .ro⟩]⟩,
   ⟨0x820, 512, 4, 0x0, 0x0, true, [⟨0, 48, .ro⟩]⟩,
   ⟨0x920, 512, 4, 0x0, 0x0, true, [⟨0, 48, .ro⟩]⟩,
   ⟨0x828, 512, 4, 0x0, 0x0, true, [⟨0, 48, .ro⟩]⟩,
   ⟨0x928, 512, 4, 0x0, 0x0, true, [⟨0, 48, .ro⟩]⟩,
   ⟨0x830, 512, 4, 0x0, 0x0, true, [⟨0, 48, .ro⟩]⟩,
   ⟨0x930, 512, 4, 0x0, 0x0, true, [⟨0, 48, .ro⟩]⟩,
   ⟨0x838, 512, 4, 0x0, 0x0, true, [⟨0, 48, .ro⟩]⟩,
   ⟨0x938, 512, 4, 0x0, 0x0, true, [⟨0, 48, .ro⟩]⟩,
   ⟨0x840, 512, 4, 0x0, 0x0, true, [⟨0, 48, .ro⟩]⟩,
   ⟨0x940, 512, 4, 0x0, 0x0, true, [⟨0, 48, .ro⟩]⟩,
   ⟨0x848, 512, 4, 0x0, 0x0, true, [⟨0, 48, .ro⟩]⟩,
   ⟨0x948, 512, 4, 0x0, 0x0, true, [⟨0, 48, .ro⟩]⟩,
   ⟨0x850, 512, 4, 0x0, 0x0, true, [⟨0, 48, .ro⟩]⟩]

/-- Registers of PEN (08_port_engines.md). -/
def rowsPEN2 : List RegRow :=
  [⟨0x950, 512, 4, 0x0, 0x0, true, [⟨0, 48, .ro⟩]⟩,
   ⟨0x858, 512, 4, 0x0, 0x0, true, [⟨0, 48, .ro⟩]⟩,
   ⟨0x958, 512, 4, 0x0, 0x0, true, [⟨0, 48, .ro⟩]⟩,
   ⟨0x860, 512, 4, 0x0, 0x0, true, [⟨0, 48, .ro⟩]⟩,
   ⟨0x960, 512, 4, 0x0, 0x0, true, [⟨0, 48, .ro⟩]⟩,
   ⟨0x868, 512, 4, 0x0, 0x0, true, [⟨0, 48, .ro⟩]⟩,
   ⟨0x968, 512, 4, 0x0, 0x0, true, [⟨0, 48, .ro⟩]⟩,
   ⟨0x870, 512, 4, 0x0, 0x0, true, [⟨0, 48, .ro⟩]⟩,
   ⟨0x878, 512, 4, 0x0, 0x0, true, [⟨0, 48, .ro⟩]⟩,
   ⟨0x980, 512, 4, 0x0, 0x0, true, [⟨0, 48, .ro⟩]⟩,
   ⟨0x988, 512, 4, 0x0, 0x0, true, [⟨0, 48, .ro⟩]⟩,
   ⟨0x990, 512, 4, 0x0, 0x0, true, [⟨0, 48, .ro⟩]⟩,
   ⟨0x998, 512, 4, 0x0, 0x0, true, [⟨0, 48, .ro⟩]⟩,
   ⟨0x9a0, 512, 4, 0x0, 0x0, true, [⟨0, 48, .ro⟩]⟩,
   ⟨0x9a8, 512, 4, 0x0, 0x0, true, [⟨0, 48, .ro⟩]⟩,
   ⟨0x9b0, 512, 4, 0x0, 0x0, true, [⟨0, 48, .ro⟩]⟩,
   ⟨0x9b8, 512, 4, 0x0, 0x0, true, [⟨0, 48, .ro⟩]⟩,
   ⟨0x880, 512, 4, 0x0, 0x0, true, [⟨0, 48, .ro⟩]⟩,
   ⟨0x888, 512, 4, 0x0, 0x0, true, [⟨0, 48, .ro⟩]⟩,
   ⟨0x890, 512, 4, 0x0, 0x0, true, [⟨0, 48, .ro⟩]⟩]

/-- Registers of PEN (08_port_engines.md). -/
def rowsPEN3 : List RegRow :=
  [⟨0x898, 512, 4, 0x0, 0x0, true, [⟨0, 48, .ro⟩]⟩,
   ⟨0x8a0, 512, 4, 0x0, 0x0, true, [⟨0, 48, .ro⟩]⟩,
   ⟨0x8a8, 512, 4, 0x0, 0x0, true, [⟨0, 48, .ro⟩]⟩,
   ⟨0x8b0, 512, 4, 0x0, 0x0, true, [⟨0, 48, .ro⟩]⟩,
   ⟨0x8b8, 512, 4, 0x0, 0x0, true, [⟨0, 48, .ro⟩]⟩,
   ⟨0x9c0, 512, 4, 0x0, 0x0, true, [⟨0, 48, .ro⟩]⟩,
   ⟨0x9c8, 512, 4, 0x0, 0x0, true, [⟨0, 48, .ro⟩]⟩,
   ⟨0x9d0, 512, 4, 0x0, 0x0, true, [⟨0, 48, .ro⟩]⟩,
   ⟨0x9d8, 512, 4, 0x0, 0x0, true, [⟨0, 48, .ro⟩]⟩,
   ⟨0x9e0, 512, 4, 0x0, 0x0, true, [⟨0, 48, .ro⟩]⟩,
   ⟨0x9e8, 512, 4, 0x0, 0x0, true, [⟨0, 48, .ro⟩]⟩,
   ⟨0x9f0, 512, 4, 0x0, 0x0, true, [⟨0, 48, .ro⟩]⟩,
   ⟨0x9f8, 512, 4, 0x0, 0x0, true, [⟨0, 48, .ro⟩]⟩,
   ⟨0x8c0, 512, 4, 0x0, 0x0, true, [⟨0, 48, .ro⟩]⟩,
   ⟨0x8c8, 512, 4, 0x0, 0x0, true, [⟨0, 48, .ro⟩]⟩,
   ⟨0x8d0, 512, 4, 0x0, 0x0, true, [⟨0, 48, .ro⟩]⟩,
   ⟨0x8d8, 512, 4, 0x0, 0x0, true, [⟨0, 48, .ro⟩]⟩,
   ⟨0x8e0, 512, 4, 0x0, 0x0, true, [⟨0, 48, .ro⟩]⟩,
   ⟨0x8e8, 512, 4, 0x0, 0x0, true, [⟨0, 48, .ro⟩]⟩,
   ⟨0x8f0, 512, 4, 0x0, 0x0, true, [⟨0, 48, .ro⟩]⟩]

/-- Registers of PEN (08_port_engines.md). -/
def rowsPEN4 : List RegRow :=
  [⟨0x8f8, 512, 4, 0x0, 0x0, true, [⟨0, 48, .ro⟩]⟩]

/-- All registers of PEN. -/
def rowsPEN : List RegRow := rowsPEN0 ++ rowsPEN1 ++ rowsPEN2 ++ rowsPEN3 ++ rowsPEN4

/-- Registers of MSC (09_macsec.md). -/
def rowsMSC : List RegRow :=
  [⟨0x100, 8, 1, 0x41000, 0x0, false, [⟨16, 3, .ro⟩, ⟨0, 15, .ro⟩]⟩,
   ⟨0x108, 8, 1, 0x0, 0x1f, false, [⟨0, 5, .wo⟩]⟩,
   ⟨0x110, 8, 4, 0x0, 0x0, false, [⟨16, 1, .rw⟩, ⟨0, 16, .rw⟩]⟩,
   ⟨0x200, 8, 32, 0x40000, 0x0, false, [⟨34, 14, .rw⟩, ⟨20, 14, .rw⟩, ⟨19, 1, .rw⟩, ⟨17, 2, .rw⟩, ⟨1, 1, .rw⟩, ⟨0, 1, .rw⟩]⟩,
   ⟨0x400, 8, 1, 0x0, 0x0, true, [⟨0, 48, .ro⟩]⟩,
   ⟨0x408, 8, 1, 0x0, 0x0, true, [⟨0, 48, .ro⟩]⟩,
   ⟨0x410, 8, 1, 0x0, 0x0, true, [⟨0, 48, .ro⟩]⟩,
   ⟨0x418, 8, 1, 0x0, 0x0, true, [⟨0, 48, .ro⟩]⟩,
   ⟨0x420, 8, 1, 0x0, 0x0, true, [⟨0, 48, .ro⟩]⟩,
   ⟨0x428, 8, 1, 0x0, 0x0, true, [⟨0, 48, .ro⟩]⟩,
   ⟨0x430, 8, 1, 0x0, 0x0, true, [⟨0, 48, .ro⟩]⟩,
   ⟨0x438, 8, 1, 0x0, 0x0, true, [⟨0, 48, .ro⟩]⟩,
   ⟨0x800, 32, 32, 0x0, 0x0, true, [⟨0, 48, .ro⟩]⟩,
   ⟨0x808, 32, 32, 0x0, 0x0, true, [⟨0, 48, .ro⟩]⟩,
   ⟨0x810, 32, 32, 0x0, 0x0, true, [⟨0, 48, .ro⟩]⟩,
   ⟨0x818, 32, 32, 0x0, 0x0, true, [⟨0, 48, .ro⟩]⟩]

/-- Registers of MSG (09_macsec.md). -/
def rowsMSG : List RegRow :=
  [⟨0x100, 8, 1, 0x0, 0x1, false, [⟨15, 1, .ro⟩, ⟨14, 1, .ro⟩, ⟨12, 2, .ro⟩, ⟨2, 1, .wo⟩, ⟨1, 1, .wo⟩, ⟨0, 1, .wo⟩]⟩,
   ⟨0x108, 8, 1, 0x0, 0x3fff, false, [⟨46, 2, .wo⟩, ⟨0, 14, .wo⟩]⟩,
   ⟨0x110, 8, 1, 0x0, 0xffff, false, [⟨45, 3, .wo⟩, ⟨44, 1, .wo⟩, ⟨43, 1, .wo⟩, ⟨0, 16, .wo⟩]⟩,
   ⟨0x118, 8, 1, 0x0, 0x0, false, [⟨4, 4, .ro⟩, ⟨1, 1, .ro⟩, ⟨0, 1, .ro⟩]⟩,
   ⟨0x120, 8, 1, 0x0, 0x0, false, [⟨0, 48, .rw⟩]⟩,
   ⟨0x128, 8, 1, 0x0, 0x0, false, [⟨32, 16, .rw⟩, ⟨22, 10, .rw⟩, ⟨10, 12, .rw⟩, ⟨9, 1, .rw⟩, ⟨7, 2, .rw⟩, ⟨6, 1, .rw⟩, ⟨5, 1, .rw⟩, ⟨4, 1, .rw⟩, ⟨3, 1, .rw⟩, ⟨1, 2, .rw⟩, ⟨0, 1, .ro⟩]⟩,
   ⟨0x130, 8, 1, 0x0, 0x0, false, [⟨16, 32, .rw⟩, ⟨14, 2, .rw⟩, ⟨12, 2, .rw⟩, ⟨11, 1, .rw⟩]⟩,
   ⟨0x138, 8, 1, 0x0, 0x0, false, [⟨0, 48, .rw⟩]⟩,
   ⟨0x140, 8, 1, 0x0, 0x0, false, [⟨0, 48, .rw⟩]⟩,
   ⟨0x148, 8, 1, 0x0, 0x0, false, [⟨0, 48, .rw⟩]⟩,
   ⟨0x150, 8, 1, 0x0, 0x0, false, [⟨16, 1, .ro⟩, ⟨0, 16, .rw⟩]⟩,
   ⟨0x158, 8, 1, 0x0, 0x0, false, [⟨0, 48, .ro⟩]⟩,
   ⟨0x160, 8, 1, 0x0, 0x0, false, [⟨0, 16, .ro⟩]⟩,
   ⟨0x180, 8, 6, 0x0, 0x0, false, [⟨0, 48, .wo⟩]⟩,
   ⟨0x1b0, 8, 2, 0x0, 0x0, false, [⟨0, 48, .wo⟩]⟩,
   ⟨0x1c0, 8, 1, 0x0, 0x0, false, [⟨0, 32, .wo⟩]⟩,
   ⟨0x1d0, 8, 1, 0x0, 0x0, false, [⟨47, 1, .rc⟩, ⟨45, 2, .rc⟩, ⟨16, 29, .rc⟩, ⟨0, 16, .rc⟩]⟩,
   ⟨0x1d8, 8, 1, 0x0, 0x0, true, [⟨0, 48, .ro⟩]⟩]

/-- Registers of TRV (11_traverses.md). -/
def rowsTRV : List RegRow :=
  [⟨0x100, 8, 1, 0x3, 0x0, false, [⟨8, 5, .rw⟩, ⟨1, 1, .rw⟩, ⟨0, 1, .rw⟩]⟩,
   ⟨0x108, 8, 1, 0x0, 0x0, false, [⟨16, 5, .ro⟩, ⟨8, 5, .ro⟩, ⟨0, 3, .ro⟩]⟩,
   ⟨0x110, 8, 1, 0x0, 0x1f, false, [⟨7, 1, .wo⟩, ⟨6, 1, .wo⟩, ⟨0, 5, .wo⟩]⟩,
   ⟨0x118, 8, 1, 0x64, 0x0, false, [⟨0, 7, .rw⟩]⟩,
   ⟨0x120, 8, 1, 0x0, 0x0, false, [⟨16, 16, .ro⟩, ⟨0, 2, .ro⟩]⟩,
   ⟨0x128, 8, 4, 0x0, 0x0, false, [⟨0, 48, .rw⟩]⟩,
   ⟨0x200, 8, 1, 0x0, 0x0, true, [⟨0, 48, .ro⟩]⟩,
   ⟨0x208, 8, 1, 0x0, 0x0, true, [⟨0, 48, .ro⟩]⟩,
   ⟨0x210, 8, 1, 0x0, 0x0, true, [⟨0, 48, .ro⟩]⟩,
   ⟨0x218, 8, 1, 0x0, 0x0, true, [⟨0, 48, .ro⟩]⟩,
   ⟨0x220, 8, 1, 0x0, 0x0, true, [⟨0, 48, .ro⟩]⟩,
   ⟨0x228, 8, 1, 0x0, 0x0, true, [⟨0, 48, .ro⟩]⟩,
   ⟨0x230, 8, 1, 0x0, 0x0, true, [⟨0, 48, .ro⟩]⟩]

/-- Registers of PRS (10_parser.md). -/
def rowsPRS0 : List RegRow :=
  [⟨0x100, 8, 1, 0x300000000, 0x0, false, [⟨33, 1, .rw⟩, ⟨32, 1, .rw⟩, ⟨0, 32, .rw⟩]⟩,
   ⟨0x108, 8, 1, 0x0, 0x0, false, [⟨32, 16, .ro⟩, ⟨16, 16, .ro⟩, ⟨4, 1, .ro⟩, ⟨3, 1, .ro⟩, ⟨2, 1, .ro⟩, ⟨1, 1, .ro⟩, ⟨0, 1, .ro⟩]⟩,
   ⟨0x110, 8, 1, 0x0, 0x5, false, [⟨2, 1, .wo⟩, ⟨1, 1, .w1s⟩, ⟨0, 1, .wo⟩]⟩,
   ⟨0x118, 8, 1, 0x0, 0x0, false, [⟨0, 48, .rw⟩]⟩,
   ⟨0x120, 8, 1, 0x0, 0x0, false, [⟨0, 30, .rw⟩]⟩,
   ⟨0x128, 8, 1, 0x0, 0x0, false, [⟨0, 32, .ro⟩]⟩,
   ⟨0x140, 8, 1, 0x0, 0xffff, false, [⟨44, 4, .wo⟩, ⟨41, 3, .wo⟩, ⟨40, 1, .wo⟩, ⟨39, 1, .wo⟩, ⟨0, 16, .wo⟩]⟩,
   ⟨0x148, 8, 1, 0x0, 0x0, false, [⟨7, 1, .ro⟩, ⟨6, 1, .ro⟩, ⟨2, 4, .ro⟩, ⟨1, 1, .ro⟩, ⟨0, 1, .ro⟩]⟩,
   ⟨0x150, 8, 6, 0x0, 0x0, false, [⟨0, 48, .rw⟩]⟩,
   ⟨0x200, 8, 1, 0x0, 0x0, true, [⟨0, 48, .ro⟩]⟩,
   ⟨0x208, 8, 1, 0x0, 0x0, true, [⟨0, 48, .ro⟩]⟩,
   ⟨0x210, 8, 1, 0x0, 0x0, true, [⟨0, 48, .ro⟩]⟩,
   ⟨0x218, 8, 1, 0x0, 0x0, true, [⟨0, 48, .ro⟩]⟩,
   ⟨0x220, 8, 1, 0x0, 0x0, true, [⟨0, 48, .ro⟩]⟩,
   ⟨0x228, 8, 1, 0x0, 0x0, true, [⟨0, 48, .ro⟩]⟩,
   ⟨0x230, 8, 1, 0x0, 0x0, true, [⟨0, 48, .ro⟩]⟩,
   ⟨0x238, 8, 1, 0x0, 0x0, true, [⟨0, 48, .ro⟩]⟩,
   ⟨0x240, 8, 1, 0x0, 0x0, true, [⟨0, 48, .ro⟩]⟩,
   ⟨0x248, 8, 1, 0x0, 0x0, true, [⟨0, 48, .ro⟩]⟩,
   ⟨0x250, 8, 1, 0x0, 0x0, true, [⟨0, 48, .ro⟩]⟩]

/-- Registers of PRS (10_parser.md). -/
def rowsPRS1 : List RegRow :=
  [⟨0x258, 8, 1, 0x0, 0x0, true, [⟨0, 48, .ro⟩]⟩,
   ⟨0x260, 8, 1, 0x0, 0x0, true, [⟨0, 48, .ro⟩]⟩]

/-- All registers of PRS. -/
def rowsPRS : List RegRow := rowsPRS0 ++ rowsPRS1

/-- Registers of STN (11_traverses.md). -/
def rowsSTN : List RegRow :=
  [⟨0x100, 8, 1, 0x0, 0x0, false, [⟨0, 8, .rw⟩]⟩,
   ⟨0x108, 8, 8, 0x0, 0x0, false, [⟨38, 10, .rw⟩, ⟨34, 4, .rw⟩, ⟨29, 5, .rw⟩, ⟨28, 1, .rw⟩, ⟨27, 1, .rw⟩, ⟨19, 8, .rw⟩, ⟨13, 6, .rw⟩, ⟨4, 9, .rw⟩, ⟨3, 1, .rw⟩]⟩,
   ⟨0x148, 8, 8, 0x0, 0x0, false, [⟨46, 2, .rw⟩, ⟨38, 8, .rw⟩, ⟨30, 8, .rw⟩, ⟨29, 1, .rw⟩, ⟨28, 1, .rw⟩, ⟨20, 8, .rw⟩, ⟨14, 6, .rw⟩]⟩,
   ⟨0x200, 8, 64, 0x0, 0x0, false, [⟨47, 1, .rw⟩, ⟨36, 8, .rw⟩, ⟨30, 6, .rw⟩, ⟨24, 6, .rw⟩]⟩,
   ⟨0x400, 8, 1, 0x0, 0x1fffff, false, [⟨45, 3, .wo⟩, ⟨43, 2, .wo⟩, ⟨42, 1, .wo⟩, ⟨39, 3, .wo⟩, ⟨0, 21, .wo⟩]⟩,
   ⟨0x408, 8, 1, 0x0, 0x0, false, [⟨7, 1, .ro⟩, ⟨6, 1, .ro⟩, ⟨2, 4, .ro⟩, ⟨1, 1, .ro⟩, ⟨0, 1, .ro⟩]⟩,
   ⟨0x410, 8, 4, 0x0, 0x0, false, [⟨0, 48, .rw⟩]⟩,
   ⟨0x500, 8, 1, 0x0, 0x0, true, [⟨0, 48, .ro⟩]⟩,
   ⟨0x508, 8, 1, 0x0, 0x0, true, [⟨0, 48, .ro⟩]⟩,
   ⟨0x510, 8, 1, 0x0, 0x0, true, [⟨0, 48, .ro⟩]⟩,
   ⟨0x518, 8, 1, 0x0, 0x0, true, [⟨0, 48, .ro⟩]⟩,
   ⟨0x520, 8, 1, 0x0, 0x0, true, [⟨0, 48, .ro⟩]⟩,
   ⟨0x528, 8, 1, 0x0, 0x0, true, [⟨0, 48, .ro⟩]⟩,
   ⟨0x530, 8, 1, 0x0, 0x0, true, [⟨0, 48, .ro⟩]⟩]

/-- Registers of DPR (11_traverses.md). -/
def rowsDPR : List RegRow :=
  [⟨0x100, 8, 1, 0x3f, 0x0, false, [⟨0, 6, .rw⟩]⟩,
   ⟨0x108, 8, 1, 0x0, 0x1ff, false, [⟨46, 2, .wo⟩, ⟨45, 1, .wo⟩, ⟨44, 1, .wo⟩, ⟨0, 9, .wo⟩]⟩,
   ⟨0x110, 8, 1, 0x0, 0x0, false, [⟨7, 1, .ro⟩, ⟨6, 1, .ro⟩, ⟨2, 4, .ro⟩, ⟨1, 1, .ro⟩, ⟨0, 1, .ro⟩]⟩,
   ⟨0x118, 8, 2, 0x0, 0x0, false, [⟨0, 48, .rw⟩]⟩,
   ⟨0x200, 8, 1, 0x0, 0x0, true, [⟨0, 48, .ro⟩]⟩,
   ⟨0x208, 8, 1, 0x0, 0x0, true, [⟨0, 48, .ro⟩]⟩,
   ⟨0x210, 8, 1, 0x0, 0x0, true, [⟨0, 48, .ro⟩]⟩,
   ⟨0x218, 8, 1, 0x0, 0x0, true, [⟨0, 48, .ro⟩]⟩,
   ⟨0x220, 8, 1, 0x0, 0x0, true, [⟨0, 48, .ro⟩]⟩]

/-- Registers of TBC (12_tables_and_learning.md). -/
def rowsTBC : List RegRow :=
  [⟨0x100, 8, 1, 0x0, 0x1fffffff, false, [⟨40, 8, .wo⟩, ⟨30, 10, .wo⟩, ⟨29, 1, .wo⟩, ⟨0, 29, .wo⟩]⟩,
   ⟨0x108, 8, 1, 0x0, 0x0, false, [⟨8, 1, .ro⟩, ⟨5, 3, .ro⟩, ⟨1, 1, .ro⟩, ⟨0, 1, .ro⟩]⟩,
   ⟨0x110, 8, 1, 0x0, 0x0, false, [⟨0, 29, .ro⟩]⟩,
   ⟨0x118, 8, 1, 0x280, 0x0, false, [⟨0, 10, .ro⟩]⟩,
   ⟨0x180, 8, 16, 0x0, 0x0, false, [⟨0, 48, .rw⟩]⟩,
   ⟨0x200, 8, 1, 0x0, 0x0, true, [⟨0, 48, .ro⟩]⟩,
   ⟨0x208, 8, 1, 0x0, 0x0, true, [⟨0, 48, .ro⟩]⟩,
   ⟨0x210, 8, 1, 0x0, 0x0, true, [⟨0, 48, .ro⟩]⟩,
   ⟨0x218, 8, 1, 0x0, 0x0, true, [⟨0, 48, .ro⟩]⟩,
   ⟨0x220, 8, 1, 0x0, 0x0, true, [⟨0, 48, .ro⟩]⟩,
   ⟨0x228, 8, 1, 0x0, 0x0, true, [⟨0, 48, .ro⟩]⟩,
   ⟨0x230, 8, 1, 0x0, 0x0, true, [⟨0, 48, .ro⟩]⟩,
   ⟨0x238, 8, 1, 0x0, 0x0, true, [⟨0, 48, .ro⟩]⟩,
   ⟨0x240, 8, 1, 0x0, 0x0, true, [⟨0, 48, .ro⟩]⟩,
   ⟨0x248, 8, 1, 0x0, 0x0, true, [⟨0, 48, .ro⟩]⟩]

/-- Registers of LRN (12_tables_and_learning.md). -/
def rowsLRN : List RegRow :=
  [⟨0x100, 8, 1, 0x0, 0x0, false, [⟨16, 14, .ro⟩, ⟨0, 13, .ro⟩]⟩,
   ⟨0x108, 8, 1, 0x0, 0xfff, false, [⟨47, 1, .wo⟩, ⟨46, 1, .wo⟩, ⟨0, 12, .wo⟩]⟩,
   ⟨0x110, 8, 1, 0x0, 0x0, false, [⟨14, 1, .rw⟩, ⟨0, 14, .rw⟩]⟩,
   ⟨0x140, 8, 1, 0x0, 0x0, false, [⟨47, 1, .rc⟩, ⟨44, 3, .rc⟩, ⟨34, 10, .rc⟩, ⟨22, 12, .rc⟩, ⟨20, 2, .rc⟩, ⟨0, 20, .rc⟩]⟩,
   ⟨0x148, 8, 3, 0x0, 0x0, false, [⟨0, 48, .ro⟩]⟩,
   ⟨0x200, 8, 1, 0x0, 0x0, true, [⟨0, 48, .ro⟩]⟩,
   ⟨0x208, 8, 1, 0x0, 0x0, true, [⟨0, 48, .ro⟩]⟩,
   ⟨0x210, 8, 1, 0x0, 0x0, true, [⟨0, 48, .ro⟩]⟩,
   ⟨0x218, 8, 1, 0x0, 0x0, true, [⟨0, 48, .ro⟩]⟩,
   ⟨0x220, 8, 1, 0x0, 0x0, true, [⟨0, 48, .ro⟩]⟩,
   ⟨0x228, 8, 1, 0x0, 0x0, true, [⟨0, 48, .ro⟩]⟩,
   ⟨0x230, 8, 1, 0x0, 0x0, true, [⟨0, 48, .ro⟩]⟩,
   ⟨0x238, 8, 1, 0x0, 0x0, true, [⟨0, 48, .ro⟩]⟩]

/-- Registers of TRC (18_telemetry_and_counters.md). -/
def rowsTRC : List RegRow :=
  [⟨0x100, 8, 1, 0x30, 0x0, false, [⟨36, 1, .rw⟩, ⟨5, 31, .rw⟩, ⟨0, 5, .rw⟩]⟩,
   ⟨0x108, 8, 1, 0x0, 0x0, false, [⟨0, 13, .ro⟩]⟩,
   ⟨0x200, 8, 1, 0x0, 0x0, true, [⟨0, 48, .ro⟩]⟩,
   ⟨0x208, 8, 1, 0x0, 0x0, true, [⟨0, 48, .ro⟩]⟩,
   ⟨0x210, 8, 1, 0x0, 0x0, true, [⟨0, 48, .ro⟩]⟩,
   ⟨0x218, 8, 1, 0x0, 0x0, true, [⟨0, 48, .ro⟩]⟩]

/-- Registers of RES (11_traverses.md). -/
def rowsRES : List RegRow :=
  [⟨0x100, 8, 1, 0x0, 0x0, true, [⟨0, 48, .ro⟩]⟩,
   ⟨0x108, 8, 1, 0x0, 0x0, true, [⟨0, 48, .ro⟩]⟩,
   ⟨0x110, 8, 1, 0x0, 0x0, true, [⟨0, 48, .ro⟩]⟩,
   ⟨0x118, 8, 1, 0x0, 0x0, true, [⟨0, 48, .ro⟩]⟩,
   ⟨0x400, 8, 128, 0x0, 0x0, true, [⟨0, 48, .ro⟩]⟩,
   ⟨0x800, 8, 128, 0x0, 0x0, true, [⟨0, 48, .ro⟩]⟩]

/-- Registers of TMC (15_traffic_manager.md). -/
def rowsTMC : List RegRow :=
  [⟨0x100, 8, 1, 0x800000000000, 0x0, false, [⟨47, 1, .rw⟩]⟩,
   ⟨0x108, 8, 1, 0xfff, 0x0, false, [⟨6, 6, .rw⟩, ⟨0, 6, .rw⟩]⟩,
   ⟨0x110, 8, 1, 0x100000, 0x0, false, [⟨0, 21, .ro⟩]⟩,
   ⟨0x140, 8, 1, 0x0, 0x1ffff, false, [⟨45, 3, .wo⟩, ⟨44, 1, .wo⟩, ⟨0, 17, .wo⟩]⟩,
   ⟨0x148, 8, 1, 0x0, 0x0, false, [⟨7, 1, .ro⟩, ⟨6, 1, .ro⟩, ⟨2, 4, .ro⟩, ⟨1, 1, .ro⟩, ⟨0, 1, .ro⟩]⟩,
   ⟨0x150, 8, 8, 0x0, 0x0, false, [⟨0, 48, .rw⟩]⟩,
   ⟨0x200, 8, 1, 0x0, 0x0, true, [⟨0, 48, .ro⟩]⟩,
   ⟨0x208, 8, 1, 0x0, 0x0, true, [⟨0, 48, .ro⟩]⟩,
   ⟨0x210, 8, 1, 0x0, 0x0, true, [⟨0, 48, .ro⟩]⟩,
   ⟨0x218, 8, 1, 0x0, 0x0, true, [⟨0, 48, .ro⟩]⟩,
   ⟨0x220, 8, 1, 0x0, 0x0, true, [⟨0, 48, .ro⟩]⟩,
   ⟨0x228, 8, 1, 0x0, 0x0, true, [⟨0, 48, .ro⟩]⟩]

/-- Registers of TMW (15_traffic_manager.md). -/
def rowsTMW0 : List RegRow :=
  [⟨0x100, 8, 1, 0x8a00000, 0x0, false, [⟨28, 20, .rw⟩, ⟨27, 1, .rw⟩, ⟨19, 8, .rw⟩]⟩,
   ⟨0x108, 8, 1, 0x0, 0x0, false, [⟨28, 20, .ro⟩, ⟨0, 2, .ro⟩]⟩,
   ⟨0x140, 8, 8, 0x200000f000, 0x0, false, [⟨21, 21, .rw⟩, ⟨0, 21, .rw⟩]⟩,
   ⟨0x180, 8, 8, 0x1000, 0x0, false, [⟨0, 21, .rw⟩]⟩,
   ⟨0x1c0, 8, 8, 0x0, 0x0, false, [⟨21, 1, .ro⟩, ⟨0, 21, .ro⟩]⟩,
   ⟨0x400, 128, 16, 0x0, 0x0, false, [⟨32, 16, .rw⟩, ⟨29, 3, .rw⟩, ⟨21, 8, .rw⟩, ⟨20, 1, .rw⟩, ⟨19, 1, .rw⟩]⟩,
   ⟨0x408, 128, 16, 0xa00004000000, 0x0, false, [⟨27, 21, .rw⟩, ⟨23, 4, .rw⟩, ⟨2, 21, .rw⟩]⟩,
   ⟨0x410, 128, 16, 0x0, 0x0, false, [⟨27, 21, .rw⟩, ⟨11, 16, .rw⟩]⟩,
   ⟨0x418, 128, 16, 0x0, 0x0, false, [⟨47, 1, .rw⟩, ⟨46, 1, .rw⟩, ⟨28, 18, .rw⟩, ⟨10, 18, .rw⟩, ⟨2, 8, .rw⟩]⟩,
   ⟨0x420, 128, 16, 0x0, 0x0, false, [⟨0, 22, .rw⟩]⟩,
   ⟨0x428, 128, 16, 0x3000000, 0x0, false, [⟨27, 21, .rw⟩, ⟨0, 26, .rw⟩]⟩,
   ⟨0x430, 128, 16, 0x0, 0x0, false, [⟨24, 21, .ro⟩, ⟨7, 1, .ro⟩, ⟨6, 1, .ro⟩, ⟨5, 1, .ro⟩, ⟨4, 1, .ro⟩, ⟨0, 2, .ro⟩]⟩,
   ⟨0x438, 128, 16, 0x0, 0x0, false, [⟨0, 26, .ro⟩]⟩,
   ⟨0x300, 8, 1, 0x0, 0x0, true, [⟨0, 48, .ro⟩]⟩,
   ⟨0x308, 8, 1, 0x0, 0x0, true, [⟨0, 48, .ro⟩]⟩,
   ⟨0x310, 8, 1, 0x0, 0x0, true, [⟨0, 48, .ro⟩]⟩,
   ⟨0x318, 8, 1, 0x0, 0x0, true, [⟨0, 48, .ro⟩]⟩,
   ⟨0x320, 8, 1, 0x0, 0x0, true, [⟨0, 48, .ro⟩]⟩,
   ⟨0x328, 8, 1, 0x0, 0x0, true, [⟨0, 48, .ro⟩]⟩,
   ⟨0x440, 128, 16, 0x0, 0x0, true, [⟨0, 48, .ro⟩]⟩]

/-- Registers of TMW (15_traffic_manager.md). -/
def rowsTMW1 : List RegRow :=
  [⟨0x448, 128, 16, 0x0, 0x0, true, [⟨0, 48, .ro⟩]⟩,
   ⟨0x450, 128, 16, 0x0, 0x0, true, [⟨0, 48, .ro⟩]⟩,
   ⟨0x458, 128, 16, 0x0, 0x0, true, [⟨0, 48, .ro⟩]⟩,
   ⟨0x460, 128, 16, 0x0, 0x0, true, [⟨0, 48, .ro⟩]⟩,
   ⟨0x468, 128, 16, 0x0, 0x0, true, [⟨0, 48, .ro⟩]⟩,
   ⟨0x470, 128, 16, 0x0, 0x0, true, [⟨0, 48, .ro⟩]⟩,
   ⟨0x478, 128, 16, 0x0, 0x0, true, [⟨0, 48, .ro⟩]⟩]

/-- All registers of TMW. -/
def rowsTMW : List RegRow := rowsTMW0 ++ rowsTMW1

/-- Registers of BPM (14_buffer_pools.md). -/
def rowsBPM0 : List RegRow :=
  [⟨0x100, 8, 1, 0x8, 0x0, false, [⟨4, 4, .rw⟩, ⟨0, 4, .rw⟩]⟩,
   ⟨0x108, 8, 1, 0xff, 0x0, false, [⟨4, 4, .ro⟩, ⟨1, 3, .rw⟩, ⟨0, 1, .ro⟩]⟩,
   ⟨0x110, 8, 1, 0x0, 0x1, false, [⟨0, 1, .wo⟩]⟩,
   ⟨0x118, 8, 1, 0x1, 0x0, false, [⟨4, 4, .ro⟩, ⟨1, 1, .ro⟩, ⟨0, 1, .ro⟩]⟩,
   ⟨0x140, 8, 16, 0xb00, 0x0, false, [⟨11, 1, .rw⟩, ⟨9, 2, .rw⟩, ⟨8, 1, .rw⟩, ⟨7, 1, .rw⟩, ⟨3, 4, .rw⟩]⟩,
   ⟨0x200, 8, 64, 0x14000, 0x0, false, [⟨0, 19, .rw⟩]⟩,
   ⟨0x400, 8, 16, 0x10000, 0x0, false, [⟨16, 1, .rw⟩, ⟨12, 4, .rw⟩, ⟨8, 4, .rw⟩, ⟨4, 4, .rw⟩, ⟨0, 4, .rw⟩]⟩,
   ⟨0x480, 8, 16, 0x0, 0x0, false, [⟨21, 21, .ro⟩, ⟨0, 21, .ro⟩]⟩,
   ⟨0x500, 8, 1, 0x0, 0xfff, false, [⟨47, 1, .wo⟩, ⟨0, 12, .wo⟩]⟩,
   ⟨0x508, 8, 1, 0x0, 0x0, false, [⟨0, 4, .rw⟩]⟩,
   ⟨0x510, 8, 1, 0x28000000000, 0x0, false, [⟨21, 21, .ro⟩, ⟨0, 21, .ro⟩]⟩,
   ⟨0x518, 8, 1, 0x0, 0x0, false, [⟨47, 1, .rc⟩, ⟨44, 3, .rc⟩, ⟨39, 5, .rc⟩, ⟨25, 14, .rc⟩, ⟨21, 4, .rc⟩, ⟨0, 21, .rc⟩]⟩,
   ⟨0x520, 8, 1, 0x0, 0x0, false, [⟨47, 1, .rc⟩, ⟨44, 3, .rc⟩, ⟨39, 5, .rc⟩, ⟨25, 14, .rc⟩, ⟨21, 4, .rc⟩, ⟨0, 21, .rc⟩]⟩,
   ⟨0x528, 8, 1, 0x0, 0x0, false, [⟨0, 18, .ro⟩]⟩,
   ⟨0x540, 8, 1, 0x0, 0x1, false, [⟨0, 1, .wo⟩]⟩,
   ⟨0x548, 8, 1, 0x0, 0x0, false, [⟨24, 17, .ro⟩, ⟨0, 17, .ro⟩]⟩,
   ⟨0x580, 8, 16, 0x0, 0x0, false, [⟨21, 21, .ro⟩, ⟨0, 21, .ro⟩]⟩,
   ⟨0x600, 8, 1, 0x0, 0x0, true, [⟨0, 48, .ro⟩]⟩,
   ⟨0x608, 8, 1, 0x0, 0x0, true, [⟨0, 48, .ro⟩]⟩,
   ⟨0x610, 8, 1, 0x0, 0x0, true, [⟨0, 48, .ro⟩]⟩]

/-- Registers of BPM (14_buffer_pools.md). -/
def rowsBPM1 : List RegRow :=
  [⟨0x618, 8, 1, 0x0, 0x0, true, [⟨0, 48, .ro⟩]⟩,
   ⟨0x620, 8, 1, 0x0, 0x0, true, [⟨0, 48, .ro⟩]⟩,
   ⟨0x628, 8, 1, 0x0, 0x0, true, [⟨0, 48, .ro⟩]⟩,
   ⟨0x630, 8, 1, 0x0, 0x0, true, [⟨0, 48, .ro⟩]⟩,
   ⟨0x638, 8, 1, 0x0, 0x0, true, [⟨0, 48, .ro⟩]⟩,
   ⟨0x640, 8, 1, 0x0, 0x0, true, [⟨0, 48, .ro⟩]⟩,
   ⟨0x648, 8, 1, 0x0, 0x0, true, [⟨0, 48, .ro⟩]⟩,
   ⟨0x650, 8, 1, 0x0, 0x0, true, [⟨0, 48, .ro⟩]⟩,
   ⟨0x658, 8, 1, 0x0, 0x0, true, [⟨0, 48, .ro⟩]⟩,
   ⟨0x660, 8, 1, 0x0, 0x0, true, [⟨0, 48, .ro⟩]⟩,
   ⟨0x668, 8, 1, 0x0, 0x0, true, [⟨0, 48, .ro⟩]⟩]

/-- All registers of BPM. -/
def rowsBPM : List RegRow := rowsBPM0 ++ rowsBPM1

/-- Registers of OVM (16_overflow_memory.md). -/
def rowsOVM0 : List RegRow :=
  [⟨0x100, 8, 1, 0x0, 0x0, false, [⟨16, 8, .rw⟩, ⟨8, 8, .rw⟩, ⟨0, 8, .rw⟩]⟩,
   ⟨0x108, 8, 1, 0x0, 0x1, false, [⟨0, 1, .wo⟩]⟩,
   ⟨0x110, 8, 1, 0x3000000, 0x0, false, [⟨30, 3, .ro⟩, ⟨29, 1, .ro⟩, ⟨0, 26, .ro⟩]⟩,
   ⟨0x118, 8, 1, 0x3000000, 0x0, false, [⟨0, 26, .ro⟩]⟩,
   ⟨0x140, 8, 5, 0x0, 0x0, false, [⟨24, 17, .ro⟩, ⟨0, 17, .rw⟩]⟩,
   ⟨0x168, 8, 1, 0x0, 0x1, false, [⟨0, 1, .wo⟩]⟩,
   ⟨0x170, 8, 1, 0xcccc00b851, 0x0, false, [⟨41, 1, .ro⟩, ⟨24, 17, .ro⟩, ⟨0, 17, .ro⟩]⟩,
   ⟨0x178, 8, 1, 0x4000200, 0x0, false, [⟨16, 13, .rw⟩, ⟨0, 13, .rw⟩]⟩,
   ⟨0x180, 8, 1, 0x0, 0x0, false, [⟨29, 1, .ro⟩, ⟨16, 13, .ro⟩, ⟨0, 12, .ro⟩]⟩,
   ⟨0x188, 8, 1, 0x55, 0x0, false, [⟨0, 7, .rw⟩]⟩,
   ⟨0x190, 8, 1, 0x0, 0x0, false, [⟨0, 8, .rw⟩]⟩,
   ⟨0x1c0, 8, 4, 0x0, 0x0, false, [⟨32, 16, .ro⟩, ⟨16, 4, .ro⟩, ⟨2, 1, .ro⟩, ⟨1, 1, .ro⟩, ⟨0, 1, .ro⟩]⟩,
   ⟨0x200, 16, 4, 0x0, 0x0, false, [⟨0, 48, .ro⟩]⟩,
   ⟨0x208, 16, 4, 0x0, 0x0, false, [⟨0, 16, .ro⟩]⟩,
   ⟨0x240, 8, 1, 0x0, 0x0, false, [⟨47, 1, .rc⟩, ⟨44, 3, .rc⟩, ⟨36, 8, .rc⟩, ⟨0, 36, .rc⟩]⟩,
   ⟨0x300, 8, 1, 0x0, 0x0, true, [⟨0, 48, .ro⟩]⟩,
   ⟨0x308, 8, 1, 0x0, 0x0, true, [⟨0, 48, .ro⟩]⟩,
   ⟨0x310, 8, 1, 0x0, 0x0, true, [⟨0, 48, .ro⟩]⟩,
   ⟨0x318, 8, 1, 0x0, 0x0, true, [⟨0, 48, .ro⟩]⟩,
   ⟨0x320, 8, 1, 0x0, 0x0, true, [⟨0, 48, .ro⟩]⟩]

/-- Registers of OVM (16_overflow_memory.md). -/
def rowsOVM1 : List RegRow :=
  [⟨0x328, 8, 1, 0x0, 0x0, true, [⟨0, 48, .ro⟩]⟩,
   ⟨0x330, 8, 1, 0x0, 0x0, true, [⟨0, 48, .ro⟩]⟩,
   ⟨0x338, 8, 1, 0x0, 0x0, true, [⟨0, 48, .ro⟩]⟩,
   ⟨0x340, 8, 1, 0x0, 0x0, true, [⟨0, 48, .ro⟩]⟩,
   ⟨0x348, 8, 1, 0x0, 0x0, true, [⟨0, 48, .ro⟩]⟩,
   ⟨0x350, 8, 1, 0x0, 0x0, true, [⟨0, 48, .ro⟩]⟩,
   ⟨0x358, 8, 1, 0x0, 0x0, true, [⟨0, 48, .ro⟩]⟩,
   ⟨0x360, 8, 1, 0x0, 0x0, true, [⟨0, 48, .ro⟩]⟩,
   ⟨0x368, 8, 1, 0x0, 0x0, true, [⟨0, 48, .ro⟩]⟩]

/-- All registers of OVM. -/
def rowsOVM : List RegRow := rowsOVM0 ++ rowsOVM1

/-- Registers of SPR (13_spray_and_restore.md). -/
def rowsSPR : List RegRow :=
  [⟨0x100, 8, 1, 0x40000000a, 0x0, false, [⟨16, 21, .rw⟩, ⟨0, 16, .rw⟩]⟩,
   ⟨0x108, 8, 1, 0x0, 0x0, false, [⟨20, 21, .ro⟩, ⟨0, 17, .ro⟩]⟩,
   ⟨0x110, 8, 1, 0x0, 0xffff, false, [⟨45, 3, .wo⟩, ⟨44, 1, .wo⟩, ⟨0, 16, .wo⟩]⟩,
   ⟨0x118, 8, 1, 0x0, 0x0, false, [⟨7, 1, .ro⟩, ⟨6, 1, .ro⟩, ⟨2, 4, .ro⟩, ⟨1, 1, .ro⟩, ⟨0, 1, .ro⟩]⟩,
   ⟨0x120, 8, 2, 0x0, 0x0, false, [⟨0, 48, .rw⟩]⟩,
   ⟨0x200, 8, 1, 0x0, 0x0, true, [⟨0, 48, .ro⟩]⟩,
   ⟨0x208, 8, 1, 0x0, 0x0, true, [⟨0, 48, .ro⟩]⟩,
   ⟨0x210, 8, 1, 0x0, 0x0, true, [⟨0, 48, .ro⟩]⟩,
   ⟨0x218, 8, 1, 0x0, 0x0, true, [⟨0, 48, .ro⟩]⟩,
   ⟨0x220, 8, 1, 0x0, 0x0, true, [⟨0, 48, .ro⟩]⟩,
   ⟨0x228, 8, 1, 0x0, 0x0, true, [⟨0, 48, .ro⟩]⟩,
   ⟨0x230, 8, 1, 0x0, 0x0, true, [⟨0, 48, .ro⟩]⟩,
   ⟨0x238, 8, 1, 0x0, 0x0, true, [⟨0, 48, .ro⟩]⟩,
   ⟨0x240, 8, 1, 0x0, 0x0, true, [⟨0, 48, .ro⟩]⟩,
   ⟨0x248, 8, 1, 0x0, 0x0, true, [⟨0, 48, .ro⟩]⟩,
   ⟨0x250, 8, 1, 0x0, 0x0, true, [⟨0, 48, .ro⟩]⟩,
   ⟨0x258, 8, 1, 0x0, 0x0, true, [⟨0, 48, .ro⟩]⟩,
   ⟨0x260, 8, 1, 0x0, 0x0, true, [⟨0, 48, .ro⟩]⟩,
   ⟨0x268, 8, 1, 0x0, 0x0, true, [⟨0, 48, .ro⟩]⟩]

/-- Registers of DTM (17_datum.md). -/
def rowsDTM0 : List RegRow :=
  [⟨0x100, 8, 1, 0x0, 0x0, false, [⟨0, 1, .rwh⟩]⟩,
   ⟨0x108, 8, 1, 0x0, 0x0, false, [⟨6, 1, .ro⟩, ⟨5, 1, .ro⟩, ⟨4, 1, .ro⟩, ⟨3, 1, .ro⟩, ⟨2, 1, .ro⟩, ⟨0, 1, .ro⟩]⟩,
   ⟨0x110, 8, 1, 0x50019190, 0x0, false, [⟨26, 16, .rw⟩, ⟨10, 16, .rw⟩, ⟨2, 8, .rw⟩, ⟨0, 2, .rw⟩]⟩,
   ⟨0x118, 8, 1, 0x0, 0x0, false, [⟨0, 48, .rw⟩]⟩,
   ⟨0x120, 8, 1, 0x0, 0x0, false, [⟨16, 30, .rw⟩, ⟨0, 16, .rw⟩]⟩,
   ⟨0x128, 8, 1, 0x0, 0x1, false, [⟨1, 2, .wo⟩, ⟨0, 1, .wo⟩]⟩,
   ⟨0x130, 8, 1, 0x0, 0x0, false, [⟨0, 48, .ro⟩]⟩,
   ⟨0x138, 8, 1, 0x0, 0x0, false, [⟨0, 40, .ro⟩]⟩,
   ⟨0x140, 8, 1, 0x0, 0x0, false, [⟨0, 48, .ro⟩]⟩,
   ⟨0x148, 8, 1, 0x0, 0x0, false, [⟨16, 30, .ro⟩, ⟨0, 16, .ro⟩]⟩,
   ⟨0x180, 64, 2, 0x0, 0x0, false, [⟨20, 1, .rw⟩, ⟨16, 4, .rw⟩, ⟨8, 8, .rw⟩, ⟨0, 1, .rw⟩]⟩,
   ⟨0x188, 64, 2, 0x0, 0x0, false, [⟨0, 40, .rw⟩]⟩,
   ⟨0x190, 64, 2, 0x0, 0x0, false, [⟨0, 48, .rw⟩]⟩,
   ⟨0x198, 64, 2, 0x0, 0x0, false, [⟨16, 30, .rw⟩, ⟨0, 16, .rw⟩]⟩,
   ⟨0x1a0, 64, 2, 0x0, 0x1, false, [⟨2, 1, .wo⟩, ⟨1, 1, .wo⟩, ⟨0, 1, .wo⟩]⟩,
   ⟨0x1a8, 64, 2, 0x0, 0x0, false, [⟨40, 8, .rw⟩, ⟨0, 40, .rw⟩]⟩,
   ⟨0x1b0, 64, 2, 0x1, 0x0, false, [⟨8, 40, .ro⟩, ⟨2, 1, .ro⟩, ⟨1, 1, .ro⟩, ⟨0, 1, .ro⟩]⟩,
   ⟨0x200, 8, 1, 0x0, 0x0, false, [⟨4, 2, .rw⟩, ⟨2, 2, .rw⟩, ⟨1, 1, .rw⟩, ⟨0, 1, .rw⟩]⟩,
   ⟨0x210, 32, 2, 0x0, 0x0, false, [⟨0, 48, .ro⟩]⟩,
   ⟨0x218, 32, 2, 0x0, 0x0, false, [⟨47, 1, .rc⟩, ⟨46, 1, .rc⟩, ⟨16, 30, .ro⟩, ⟨0, 16, .ro⟩]⟩]

/-- Registers of DTM (17_datum.md). -/
def rowsDTM1 : List RegRow :=
  [⟨0x220, 32, 2, 0x0, 0x0, false, [⟨0, 48, .ro⟩]⟩,
   ⟨0x228, 32, 2, 0x0, 0x0, false, [⟨16, 30, .ro⟩, ⟨0, 16, .ro⟩]⟩,
   ⟨0x280, 8, 1, 0x186a00, 0x0, false, [⟨24, 16, .rw⟩, ⟨4, 20, .rw⟩, ⟨2, 2, .rw⟩, ⟨1, 1, .rw⟩, ⟨0, 1, .rw⟩]⟩,
   ⟨0x300, 8, 1, 0x0, 0x1, false, [⟨0, 1, .wo⟩]⟩,
   ⟨0x308, 8, 1, 0x0, 0x0, false, [⟨0, 48, .ro⟩]⟩,
   ⟨0x310, 8, 1, 0x0, 0x0, false, [⟨16, 30, .ro⟩, ⟨0, 16, .ro⟩]⟩,
   ⟨0x318, 8, 1, 0x0, 0x0, false, [⟨0, 48, .ro⟩]⟩,
   ⟨0x320, 8, 1, 0x0, 0x0, false, [⟨16, 30, .ro⟩, ⟨0, 16, .ro⟩]⟩,
   ⟨0x328, 8, 1, 0x0, 0x0, false, [⟨0, 48, .ro⟩]⟩,
   ⟨0x330, 8, 1, 0x0, 0x0, false, [⟨16, 30, .ro⟩, ⟨0, 16, .ro⟩]⟩,
   ⟨0x380, 8, 1, 0x3e80000, 0x0, false, [⟨16, 24, .rw⟩, ⟨9, 1, .rw⟩, ⟨8, 1, .rw⟩, ⟨0, 8, .rw⟩]⟩,
   ⟨0x388, 8, 1, 0x0, 0x0, false, [⟨16, 16, .ro⟩, ⟨8, 6, .ro⟩, ⟨0, 1, .ro⟩]⟩,
   ⟨0x400, 8, 1, 0x0, 0x0, true, [⟨0, 48, .ro⟩]⟩,
   ⟨0x408, 8, 1, 0x0, 0x0, true, [⟨0, 48, .ro⟩]⟩,
   ⟨0x410, 8, 1, 0x0, 0x0, true, [⟨0, 48, .ro⟩]⟩,
   ⟨0x418, 8, 1, 0x0, 0x0, true, [⟨0, 48, .ro⟩]⟩,
   ⟨0x420, 8, 1, 0x0, 0x0, true, [⟨0, 48, .ro⟩]⟩,
   ⟨0x428, 8, 1, 0x0, 0x0, true, [⟨0, 48, .ro⟩]⟩,
   ⟨0x430, 8, 1, 0x0, 0x0, true, [⟨0, 48, .ro⟩]⟩,
   ⟨0x438, 8, 1, 0x0, 0x0, true, [⟨0, 48, .ro⟩]⟩]

/-- Registers of DTM (17_datum.md). -/
def rowsDTM2 : List RegRow :=
  [⟨0x440, 8, 1, 0x0, 0x0, true, [⟨0, 48, .ro⟩]⟩,
   ⟨0x448, 8, 1, 0x0, 0x0, true, [⟨0, 48, .ro⟩]⟩,
   ⟨0x450, 8, 1, 0x0, 0x0, true, [⟨0, 48, .ro⟩]⟩]

/-- All registers of DTM. -/
def rowsDTM : List RegRow := rowsDTM0 ++ rowsDTM1 ++ rowsDTM2

/-- Registers of TEL (18_telemetry_and_counters.md). -/
def rowsTEL : List RegRow :=
  [⟨0x100, 8, 1, 0x0, 0x0, false, [⟨16, 32, .rw⟩, ⟨1, 1, .rw⟩, ⟨0, 1, .rw⟩]⟩,
   ⟨0x108, 8, 1, 0x708003a98, 0x0, false, [⟨24, 24, .rw⟩, ⟨0, 24, .rw⟩]⟩,
   ⟨0x110, 8, 1, 0x0, 0x0, false, [⟨40, 8, .rw⟩, ⟨32, 8, .rw⟩, ⟨26, 6, .rw⟩, ⟨20, 6, .rw⟩]⟩,
   ⟨0x118, 8, 1, 0x0, 0x0, false, [⟨40, 8, .rw⟩, ⟨34, 6, .rw⟩, ⟨26, 8, .rw⟩, ⟨20, 6, .rw⟩, ⟨12, 8, .rw⟩, ⟨6, 6, .rw⟩]⟩,
   ⟨0x120, 8, 1, 0x914, 0x0, false, [⟨8, 5, .rw⟩, ⟨0, 8, .rw⟩]⟩,
   ⟨0x128, 8, 1, 0x80000, 0x0, false, [⟨21, 1, .rw⟩, ⟨20, 1, .rw⟩, ⟨17, 3, .rw⟩, ⟨9, 8, .rw⟩, ⟨3, 6, .rw⟩]⟩,
   ⟨0x130, 8, 1, 0x0, 0x0, false, [⟨20, 13, .ro⟩, ⟨0, 20, .ro⟩]⟩,
   ⟨0x200, 8, 1, 0x0, 0x0, true, [⟨0, 48, .ro⟩]⟩,
   ⟨0x208, 8, 1, 0x0, 0x0, true, [⟨0, 48, .ro⟩]⟩,
   ⟨0x210, 8, 1, 0x0, 0x0, true, [⟨0, 48, .ro⟩]⟩,
   ⟨0x218, 8, 1, 0x0, 0x0, true, [⟨0, 48, .ro⟩]⟩,
   ⟨0x220, 8, 1, 0x0, 0x0, true, [⟨0, 48, .ro⟩]⟩,
   ⟨0x228, 8, 1, 0x0, 0x0, true, [⟨0, 48, .ro⟩]⟩,
   ⟨0x230, 8, 1, 0x0, 0x0, true, [⟨0, 48, .ro⟩]⟩,
   ⟨0x238, 8, 1, 0x0, 0x0, true, [⟨0, 48, .ro⟩]⟩,
   ⟨0x240, 8, 1, 0x0, 0x0, true, [⟨0, 48, .ro⟩]⟩,
   ⟨0x248, 8, 1, 0x0, 0x0, true, [⟨0, 48, .ro⟩]⟩,
   ⟨0x250, 8, 1, 0x0, 0x0, true, [⟨0, 48, .ro⟩]⟩]

/-- Registers of SVC (18_telemetry_and_counters.md). -/
def rowsSVC : List RegRow :=
  [⟨0x100, 8, 1, 0x0, 0xfff, false, [⟨47, 1, .wo⟩, ⟨0, 12, .wo⟩]⟩,
   ⟨0x140, 8, 1, 0x0, 0x0, false, [⟨47, 1, .rw⟩, ⟨0, 47, .rw⟩]⟩,
   ⟨0x148, 8, 1, 0x0, 0x0, false, [⟨0, 48, .w1c⟩]⟩,
   ⟨0x108, 8, 1, 0x0, 0x0, false, [⟨7, 1, .ro⟩, ⟨6, 1, .ro⟩, ⟨2, 4, .ro⟩, ⟨1, 1, .ro⟩, ⟨0, 1, .ro⟩]⟩,
   ⟨0x110, 8, 4, 0x0, 0x0, false, [⟨0, 48, .rw⟩]⟩]

/-- Registers of DMP (18_telemetry_and_counters.md). -/
def rowsDMP : List RegRow :=
  [⟨0x100, 8, 1, 0x0, 0x0, false, [⟨15, 1, .rw⟩, ⟨14, 1, .rw⟩, ⟨13, 1, .rw⟩, ⟨6, 7, .rw⟩]⟩,
   ⟨0x108, 8, 1, 0xf4240, 0x0, false, [⟨0, 24, .rw⟩]⟩,
   ⟨0x110, 8, 1, 0x0, 0x1, false, [⟨0, 1, .wo⟩]⟩,
   ⟨0x118, 8, 1, 0x0, 0x0, false, [⟨47, 1, .ro⟩, ⟨21, 21, .ro⟩, ⟨0, 21, .ro⟩]⟩,
   ⟨0x120, 8, 1, 0x0, 0x0, false, [⟨0, 48, .ro⟩]⟩,
   ⟨0x200, 64, 8, 0x0, 0x0, false, [⟨0, 48, .rw⟩]⟩,
   ⟨0x208, 64, 8, 0x0, 0x0, false, [⟨11, 1, .rw⟩, ⟨7, 4, .rw⟩, ⟨5, 2, .rw⟩, ⟨4, 1, .rw⟩, ⟨0, 1, .rwh⟩]⟩,
   ⟨0x210, 64, 8, 0x0, 0x0, false, [⟨0, 15, .ro⟩]⟩,
   ⟨0x218, 64, 8, 0x0, 0x0, false, [⟨0, 15, .rwh⟩]⟩,
   ⟨0x220, 64, 8, 0x0, 0x0, true, [⟨0, 48, .ro⟩]⟩,
   ⟨0x228, 64, 8, 0x0, 0x0, true, [⟨0, 48, .ro⟩]⟩,
   ⟨0x400, 8, 1, 0x0, 0x0, true, [⟨0, 48, .ro⟩]⟩,
   ⟨0x408, 8, 1, 0x0, 0x0, true, [⟨0, 48, .ro⟩]⟩,
   ⟨0x410, 8, 1, 0x0, 0x0, true, [⟨0, 48, .ro⟩]⟩,
   ⟨0x418, 8, 1, 0x0, 0x0, true, [⟨0, 48, .ro⟩]⟩]

/-- Registers of VFE (02_host_interface_and_pages.md, 03_parcels_and_easements.md). -/
def rowsVFE : List RegRow :=
  [⟨0x100, 8, 1, 0x0, 0x0, false, [⟨7, 1, .ro⟩, ⟨6, 1, .ro⟩, ⟨5, 1, .ro⟩, ⟨0, 5, .ro⟩]⟩,
   ⟨0x108, 8, 1, 0x0, 0x1, false, [⟨0, 1, .wo⟩]⟩,
   ⟨0x140, 8, 16, 0x0, 0x0, false, [⟨0, 48, .ro⟩]⟩,
   ⟨0x1000, 64, 4, 0x0, 0x0, false, [⟨0, 48, .rw⟩]⟩,
   ⟨0x1008, 64, 4, 0x0, 0x0, false, [⟨5, 12, .rw⟩, ⟨1, 4, .rw⟩, ⟨0, 1, .rw⟩]⟩,
   ⟨0x1010, 64, 4, 0x0, 0x0, false, [⟨0, 12, .ro⟩]⟩,
   ⟨0x1018, 64, 4, 0x0, 0xfff, false, [⟨0, 12, .rw⟩]⟩,
   ⟨0x1020, 64, 4, 0x0, 0x0, true, [⟨0, 48, .ro⟩]⟩,
   ⟨0x1028, 64, 4, 0x0, 0x0, true, [⟨0, 48, .ro⟩]⟩]

/-- Default severities of the sources of DEV pages that are above RECORD: (source, severity code). -/
def sevDEV : List (Nat × Nat) := [(3, 1), (6, 1)]
/-- The highest source number of DEV pages. -/
def maxSrcDEV : Nat := 7

/-- Default severities of the sources of CLK pages that are above RECORD: (source, severity code). -/
def sevCLK : List (Nat × Nat) := [(3, 1), (5, 1), (6, 1)]
/-- The highest source number of CLK pages. -/
def maxSrcCLK : Nat := 6

/-- Default severities of the sources of PWR pages that are above RECORD: (source, severity code). -/
def sevPWR : List (Nat × Nat) := [(4, 1)]
/-- The highest source number of PWR pages. -/
def maxSrcPWR : Nat := 5

/-- Default severities of the sources of FLS pages that are above RECORD: (source, severity code). -/
def sevFLS : List (Nat × Nat) := [(3, 1), (4, 1)]
/-- The highest source number of FLS pages. -/
def maxSrcFLS : Nat := 5

/-- Default severities of the sources of THM pages that are above RECORD: (source, severity code). -/
def sevTHM : List (Nat × Nat) := [(3, 1), (4, 1)]
/-- The highest source number of THM pages. -/
def maxSrcTHM : Nat := 6

/-- Default severities of the sources of MGB pages that are above RECORD: (source, severity code). -/
def sevMGB : List (Nat × Nat) := [(3, 1)]
/-- The highest source number of MGB pages. -/
def maxSrcMGB : Nat := 6

/-- Default severities of the sources of HIF pages that are above RECORD: (source, severity code). -/
def sevHIF : List (Nat × Nat) := [(3, 1), (6, 1), (7, 1), (8, 1)]
/-- The highest source number of HIF pages. -/
def maxSrcHIF : Nat := 10

/-- Default severities of the sources of DMQ pages that are above RECORD: (source, severity code). -/
def sevDMQ : List (Nat × Nat) := [(4, 1)]
/-- The highest source number of DMQ pages. -/
def maxSrcDMQ : Nat := 4

/-- Default severities of the sources of PCL pages that are above RECORD: (source, severity code). -/
def sevPCL : List (Nat × Nat) := [(3, 1), (4, 1)]
/-- The highest source number of PCL pages. -/
def maxSrcPCL : Nat := 7

/-- Default severities of the sources of LMP pages that are above RECORD: (source, severity code). -/
def sevLMP : List (Nat × Nat) := [(4, 1), (5, 1), (6, 2), (7, 1), (8, 1), (9, 1), (10, 1), (11, 1), (12, 1), (14, 1)]
/-- The highest source number of LMP pages. -/
def maxSrcLMP : Nat := 14

/-- Default severities of the sources of OEN pages that are above RECORD: (source, severity code). -/
def sevOEN : List (Nat × Nat) := [(4, 1), (5, 1), (6, 1), (7, 1), (8, 2), (9, 1)]
/-- The highest source number of OEN pages. -/
def maxSrcOEN : Nat := 9

/-- Default severities of the sources of LN pages that are above RECORD: (source, severity code). -/
def sevLN : List (Nat × Nat) := [(6, 1), (9, 1), (10, 2), (11, 1), (13, 1), (15, 1)]
/-- The highest source number of LN pages. -/
def maxSrcLN : Nat := 15

/-- Default severities of the sources of ELN pages that are above RECORD: (source, severity code). -/
def sevELN : List (Nat × Nat) := []
/-- The highest source number of ELN pages. -/
def maxSrcELN : Nat := 2

/-- Default severities of the sources of OLN pages that are above RECORD: (source, severity code). -/
def sevOLN : List (Nat × Nat) := [(16, 1), (17, 1), (19, 1), (20, 1)]
/-- The highest source number of OLN pages. -/
def maxSrcOLN : Nat := 20

/-- Default severities of the sources of LSQ pages that are above RECORD: (source, severity code). -/
def sevLSQ : List (Nat × Nat) := [(4, 1), (5, 1), (6, 1), (8, 2), (9, 1), (10, 3), (12, 1), (13, 1), (14, 1)]
/-- The highest source number of LSQ pages. -/
def maxSrcLSQ : Nat := 15

/-- Default severities of the sources of PEN pages that are above RECORD: (source, severity code). -/
def sevPEN : List (Nat × Nat) := [(4, 1), (5, 1), (6, 1), (7, 1), (9, 1)]
/-- The highest source number of PEN pages. -/
def maxSrcPEN : Nat := 11

/-- Default severities of the sources of MSC pages that are above RECORD: (source, severity code). -/
def sevMSC : List (Nat × Nat) := [(3, 2), (4, 1), (5, 1), (6, 3), (7, 1), (9, 1)]
/-- The highest source number of MSC pages. -/
def maxSrcMSC : Nat := 10

/-- Default severities of the sources of MSG pages that are above RECORD: (source, severity code). -/
def sevMSG : List (Nat × Nat) := [(5, 1), (6, 1), (7, 1), (8, 1)]
/-- The highest source number of MSG pages. -/
def maxSrcMSG : Nat := 9

/-- Default severities of the sources of TRV pages that are above RECORD: (source, severity code). -/
def sevTRV : List (Nat × Nat) := [(4, 1), (5, 3), (6, 1), (7, 1)]
/-- The highest source number of TRV pages. -/
def maxSrcTRV : Nat := 9

/-- Default severities of the sources of PRS pages that are above RECORD: (source, severity code). -/
def sevPRS : List (Nat × Nat) := [(5, 1), (6, 1), (9, 1), (10, 1), (12, 1), (13, 3)]
/-- The highest source number of PRS pages. -/
def maxSrcPRS : Nat := 14

/-- Default severities of the sources of STN pages that are above RECORD: (source, severity code). -/
def sevSTN : List (Nat × Nat) := [(3, 1), (4, 1), (6, 3)]
/-- The highest source number of STN pages. -/
def maxSrcSTN : Nat := 11

/-- Default severities of the sources of DPR pages that are above RECORD: (source, severity code). -/
def sevDPR : List (Nat × Nat) := [(3, 1), (5, 3), (8, 1)]
/-- The highest source number of DPR pages. -/
def maxSrcDPR : Nat := 8

/-- Default severities of the sources of TBC pages that are above RECORD: (source, severity code). -/
def sevTBC : List (Nat × Nat) := [(6, 3), (7, 1), (8, 1)]
/-- The highest source number of TBC pages. -/
def maxSrcTBC : Nat := 9

/-- Default severities of the sources of LRN pages that are above RECORD: (source, severity code). -/
def sevLRN : List (Nat × Nat) := [(5, 1)]
/-- The highest source number of LRN pages. -/
def maxSrcLRN : Nat := 6

/-- Default severities of the sources of TRC pages that are above RECORD: (source, severity code). -/
def sevTRC : List (Nat × Nat) := []
/-- The highest source number of TRC pages. -/
def maxSrcTRC : Nat := 3

/-- Default severities of the sources of RES pages that are above RECORD: (source, severity code). -/
def sevRES : List (Nat × Nat) := [(5, 1)]
/-- The highest source number of RES pages. -/
def maxSrcRES : Nat := 5

/-- Default severities of the sources of TMC pages that are above RECORD: (source, severity code). -/
def sevTMC : List (Nat × Nat) := [(3, 1), (7, 3)]
/-- The highest source number of TMC pages. -/
def maxSrcTMC : Nat := 7

/-- Default severities of the sources of TMW pages that are above RECORD: (source, severity code). -/
def sevTMW : List (Nat × Nat) := [(4, 1), (5, 1), (6, 1)]
/-- The highest source number of TMW pages. -/
def maxSrcTMW : Nat := 8

/-- Default severities of the sources of BPM pages that are above RECORD: (source, severity code). -/
def sevBPM : List (Nat × Nat) := [(4, 1), (5, 1), (7, 1), (10, 1), (11, 3), (13, 1)]
/-- The highest source number of BPM pages. -/
def maxSrcBPM : Nat := 13

/-- Default severities of the sources of OVM pages that are above RECORD: (source, severity code). -/
def sevOVM : List (Nat × Nat) := [(3, 1), (7, 1), (8, 2), (9, 3), (10, 1), (11, 1), (13, 1)]
/-- The highest source number of OVM pages. -/
def maxSrcOVM : Nat := 13

/-- Default severities of the sources of SPR pages that are above RECORD: (source, severity code). -/
def sevSPR : List (Nat × Nat) := [(3, 1), (8, 1)]
/-- The highest source number of SPR pages. -/
def maxSrcSPR : Nat := 10

/-- Default severities of the sources of DTM pages that are above RECORD: (source, severity code). -/
def sevDTM : List (Nat × Nat) := [(7, 1), (10, 2), (13, 1), (14, 1)]
/-- The highest source number of DTM pages. -/
def maxSrcDTM : Nat := 16

/-- Default severities of the sources of TEL pages that are above RECORD: (source, severity code). -/
def sevTEL : List (Nat × Nat) := [(3, 1)]
/-- The highest source number of TEL pages. -/
def maxSrcTEL : Nat := 5

/-- Default severities of the sources of SVC pages that are above RECORD: (source, severity code). -/
def sevSVC : List (Nat × Nat) := []
/-- The highest source number of SVC pages. -/
def maxSrcSVC : Nat := 3

/-- Default severities of the sources of DMP pages that are above RECORD: (source, severity code). -/
def sevDMP : List (Nat × Nat) := [(3, 1), (4, 1), (6, 1)]
/-- The highest source number of DMP pages. -/
def maxSrcDMP : Nat := 6

/-- Default severities of the sources of VFE pages that are above RECORD: (source, severity code). -/
def sevVFE : List (Nat × Nat) := [(4, 1), (6, 1)]
/-- The highest source number of VFE pages. -/
def maxSrcVFE : Nat := 6

/-- The block registers of a page type; the electrical and optical lane pages share the lane registers. -/
def rowsOf : Kind → List RegRow
  | .dev => rowsDEV | .clk => rowsCLK | .pwr => rowsPWR | .fls => rowsFLS | .thm => rowsTHM | .mgb => rowsMGB
  | .hif => rowsHIF | .dmq => rowsDMQ | .pcl => rowsPCL | .lmp => rowsLMP | .oen => rowsOEN
  | .eln => rowsLN ++ rowsELN | .oln => rowsLN ++ rowsOLN | .lsq => rowsLSQ | .pen => rowsPEN | .msc => rowsMSC
  | .msg => rowsMSG | .trv => rowsTRV | .prs => rowsPRS | .stn => rowsSTN | .dpr => rowsDPR | .tbc => rowsTBC
  | .lrn => rowsLRN | .trc => rowsTRC | .res => rowsRES | .tmc => rowsTMC | .tmw => rowsTMW | .bpm => rowsBPM
  | .ovm => rowsOVM | .spr => rowsSPR | .dtm => rowsDTM | .tel => rowsTEL | .svc => rowsSVC | .dmp => rowsDMP
  | .vfe => rowsVFE

/-- Default severities above RECORD of a page type's sources (R601). -/
def sevOf : Kind → List (Nat × Nat)
  | .dev => sevDEV | .clk => sevCLK | .pwr => sevPWR | .fls => sevFLS | .thm => sevTHM | .mgb => sevMGB
  | .hif => sevHIF | .dmq => sevDMQ | .pcl => sevPCL | .lmp => sevLMP | .oen => sevOEN
  | .eln => sevLN
  | .oln => (sevLN.filter (fun e => e.1 != LN.S_SPARED_ENTRY)) ++ sevOLN
  | .lsq => sevLSQ | .pen => sevPEN | .msc => sevMSC
  | .msg => sevMSG | .trv => sevTRV | .prs => sevPRS | .stn => sevSTN | .dpr => sevDPR | .tbc => sevTBC
  | .lrn => sevLRN | .trc => sevTRC | .res => sevRES | .tmc => sevTMC | .tmw => sevTMW | .bpm => sevBPM
  | .ovm => sevOVM | .spr => sevSPR | .dtm => sevDTM | .tel => sevTEL | .svc => sevSVC | .dmp => sevDMP
  | .vfe => sevVFE

/-- NUM_SOURCES of PAGE_CAP: one more than the page type's highest source. -/
def numSources : Kind → Nat
  | .dev => maxSrcDEV + 1 | .clk => maxSrcCLK + 1 | .pwr => maxSrcPWR + 1 | .fls => maxSrcFLS + 1
  | .thm => maxSrcTHM + 1 | .mgb => maxSrcMGB + 1 | .hif => maxSrcHIF + 1 | .dmq => maxSrcDMQ + 1
  | .pcl => maxSrcPCL + 1 | .lmp => maxSrcLMP + 1 | .oen => maxSrcOEN + 1 | .eln => maxSrcLN + 1
  | .oln => maxSrcOLN + 1 | .lsq => maxSrcLSQ + 1 | .pen => maxSrcPEN + 1 | .msc => maxSrcMSC + 1
  | .msg => maxSrcMSG + 1 | .trv => maxSrcTRV + 1 | .prs => maxSrcPRS + 1 | .stn => maxSrcSTN + 1
  | .dpr => maxSrcDPR + 1 | .tbc => maxSrcTBC + 1 | .lrn => maxSrcLRN + 1 | .trc => maxSrcTRC + 1
  | .res => maxSrcRES + 1 | .tmc => maxSrcTMC + 1 | .tmw => maxSrcTMW + 1 | .bpm => maxSrcBPM + 1
  | .ovm => maxSrcOVM + 1 | .spr => maxSrcSPR + 1 | .dtm => maxSrcDTM + 1 | .tel => maxSrcTEL + 1
  | .svc => maxSrcSVC + 1 | .dmp => maxSrcDMP + 1 | .vfe => maxSrcVFE + 1

/-- Page types whose chapters give SELFTEST codes (PAGE_CAP.HAS_SELFTEST). -/
def hasSelftest : Kind → Bool
  | .eln | .oln | .lsq | .trv | .stn | .res | .tbc | .bpm | .ovm | .dpr => true
  | _ => false

/-- Row `r` holds the slot at offset `o`. -/
def RegRow.holds (r : RegRow) (o : Nat) : Bool :=
  decide (r.off ≤ o) && decide ((o - r.off) % r.st = 0) && decide ((o - r.off) / r.st < r.n)

/-- The row of the slot at offset `o` of a page of type `k`: a title block register, a block register, or none (reserved,
R17). -/
def rowAt (k : Kind) (o : Nat) : Option RegRow :=
  if o < 0x100 then rowsTB.find? (fun r => r.holds o) else (rowsOf k).find? (fun r => r.holds o)

/-- A severity list as the 48 bits of EVENT_SEVERITY_LO (`base` 0) or _HI (`base` 24). -/
def sevWord (l : List (Nat × Nat)) (base : Nat) : Nat :=
  (l.filter (fun e => decide (base ≤ e.1) && decide (e.1 < base + 24))).foldl (fun a e => a + e.2 * 2 ^ (2 * (e.1 - base))) 0

/-- PAGE_ID of a page (R66). -/
def pageIdWord (k : Kind) (inst : Nat) : Nat := k.code * 2 ^ 32 + inst * 2 ^ 16 + 0x0100

/-- PAGE_CAP of a page (R26, R69). -/
def pageCapWord (p : Page) (k : Kind) : Nat :=
  Page.island p * 2 ^ 16 + Page.domainCode p * 2 ^ 8 + (if hasSelftest k then 0x80 else 0) + (if k = .fls then 0x40 else 0)
    + numSources k

/-- Title block reset values that differ from page to page. -/
def titleReset (p : Page) (k : Kind) (inst o : Nat) : Option Nat :=
  if o = TB.PAGE_ID.off then some (pageIdWord k inst)
  else if o = TB.PAGE_CAP.off then some (pageCapWord p k)
  else if o = TB.PAGE_OWNER.off ∧ k = .vfe then some (inst * 2 ^ 16)
  else if o = TB.EVENT_SEVERITY_LO.off then some (sevWord (sevOf k) 0)
  else if o = TB.EVENT_SEVERITY_HI.off then some (sevWord (sevOf k) 24)
  else none

/-- Block registers whose reset value the chapters give per instance. -/
def blockReset (k : Kind) (inst o : Nat) : Option Nat :=
  match k with
  | .dev => if o = DEV.LIFE_STATE.off then some 0x2002 else none
  | .clk => if o = CLK.CLK_STATUS.off then some 0x61
            else if o = CLK.ISLAND_OK0.off then some 0xFFFFFFFF87DF
            else if o = CLK.ISLAND_OK1.off then some 0x7FFF
            else none
  | .pcl => if inst = 0 ∧ o < 0x138 then none else if o < 0xF00 then some 0 else none
  | .pen => if o = PEN.PE_CFG.off then some (if 144 ≤ inst then 4 else 0) else none
  | .hif => if o = HIF.LINK_STATUS.off then some (inst * 2 ^ 16) else none
  | .trv => if o = TRV.BRIDGE_MASK.off + 24 then some 0xFFFFFF000000
            else if o = TRV.TRV_STATUS.off then some (inst * 2 ^ 8 + (if inst = 24 then 2 else 0))
            else none
  | .tmw => if 0x400 ≤ o ∧ (o - 0x400) % 0x80 = 0 then some (inst * 2 ^ 32 + 2 ^ 21) else none
  | .bpm => if BPM.POOL_CFG.off < o ∧ o < BPM.POOL_CFG.off + 128 then some 0
            else if BPM.POOL_EXT.off + 0x20 ≤ o ∧ o < BPM.POOL_EXT.off + 0x200 then some 0
            else if o = BPM.POOL_STATUS.off then some (327680 * 2 ^ 21 + 327680)
            else if BPM.POOL_SET.off < o ∧ o < BPM.POOL_SET.off + 128 then some 0
            else none
  | _ => none

/-- What a register slot holds after reset (R12, R74). Addresses: `page * 0x1000 + offset`. -/
def regReset (a : Nat) : Word :=
  if 2 ^ 48 ≤ a then 0
  else
    match Page.kind (a / 0x1000) with
    | none => 0
    | some (k, inst) =>
      let o := if k = .vfe then a % 0x10000 else a % 0x1000
      if o < 0x100 then
        match titleReset (a / 0x1000) k inst o with
        | some v => BitVec.ofNat 48 v
        | none => match rowAt k o with
          | some r => BitVec.ofNat 48 r.reset
          | none => 0
      else
        match rowAt k o with
        | none => 0
        | some r => match blockReset k inst o with
          | some v => BitVec.ofNat 48 v
          | none => BitVec.ofNat 48 r.reset

end Sys2Proof.Machine
end

