-- ==== Sys2Proof/Config.lean ====
section
/-!
DEFINITION. Sys2Proof/Config.lean: what the spec leaves open, and the functions it names without giving their values here
(cipher, hash and signature standards). Each constant has no body: nothing can evaluate it or prove a value of it, so a
statement about the machine holds for every value of it.
Readings and choices (notes/assumptions): DEDUCED 41; DESIGN CHOICE 35, 39, 82.
-/
namespace Sys2Proof.Config

/-- The free values of a run: the `n`th value the spec leaves open, as 48 bits. -/
opaque freeValue : Nat → BitVec 48

/-- ECDSA P-384 over SHA-384 (R230, R231): the signature (r, s) of the bytes verifies against Garnacy's public key `key`. -/
opaque imageSigned (key : Nat) (bytes : List Byte) (r s : Nat) : Bool

/-- AES-GCM (R276): the ciphertext and 16-byte ICV of `body` under a key of `bits` bits, a 96-bit IV and the additional data. -/
opaque gcmSeal (bits key iv : Nat) (aad body : List Byte) : List Byte

/-- AES-GCM: the plaintext of a ciphertext and ICV, `none` where the ICV fails. -/
opaque gcmOpen (bits key iv : Nat) (aad body : List Byte) : Option (List Byte)

/-- SHA-384 (R656). -/
opaque sha384 : List Byte → List Byte

/-- OTP_DIGEST (R656): the SHA-384 of DEVICE_ID, slots, revocations, minimum SVN, KEY_ENABLED and KEY_DESTROYED, given here as
numbers in that order; how they are laid out for the hash is not given. -/
opaque otpDigest : List Nat → List Byte

/-- The signature, SIG_R and SIG_S, of a report's digest under the device's identity key (R655); its public key, QX and QY (R654). -/
opaque identitySign : List Byte → List Byte
opaque identityPublic : List Byte

/-- The feature flags that host software enables for a logical port in the tie-in exchange (R252): SPRAY in bit 2, INT in
bit 4. The spec names no register for them. -/
opaque tieInOffer : Nat → BitVec 8

/-- How a mailbox response packs what R238 names (THREAD_STATUS): the packing is not given. -/
opaque mailboxWord : Nat → List Nat → BitVec 48

end Sys2Proof.Config
end

