-- ==== Sys2Proof/Machine/State.lean ====
section
/-!
DEFINITION. Sys2Proof/Machine/State.lean: the state of the device as plain data, and the state right after reset.
Registers live in `regs` alone (sparse, by slot address; an unlisted slot holds its reset value, Machine/RegMap.lean);
the tables and records beside it hold what the spec gives the device and no register shows whole.
Readings and choices (notes/assumptions): DEDUCED 80; DESIGN CHOICE 1, 3, 4, 5, 6, 7, 79, 82, 83; PRESUMED 8, 9.
-/
namespace Sys2Proof.Machine

/-- Why the device stops with a fault: the model raises none. Every behaviour the spec gives is a next state. -/
inductive Fault where
  /-- Raised by nothing: it stands for a fault the spec does not give the device. Safe. -/
  | none
deriving DecidableEq, Repr

/-- What leaves the device: the completion of a read, an MSI-X message, a write to host memory. -/
inductive Output where
  /-- A host read by function `fn` completes with `value`. -/
  | readData (fn : Nat) (value : BitVec 64)
  /-- An MSI-X message of function `fn`, table entry `vec` (R55). -/
  | msix (fn vec : Nat)
  /-- A DMA write by function `fn` of `bytes` at host address `addr`. -/
  | hostWrite (fn addr : Nat) (bytes : List Byte)
  /-- A memory read completed as Unsupported Request (R692). -/
  | unsupported (fn : Nat)
  /-- A memory read completed with poisoned data (R593). -/
  | poisoned (fn : Nat)
  /-- A write of `bytes` to the management memory of laser module `n` at `off` (R122). -/
  | moduleWrite (n off : Nat) (bytes : List Byte)
  /-- A fabric-mode CONTROL block with this message leaves on the lanes of `mask` of logical port `lp` (R251). -/
  | control (lp mask : Nat) (msg : List Byte)
  /-- An N425 training frame's STATUS field as lane `l` now sends it (R184). -/
  | training (l status : Nat)
  /-- Logical port `lp` transmits these bytes on the wire (FCS included; in fabric mode from the shim on). -/
  | frame (lp : Nat) (bytes : List Byte)
  /-- A TIE_IN message leaves on lane `l` (R252). -/
  | tieIn (l : Nat) (msg : List Byte)
  /-- The frame just sent on fabric-mode logical port `lp` is ended with an ABORT block (R250). -/
  | abort (lp : Nat)
  /-- PPS_OUT`i` rises and stays high for `width` µs (R554). -/
  | pps (i width : Nat)
deriving DecidableEq, Repr

/-- The hidden part of a page's title block: held bits (R610), event log (R80), a block reset since the last passing
self-test (R611), the block's own degrading condition (R606). -/
structure PageX where
  heldD    : Word := 0
  heldH    : Word := 0
  log      : List Word := []
  wasReset : Bool := false
  degr     : Bool := false
deriving DecidableEq, Repr

/-- An MSI-X table entry and its pending bit (R51, R58). A vector is masked until host software unmasks it. -/
structure MsixEntry where
  addr : BitVec 64 := 0
  data : BitVec 32 := 0
  mask : Bool := true
  pend : Bool := false
deriving DecidableEq, Repr

/-- A function as its configuration space shows it (R48, R49): Memory Space Enable, Bus Master Enable, D3hot, a Function Level
Reset under way, and the Unsupported Request status of AER (R692). -/
structure FnX where
  mse   : Bool := false
  bme   : Bool := false
  d3hot : Bool := false
  flr   : Bool := false
  ur    : Bool := false
deriving DecidableEq, Repr

/-- The host ports: PERST# asserted, for HA and HB. -/
structure Hosts where
  perst   : List Bool := [false, false]
deriving DecidableEq, Repr

/-- The datums and the clock the model's timers count on. `us` is the datum clock's own count in microseconds (R544);
`w`, `a` and `b` are the master values in units of 2^-56 ns (R537 shows 2^-16 ns). -/
structure Time where
  us : Nat := 0
  w  : Nat := 0
  a  : Nat := 0
  b  : Nat := 0
deriving DecidableEq, Repr

/-- Why the model has no meaning for a command. -/
inductive Refusal where
  /-- The command's meaning is not written yet: raised by a refused arm of `exec` alone. Safe. -/
  | notModelled (mnemonic : String)
deriving DecidableEq, Repr

/-- A learn request (R413): table, parcel, key, and the learn field; `move`: of kind MOVE. -/
structure Learn where
  table  : Nat
  parcel : Nat
  key    : Nat
  value  : Nat
  move   : Bool
deriving DecidableEq, Repr

/-- Where a packet in flight stands: awaiting its cluster on receive (R285), the parser (R308), station `k` (R346), resolution
(R359), recording in its restore context (R437), held there (R438), admission (R479), the replication queue (R483), its queue
on chip, in overflow memory or in refill staging (R501), the deparser (R364), its cluster on transmit (R283), transmission
(R243); or gone. -/
inductive Stage where
  | gone
  | secRx
  | parse
  | station (k : Nat)
  | resolve
  | restore
  | held
  | admission
  | repl
  | queued
  | spilled
  | refill
  | deparse
  | secTx
  | transmit
deriving DecidableEq, Repr

/-- A packet in flight: the bytes from the destination address to before the FCS; ingress port and timestamp (datum units);
its integrity tag marked bad, its head released by cut-through before its end was known; the egress port, and the channel that
the egress stations named (R283). Further: the traverse that carries it and its place in the order of that path (R339); the group
or the transmit ring it came from, and whether straight to a queue (R88); the PHV; the learn requests that its lookups raised (R413); its STAKE_ID and whether a trace
record of it was lost (R581, R583); the shim it arrived with and the one it leaves with (R434); the in-band header it carries
(R597); its target, as FWD_KIND and FWD_INDEX, and traffic class; the packet it is a copy of, COPY_KIND and place in
replication order; its queue, buffer chain (number plus one), descriptor, ECN mark, launch time and cut-through; whether it
fills a restore position without a packet (R437), or passed through overflow memory; the bridge mask of the words
it carries (R343). -/
structure Pkt where
  stage   : Stage := .gone
  bytes   : List Byte := []
  lp      : Nat := 0
  ts      : Nat := 0
  tagBad  : Bool := false
  early   : Bool := false
  outLp   : Nat := 0
  sc      : Option Nat := none
  trav     : Nat := 0
  ord      : Nat := 0
  grp      : Nat := 0
  ring     : Option Nat := none
  direct   : Bool := false
  phv      : Tab Word := []
  learns   : List Learn := []
  stake    : Option Nat := none
  stakeBad : Bool := false
  shim     : Option (Nat × Nat) := none
  outShim  : Option (Nat × Nat) := none
  inband   : List Byte := []
  fwdKind  : Nat := 0
  fwdIndex : Nat := 0
  tc       : Nat := 0
  parcel   : Nat := 0
  src      : Nat := 0
  kind     : Nat := 0
  copyIx   : Nat := 0
  queue    : Nat := 0
  chain    : Nat := 0
  desc     : Bool := false
  ecn      : Bool := false
  launch   : Option Int := none
  cut      : Bool := false
  dead     : Bool := false
  viaHbm   : Bool := false
  mask     : Nat := 0
  qCells   : Nat := 0
deriving DecidableEq, Repr

/-- The packet that a transmit ring is reading (R85): begun with SOP and not yet ended; the LP of its first descriptor; whether a read of
its data failed; the bytes read. -/
structure TxPart where
  begun : Bool := false
  lp    : Nat := 0
  bad   : Bool := false
  bytes : List Byte := []
deriving DecidableEq, Repr

/-- An easement (R106, R111). -/
structure Easement where
  valid     : Bool := false
  copyHost  : Bool := false
  mirror    : Bool := false
  replicate : Bool := false
  forward   : Bool := false
  src       : Nat := 0
  dst       : Nat := 0
  count     : Nat := 0
deriving DecidableEq, Repr

/-- A page window of a virtual function (R693): the BAR0 page it names. -/
structure PageWindow where
  valid : Bool := false
  page  : Nat := 0
deriving DecidableEq, Repr

/-- The token buckets of a parcel (R103), in thousandths of a token, as they stood at `at` µs. `fresh` until the first use or
RATE_QUOTA write: full. -/
structure Buckets where
  fresh : Bool := true
  stake : Nat := 0
  copy  : Nat := 0
  upto  : Nat := 0
deriving DecidableEq, Repr

/-- A command to a module's management memory that waits for its bus (R122): write or read, bytes, offset, and the data taken
with the command (R694). -/
structure MemCmd where
  write  : Bool
  len    : Nat
  offset : Nat
  data   : Word
deriving DecidableEq, Repr

/-- Laser bay `n` beside its LMP registers: LM_ACT as driven; what the N768 has read of the module (FAULT_LASER, currents,
power, rated life, DRIVE_ADJ, last CASE_T); the lasers that emit; lasers whose last closure run as the standby passed and whose power at standby
bias is good (R132); time with LM_EN high; the wear record's SEQ and slot; a command waiting for the bus; TAKE bits that wait
for a takeover of the engine (R137). -/
structure Bay where
  act       : Nat := 0
  emitting  : Nat := 0
  faults    : Nat := 0
  iNom      : Nat := 0
  iStby     : Nat := 0
  pNom      : Int := 0
  rated     : Nat := 0
  driveAdj  : Int := 0
  caseT     : Int := 0
  runOk     : Nat := 0
  biasOk    : Nat := 0
  onMs      : Nat := 0
  wearSeq   : Nat := 0
  wearSlotB : Bool := true
  cmd       : Option MemCmd := none
  takeWait  : Nat := 0
deriving DecidableEq, Repr

/-- Why a wavelength moves to the other feed: a failure (R133), a TAKE (R135) or a swap request (R139). -/
inductive MoveWhy where
  | failure | take | swap
deriving DecidableEq, Repr

/-- Wavelength `w` of engine `k`: a move under way to feed B (or A), whether the choice of R117 has been made, and whether
the choice found no ready laser, so that the first to become ready carries it. -/
structure Feed where
  move   : Option (MoveWhy × Bool) := none
  chosen : Bool := false
  waits  : Bool := false
deriving DecidableEq, Repr

/-- A ring record of a calibration slot (R163). -/
structure RingCal where
  valid : Bool := false
  code  : Nat := 0
  tRef  : Int := 0
  slope : Int := 0
  bias  : Nat := 0
  txCal : Nat := 0
  rxCal : Nat := 0
deriving DecidableEq, Repr

/-- The calibration of an engine beside CAL_STATUS: the ring records loaded or last written, whether the engine started under
CAL_NONE with its automatic save still due (R166). -/
structure Cal where
  rings   : List RingCal := List.replicate 32 {}
  autoDue : Bool := false
deriving DecidableEq, Repr

/-- A lane beside its registers: LANE_CTL as last sampled (R180); held by MODE_MISMATCH; a backoff runs, and when it ends (µs, R196); Clause 73 resolved;
consecutive training frames with RX_READY sent and received (R186); the STATUS field sent (R184); the peer offered precoding;
lost, awaiting the end of a lane move (R171); the tie-in exchange (R252, R253): own and peer's SESSION, run of good messages,
the peer named (DEVICE_ID, PE, SUB) and its flags; tests of a SPARED lane (R615); consecutive windows below threshold (R203);
a ring's whole-range sweep and the temperature at which it entered LIMIT (R159); the receiver has adapted since the last reset (R193). -/
structure Lane where
  sampled   : Word := 0
  mismatch  : Bool := false
  backoff   : Bool := false
  backEnd   : Nat := 0
  anDone    : Bool := false
  sent      : Nat := 0
  recv      : Nat := 0
  txStatus  : Nat := 0
  peerPre   : Bool := false
  lost      : Bool := false
  session   : Nat := 0
  peerSess  : Nat := 0
  tieRun    : Nat := 0
  peerId    : Option Nat := none
  peerFlags : Nat := 0
  testOk    : Bool := false
  testFails : Nat := 0
  winLow    : Nat := 0
  sweep     : Bool := false
  limitT    : Int := 0
  adapts    : Bool := false
deriving DecidableEq, Repr

/-- A lane move or restore that this end has requested (R255). -/
structure MoveReq where
  seq     : Nat
  mask    : Nat
  lost    : Nat
  restore : Bool
deriving DecidableEq, Repr

/-- A logical port beside its registers: the outstanding request, the next sequence number, how its lane set came to be
(SPARE_STATUS.WIDTH), classes in a pause storm (R264), the time it last entered UP or REDUCED (R427), and the pause time each class
was last given, in quanta (R261). -/
structure Port where
  move    : Option MoveReq := none
  seq     : Nat := 0
  width   : Nat := 0
  storm   : Nat := 0
  upSince : Nat := 0
  quanta  : List Nat := List.replicate 8 0
deriving DecidableEq, Repr

/-- Where a thread's address lies: two-level micro code or vertical code (R222). -/
inductive CodeSpace where
  | micro
  | vertical
deriving DecidableEq, Repr

/-- What a thread waits for (R221): condition and level, and whether a timeout runs. -/
structure Waiting where
  cond    : Nat
  pol     : Bool
  limited : Bool
deriving DecidableEq, Repr

/-- A sequencer thread (R212): registers G0–G15, flags, call stack (latest first), trap shadow, the prefix of EXT, the
TIMED_OUT condition, its wait, whether it counts as in a handler by a vertical vector and has trapped there (R225), whether it
has restarted or is restarting (R227), and when its watchdog was last kicked (R226). -/
structure Thread where
  g        : List (BitVec 24) := List.replicate 16 0
  z        : Bool := false
  n        : Bool := false
  c        : Bool := false
  space    : CodeSpace := .vertical
  pc       : Nat := 0
  stack    : List (CodeSpace × Nat) := []
  shSpace  : CodeSpace := .vertical
  shPc     : Nat := 0
  shDepth  : Nat := 0
  shFlags  : Nat := 0
  ext      : Option Nat := none
  timedOut : Bool := false
  wait     : Option Waiting := none
  handler  : Bool := false
  twice    : Bool := false
  running  : Bool := false
  starting : Bool := false
  kicked   : Nat := 0
deriving DecidableEq, Repr

/-- A sequencer image (R230) as its header and body give it: version, security version, key, patch words, nano-words, match
words, entry points, and the bytes that its signature covers. -/
structure Image where
  version : Nat := 0
  svn     : Nat := 0
  key     : Nat := 0
  patch   : List (BitVec 24) := []
  nano    : List (BitVec 144) := []
  match_  : List (BitVec 32) := []
  olane   : Nat := 0
  ogroup  : Nat := 0
  elane   : Nat := 0
  egroup  : Nat := 0
  signed  : List Byte := []
deriving DecidableEq, Repr

/-- An entry of a port engine's timestamp FIFO (R270); the time in datum units. -/
structure TsEntry where
  lp     : Nat
  cookie : Nat
  datum  : Nat
  time   : Nat
deriving DecidableEq, Repr

/-- A secure channel (SC_DATA0–4). -/
structure Chan where
  sci        : Nat := 0
  lp         : Nat := 0
  parcel     : Nat := 0
  tx         : Bool := false
  suite      : Nat := 0
  valid      : Bool := false
  replay     : Bool := false
  encrypt    : Bool := false
  includeSci : Bool := false
  confOffset : Nat := 0
  suspended  : Bool := false
  window     : Nat := 0
  activeAn   : Nat := 0
  nextAn     : Nat := 0
  nextValid  : Bool := false
  switchPn   : Nat := 0
  notifyPn   : Nat := 0
deriving DecidableEq, Repr

/-- A secure association: IN_USE, NEXT_PN, its key material (R298), and which PN events it has queued (R287 to R289). -/
structure Assoc where
  inUse     : Bool := false
  nextPn    : Nat := 0
  key       : Nat := 0
  salt      : Nat := 0
  ssci      : Nat := 0
  notified  : Bool := false
  exhausted : Bool := false
  noNext    : Bool := false
deriving DecidableEq, Repr

/-- The key staging registers (R298): six key words, two salt words and the SSCI. -/
structure Staging where
  key  : Nat := 0
  salt : Nat := 0
  ssci : Nat := 0
deriving DecidableEq, Repr

/-- A table entry (R392). An LPM entry's prefix is its key, of `plen` bits; a ternary entry's value is its key. -/
structure TEntry where
  valid   : Bool := false
  parcel  : Nat := 0
  prog    : Nat := 0
  se      : Option (Nat × Nat) := none
  static  : Bool := false
  learned : Bool := false
  hit     : Bool := false
  age     : Nat := 0
  plen    : Nat := 0
  key     : Nat := 0
  mask    : Nat := 0
  act     : Nat := 0
deriving DecidableEq, Repr

/-- A line of four HBM bodies (R402, R403): body address / 64, bodies, HIT bits, dirty, and when it was last used. -/
structure Line where
  valid  : Bool := false
  addr   : Nat := 0
  bodies : List Nat := []
  hits   : Nat := 0
  dirty  : Bool := false
  used   : Nat := 0
deriving DecidableEq, Repr

/-- A notification record (R417): kind, table, parcel, index, key, action data. -/
structure Note where
  kind   : Nat
  table  : Nat
  parcel : Nat
  index  : Nat
  key    : Nat
  act    : Nat
deriving DecidableEq, Repr

/-- An entry of a stateful element (R355 to R357): the configured words of a METER; its buckets, in millionths of a byte or
packet, as they stood at `upto` µs (`fresh`: full); the counts of a COUNTER with their wrap bits; the value of a CELL. -/
structure SeEntry where
  mode  : Nat := 0
  cir   : Nat := 0
  pir   : Nat := 0
  cbs   : Nat := 0
  ebs   : Nat := 0
  fresh : Bool := true
  tc    : Nat := 0
  te    : Nat := 0
  upto  : Nat := 0
  pkts  : Nat := 0
  byts  : Nat := 0
  wrapP : Bool := false
  wrapB : Bool := false
  cell  : Nat := 0
deriving DecidableEq, Repr

/-- A restore context (R438): synchronised; NEXT; the positions filled, as sequence number with the packet held or none; the
time (µs) since which it waits for NEXT. -/
structure Restore where
  synced : Bool := false
  next   : Nat := 0
  filled : List (Nat × Option Nat) := []
  since  : Option Nat := none
deriving DecidableEq, Repr

/-- A pool as carved (R452, R453): class, sharing, fallback, and the extent in each island as first cell and buffers. -/
structure Pool where
  cls   : Nat
  share : Bool
  fb    : Option Nat
  ext   : List (Nat × Nat)
deriving DecidableEq, Repr

/-- The carve in use: pools, pool sets (start pools of the four bands) and SEC_POOL; as R454 gives it after reset. -/
structure Carve where
  pools : List (Option Pool) :=
    some ⟨1, true, none, [(0, 81920), (327680, 81920), (655360, 81920), (983040, 81920)]⟩ :: List.replicate 15 none
  sets  : List (Option (List Nat)) := some [0, 0, 0, 0] :: List.replicate 15 none
  sec   : Nat := 0
deriving DecidableEq, Repr

/-- A chain (R461): its pool, the first cells of its buffers, its cells, the parcel charged (none before admission), the packets
and host copies that hold it, whether it has a deferred-free entry (R464) or found no room for one, and the ingress port and class that its cells count
in (R490). -/
structure Chain where
  pool   : Nat := 0
  bufs   : List Nat := []
  cells  : Nat := 0
  parcel : Option Nat := none
  refs   : List Nat := []
  dma    : Nat := 0
  entry  : Bool := false
  alone  : Bool := false
  cls    : Option (Nat × Nat) := none
deriving DecidableEq, Repr

/-- A copy on its way to a host receive ring (R85, R361): ring (port × 1,024 + ring), reason, bytes, ingress port, parcel, class,
timestamp, the packet it was made from and the chain it holds. -/
structure HostCopy where
  ring   : Nat
  reason : Nat
  bytes  : List Byte
  lp     : Nat
  parcel : Nat
  tc     : Nat
  ts     : Nat
  src    : Nat
  chain  : Nat
deriving DecidableEq, Repr

/-- What the scheduler and the shaper hold of a queue or node (R487, R488): deficit in bytes; tokens in bits as they stood at
`upto` µs; full until first used. -/
structure Sched where
  deficit : Nat := 0
  fresh   : Bool := true
  tokens  : Int := 0
  upto    : Nat := 0
deriving DecidableEq, Repr

/-- A queue (R476): its frames that are ready to leave, on chip and in refill staging, oldest first, and the cells of those on chip; SPILLING; its chunks, oldest first, and whether the last is
open (R517); the frames left of each chunk in refill staging (R501); a refill requested; its EPOCH and the next chunk sequence
number (R516). -/
structure Queue where
  ready    : List Nat := []
  cells    : Nat := 0
  spilling : Bool := false
  chunks   : List Nat := []
  opened   : Bool := false
  refill   : List (List Nat) := []
  asked    : Bool := false
  epoch    : Nat := 0
  cseq     : Nat := 0
deriving DecidableEq, Repr

/-- A chunk (R516, R517): queue, EPOCH, CSEQ, payload bytes used, parcel charged, packets whose records end in it, the packet whose
record runs on into the next chunk and whether that record begins here, pseudo-channel, written to HBM, and when its first record came
(µs). -/
structure Chunk where
  queue   : Nat := 0
  epoch   : Nat := 0
  cseq    : Nat := 0
  used    : Nat := 0
  parcel  : Nat := 0
  ends    : List Nat := []
  runs    : Option Nat := none
  begins  : Bool := false
  pc      : Nat := 0
  written : Bool := false
  since   : Nat := 0
deriving DecidableEq, Repr

/-- A change to a datum that waits for its instant (R544): a set of W, a step or a set of A or B (`b`: of B), a rate, an
adjustment, W's rate by slewing. -/
inductive DatumChange where
  | set    (v : Nat)
  | step   (b : Bool) (offset : Int)
  | put    (b : Bool) (v : Nat)
  | rate   (b : Bool) (r : Int)
  | adjust (b : Bool) (amount : Int) (ppm : Nat)
  | slew   (inc : Int)
deriving DecidableEq, Repr

/-- What the datums hold beside their values and registers (17_datum.md): rates of A and B in 2^-40; the amount each has still to
absorb, in 2^-56 ns, and at how many ppm; what W gains on nominal in a microsecond, in 2^-56 ns; the changes that wait, each with
whether the datum clock's count (true) or W gives its instant, in µs; whether the one set of W is used; since when |φ| has been
within LOCK_NS (µs); per 1PPS input, its last edge (µs) and how many times it has been found missing since; per 1PPS output, when
it last rose (µs plus one). -/
structure Datums where
  rateA   : Int := 0
  rateB   : Int := 0
  leftA   : Int := 0
  leftB   : Int := 0
  ppmA    : Nat := 0
  ppmB    : Nat := 0
  gain    : Int := 0
  changes : List (Bool × Nat × DatumChange) := []
  used    : Bool := false
  locked  : Option Nat := none
  edges   : List (Nat × Nat) := [(0, 0), (0, 0)]
  rose    : List Nat := [0, 0]
deriving DecidableEq, Repr

/-- A flow record (R575, R579): the 40 key bytes as one number, counts, timestamps in datum units, flags. -/
structure Flow where
  valid   : Bool := false
  key     : Nat := 0
  pkts    : Nat := 0
  byts    : Nat := 0
  drops   : Nat := 0
  first   : Nat := 0
  last    : Nat := 0
  flags   : Nat := 0
  tc      : Nat := 0
  lastDrop : Nat := 0xFF
  lastLp  : Nat := 0
  staked  : Nat := 0
  travs   : Nat := 0
  wrapped : Bool := false
deriving DecidableEq, Repr

/-- Bandwidth meter of one direction of a logical port (R565 to R567): bytes of the open window, LAST, PEAK, VALID, whether
the open window began after the restart, the time (µs, plus one) at which a window last closed, and PEAK before that. -/
structure Meter where
  now   : Nat := 0
  last  : Nat := 0
  peak  : Nat := 0
  valid : Bool := false
  whole : Bool := false
  shut  : Nat := 0
  prev  : Nat := 0
deriving DecidableEq, Repr

/-- A dump under way (R589 to R593): its SEQ, the instant in datum units, W_VALID, SECTIONS, the latched slots that are not zero
(by section × 2^18 + slot index), the rings that take it, or HBM. -/
structure Dump where
  seq      : Nat
  time     : Nat
  wValid   : Bool
  sections : Nat
  latched  : Tab Nat
  rings    : List Nat
  hbm      : Bool
deriving DecidableEq, Repr

/-- The OTP beside DEVICE_ID, revocations and minimum SVN, which their registers hold (R638): the eight transition slots, as
INTENT and COMMIT words (R649), KEY_ENABLED and KEY_DESTROYED (R650). The spec gives no device's contents: a SEALED device. -/
structure Otp where
  slots        : List (Nat × Nat) :=
    [(0x4C010000CBE6D44B, 0xFFFFFFFFFFFFFFFF), (0x4C120000516A69B2, 0xFFFFFFFFFFFFFFFF), (0, 0), (0, 0), (0, 0), (0, 0), (0, 0),
     (0, 0)]
  keyEnabled   : Bool := true
  keyDestroyed : Bool := false
deriving DecidableEq, Repr

/-- The always-on domain beside its registers: the device is in power-on reset (R628); PWRGOOD as driven; THERMTRIP_N driven low,
and whether that reset began with a trip (R680, R681); when the power-up hold ends (R641) and when a domain was last switched on
(µs plus one); switch-ons and switch-offs that wait, as domain and on (R631); the domain being switched on and since when; whether
the bring-up of the domains has started and the image load after it is still due (R642); islands whose clock has stopped (R635);
when an armed life-cycle request lapses (R651); the flash command under way, as program, device, address and bytes (R647); the
report, the reports since power-on reset and the one being signed (R655); the instruction in the register of the test access port
(R685); the sensors that were failed at the last sample (R679). -/
structure Aon where
  por      : Bool := false
  pwrgood  : Bool := true
  tripped  : Bool := false
  byTrip   : Bool := false
  holdEnd  : Nat := 1000000
  lastOn   : Nat := 0
  queue    : List (Nat × Bool) := []
  run      : Option (Nat × Nat) := none
  started  : Bool := false
  loadDue  : Bool := true
  lostClk  : List Nat := []
  armed    : Option Nat := none
  flashOp  : Option (Bool × Nat × Nat × List Byte) := none
  report   : List Byte := []
  reports  : Nat := 0
  pending  : Option (List Byte) := none
  tap      : Nat := 0x01
  failed   : List Nat := []
deriving DecidableEq, Repr

/-- The state of the device. -/
structure State where
  /-- Register slots, by address: BAR0 offset; virtual functions' own BARs from 0x1000_0000; slots behind bulk windows from
  2^48. -/
  regs    : Tab Word := []
  /-- Hidden part of the title blocks, by page number. -/
  pages   : Tab PageX := []
  /-- Wrap bits of counter slots, by slot address (R561). -/
  wraps   : Tab Bool := []
  /-- MSI-X tables, by function × 2,048 + vector. -/
  msix    : Tab MsixEntry := []
  /-- Functions, by identifier (R50). -/
  fns     : Tab FnX := []
  hosts   : Hosts := {}
  time    : Time := {}
  /-- The model's own field: what has left the device, the latest first. -/
  out     : List Output := []
  /-- The model's own field: free values drawn so far. -/
  draws   : Nat := 0
  /-- The commands that wait, first in, first out. -/
  pending : List Instr := []
  /-- Packets in flight, by a number that the model gives each. -/
  pkts       : Tab Pkt := []
  /-- The model's own field: the number of the next packet. -/
  nextPkt    : Nat := 0
  /-- Rings, by 1,024 × port + ring: a message of theirs is outstanding (R90); the packet whose descriptors a transmit ring has begun to
  read (R85). DMQ pages whose ERR_RING holds a slot that has not been read. -/
  ringMsg    : Tab Bool := []
  txParts    : Tab TxPart := []
  errHeld    : Tab Bool := []
  /-- Quota profile limits, by profile × 16 + class (R102). -/
  profiles   : Tab Nat := []
  /-- Parcel bindings of virtual functions, twelve slots each (R96). -/
  bindings   : Tab (List Nat) := []
  /-- Easements 0 to 4,095 (R111). -/
  easements  : Tab Easement := []
  /-- Page windows, by 16 × function + window (R693). -/
  windows    : Tab PageWindow := []
  /-- Token buckets of parcels (R103). -/
  buckets    : Tab Buckets := []
  /-- Entries of a parcel in a quota class in a traverse, by (traverse × 16 + class) × 4,096 + parcel (R102). -/
  entryCount : Tab Nat := []
  /-- Laser bays 0 to 35. -/
  bays       : Tab Bay := []
  /-- Wavelengths of the engines, by 4 × engine + wavelength. -/
  feeds      : Tab Feed := []
  /-- Ring calibration of the engines. -/
  cals       : Tab Cal := []
  /-- The flash devices FA and FB, by device × 2^32 + address; an unlisted byte is erased. -/
  flash      : Tab Byte := []
  /-- Lanes 0 to 767 (Page.lane). -/
  lanes      : Tab Lane := []
  /-- Logical ports, by number (R25). -/
  ports      : Tab Port := []
  /-- Lanes that wait for a start slot, with the time the wait began, in the order of R200. -/
  slotWaits  : List (Nat × Nat) := []
  /-- Times (µs) of the entries into TRAIN that still hold a start slot (R200). -/
  slotsUsed  : List Nat := []
  /-- Sequencer threads, by 16 × sequencer + thread. -/
  threads    : Tab Thread := []
  /-- Event flags EF0–EF15 of the sequencers (R212). -/
  eventFlags : Tab Nat := []
  /-- The two banks of the staging SRAM (R232), and the image that the sequencers' stores hold. -/
  bank0      : Image := {}
  bank1      : Image := {}
  stores     : Image := {}
  /-- When each sequencer's all-wait detector last fired (R229), in µs plus one; 0: never. -/
  stalledAt  : Tab Nat := []
  /-- Copies that an image load has still to try, as device × 2 + slot (R232). -/
  loadQueue  : List Nat := []
  /-- Lane registers that vertical code writes by number (R222), by 256 × lane thread + number. -/
  laneRegs   : Tab (BitVec 24) := []
  /-- Timestamp FIFOs of the port engines, the oldest entry first (R270). -/
  tsFifo     : Tab (List TsEntry) := []
  /-- Secure channels and associations (R280). -/
  channels   : Tab Chan := []
  assocs     : Tab Assoc := []
  staging    : Staging := {}
  /-- PN_EVENT FIFO, the oldest first: kind and association (R287 to R289). -/
  pnEvents   : List (Nat × Nat) := []
  /-- Associations that the rekey agent has still to retire (R290). -/
  retire     : List Nat := []
  /-- Entries that host software reads and writes through indirect registers, as their data words without trailing zeros, by
  space, instance and index. -/
  ents       : Tab (List Word) := []
  /-- Table entries, by (traverse × 1,024 + table) × 2^29 + index (R389). -/
  tables     : Tab TEntry := []
  /-- The HBM table region: bodies and HIT bits (R402), by body number. -/
  hbmBodies  : Tab Nat := []
  hbmHits    : Tab Bool := []
  /-- Table cache lines, by traverse × 16,384 + 16 × set + way (R403). -/
  cache      : Tab Line := []
  /-- Line addresses whose fill is outstanding, by traverse (R403), oldest first. -/
  fills      : Tab (List Nat) := []
  /-- Dirty lines on their way to HBM, with the traverse that evicted them, oldest first (R404). -/
  writeBacks : List (Nat × Line) := []
  /-- Learn queues and notification FIFOs, by traverse, oldest first (R414, R417). -/
  learnQ     : Tab (List Learn) := []
  notes      : Tab (List Note) := []
  /-- Spare SRAM rows in use, by traverse × 160 + block (R421). -/
  rowsUsed   : Tab Nat := []
  /-- Entries of stateful elements, by ((traverse × 20 + station) × 8 + element) × 2^21 + index. -/
  seEnts     : Tab SeEntry := []
  /-- Broadcast table commands that have not completed (R410): issuing traverse, status, whether a traverse was skipped. -/
  tbcWait    : List (Nat × Nat × Bool) := []
  /-- LFSRs of the stake logic, by traverse: an unlisted one stands at its SEED (R580); stake counts (R581). -/
  lfsrs      : Tab Nat := []
  stakes     : Tab Nat := []
  /-- Credits of spray members, offset by 2^20, by group × 16,384 + member entry; an unlisted credit is 0 (R334). -/
  credits    : Tab Nat := []
  /-- Restore contexts (R438). -/
  restores   : Tab Restore := []
  /-- What each spray member last contributed: its effective weight plus one while present (R427, R428). -/
  present    : Tab Nat := []
  carve      : Carve := {}
  /-- Allocated buffers, by first cell (R467). -/
  alloc      : Tab Bool := []
  /-- Free buffers that the audit keeps from allocation because a holder still has them (R470). -/
  refFree    : List Nat := []
  /-- Rows retired; rows awaiting or under test (R472). -/
  retired    : List Nat := []
  quarantine : List Nat := []
  /-- Chains, by number, and the number of the next one. -/
  chains     : Tab Chain := []
  nextChain  : Nat := 0
  /-- Pool sets of parcels (R455). -/
  psets      : Tab Nat := []
  /-- The island from which each pool draws next (R456). -/
  islandTurn : Tab Nat := []
  /-- Copies to hosts that are not yet delivered, oldest first. -/
  hostCopies : List HostCopy := []
  /-- When a row last had a corrected error, in µs plus one (R472). -/
  rowFixed   : Tab Nat := []
  queues     : Tab Queue := []
  /-- Scheduling state of nodes, and of queues from 65,536 on. -/
  sched      : Tab Sched := []
  /-- Whose turn it is among the members of equal PRIO of a port, and from 2^20 of a node: member plus one, by 8 × parent + PRIO. -/
  turns      : Tab Nat := []
  /-- Packets that await replication, oldest first (R483). -/
  replQ      : List Nat := []
  /-- When the hold of a logical port ends, in µs plus one (R502). -/
  holdEnds   : Tab Nat := []
  /-- Chunks of overflow memory and its write staging (R516), by a number that the model gives each, and the next number. -/
  hbmChunks  : Tab Chunk := []
  nextChunk  : Nat := 0
  /-- The pseudo-channel whose turn it is for the next chunk (R517). -/
  pcTurn     : Nat := 0
  /-- The layout in use: TBL_UNITS, FLOW_UNITS, DUMP_UNITS (R513, R514). -/
  tblUnits   : Nat := 0
  flowUnits  : Nat := 0
  dumpUnits  : Nat := 0
  /-- The reservations in use (R528), and whether relocation is under way, by stack (R534). -/
  reserved   : List Nat := [0, 0, 0, 0, 0]
  relocating : List Bool := [false, false, false, false]
  /-- Bytes of the flow and dump areas that the bulk window or a dump has written, by device address (R515). -/
  hbmBytes   : Tab Byte := []
  /-- Per-bank refreshes postponed, by pseudo-channel × 256 + bank (R523). -/
  postponed  : Tab Nat := []
  /-- Whether each class of OVF_WR was cut (R530): chunks the write staging may still take at the effective rate, as they stood
  at a time in µs. -/
  wrTokens   : Nat × Nat := (0, 0)
  datums     : Datums := {}
  /-- The flow record cache, by 16 × set + way (R576); the flow area, by 8 × bucket + slot; evicted records that await write-back
  (R577). -/
  flows      : Tab Flow := []
  flowStore  : Tab Flow := []
  flowBack   : List Flow := []
  /-- Trace FIFOs, by traverse, oldest first (R583). -/
  traces     : Tab (List (List Byte)) := []
  /-- Flow and in-band records that await the export engine, with their stream, oldest first (R585). -/
  exports    : List (Nat × List Byte) := []
  /-- Meters, by 2 × logical port, transmit one higher (R564). -/
  meters     : Tab Meter := []
  /-- The counter slot of a survey counter in its owner's block, plus one (R572). -/
  surveySlot : Tab Nat := []
  dump       : Option Dump := none
  /-- Export rings: the PHASE of the next entry, and whether the device has disabled the ring (R586, R588). -/
  xphase     : List Bool := [true, true, true, true, true, true, true, true]
  xcut       : List Bool := [false, false, false, false, false, false, false, false]
  /-- When dumps were enabled, in µs, and when one last fell due, in µs plus one (R589). -/
  dmpSince   : Nat := 0
  dumpAt     : Nat := 0
  otp        : Otp := {}
  aon        : Aon := {}
  /-- Temperatures in 1/256 °C, whatever their registers can show: sensors, by number (R679; none: not available), and optical engines
  (R161). -/
  sensorT    : Tab (Option Int) := []
  engineT    : Tab Int := []
deriving DecidableEq, Repr

/-! What an unlisted key of each table reads as. -/
namespace dflt
def page : PageX := {}
def msix : MsixEntry := {}
def fn : FnX := {}
def pkt : Pkt := {}
def txPart : TxPart := {}
def profile : Nat := 0xFFFFFFFF
def binding : List Nat := List.replicate 12 0
def easement : Easement := {}
def window : PageWindow := {}
def bucket : Buckets := {}
def bay : Bay := {}
def feed : Feed := {}
def cal : Cal := {}
def flash : Byte := 0xFF
def lane : Lane := {}
def port : Port := {}
def thread : Thread := {}
def chan : Chan := {}
def assoc : Assoc := {}
def entry : TEntry := {}
def line : Line := {}
def seEntry : SeEntry := {}
def restore : Restore := {}
def chain : Chain := {}
def sched : Sched := {}
def queue : Queue := {}
def chunk : Chunk := {}
def flow : Flow := {}
def meter : Meter := {}
def xphase : List Bool := [true, true, true, true, true, true, true, true]
def xcut : List Bool := [false, false, false, false, false, false, false, false]
def sensorT : Option Int := none
def engineT : Int := 0
end dflt

/-- The device right after power-on reset: every register at its reset value and every table empty. -/
def State.reset : State := {}

end Sys2Proof.Machine
end

