-- ==== Sys2Proof/Machine/Ops.lean ====
section
/-!
DEFINITION. Sys2Proof/Machine/Ops.lean: the named operations every meaning is written with: register slots and fields,
counters and their wrap bits, events, logs and messages, block states, the judgement of host accesses, and the datum time.
Readings and choices (notes/assumptions): DEDUCED 13, 15, 18, 19, 20, 54, 68, 77; DESIGN CHOICE 82.
-/
namespace Sys2Proof.Machine

/-- What a command answers. -/
abbrev Result := Host.Outcome State Fault Refusal

/-! ## Bit fields -/

/-- Bits `lo` to `lo + w − 1` of a word, as a number. -/
def Word.bits (v : Word) (lo w : Nat) : Nat := v.toNat / 2 ^ lo % 2 ^ w

/-- The word with bits `lo` to `lo + w − 1` replaced by the low `w` bits of `x`. -/
def Word.setBits (v : Word) (lo w x : Nat) : Word :=
  BitVec.ofNat 48 (v.toNat - Word.bits v lo w * 2 ^ lo + x % 2 ^ w * 2 ^ lo)

/-- Bit `i` of a word. -/
def Word.bit (v : Word) (i : Nat) : Bool := v.toNat / 2 ^ i % 2 == 1

/-- The word with bit `i` made `b`. -/
def Word.setBit (v : Word) (i : Nat) (b : Bool) : Word := Word.setBits v i 1 (if b then 1 else 0)

/-- A number's bit. -/
def Nat.bitAt (v i : Nat) : Bool := v / 2 ^ i % 2 == 1

/-- The low `w` bits of `v` read as a signed number. -/
def signed (w v : Nat) : Int :=
  if v % 2 ^ w < 2 ^ (w - 1) then (v % 2 ^ w : Nat) else (v % 2 ^ w : Nat) - (2 ^ w : Nat)

/-- A signed number as `w` bits. -/
def unsigned (w : Nat) (i : Int) : Nat := (i % ((2 ^ w : Nat) : Int)).toNat

/-! ## Register slots -/

/-- Address of the `i`th instance of a field's register in page `p`. -/
def slotAddr (p : Page) (f : Fld) (i : Nat) : Nat := p * 0x1000 + f.off + i * f.st

/-- The 48 bits of the slot at address `a` (R59): its reset value until something writes it. -/
def State.slot (s : State) (a : Nat) : Word := s.regs.get a (regReset a)

/-- The slot at address `a` made `v`. -/
def State.setSlot (s : State) (a : Nat) (v : Word) : State := { s with regs := s.regs.set a v (regReset a) }

/-- A register of page `p` (instance `i`). -/
def State.reg (s : State) (p : Page) (f : Fld) (i : Nat := 0) : Word := s.slot (slotAddr p f i)

/-- The register of page `p` (instance `i`) made `v`. -/
def State.setReg (s : State) (p : Page) (f : Fld) (v : Word) (i : Nat := 0) : State := s.setSlot (slotAddr p f i) v

/-- A field of page `p` (instance `i` of its register). -/
def State.fld (s : State) (p : Page) (f : Fld) (i : Nat := 0) : Nat := Word.bits (s.reg p f i) f.lo f.w

/-- The field made the low bits of `x`. -/
def State.setFld (s : State) (p : Page) (f : Fld) (x : Nat) (i : Nat := 0) : State :=
  s.setReg p f (Word.setBits (s.reg p f i) f.lo f.w x) i

/-- A one-bit field. -/
def State.flag (s : State) (p : Page) (f : Fld) (i : Nat := 0) : Bool := s.fld p f i == 1

/-- A one-bit field made `b`. -/
def State.setFlag (s : State) (p : Page) (f : Fld) (b : Bool) (i : Nat := 0) : State := s.setFld p f (if b then 1 else 0) i

/-- Every slot whose address satisfies `q` goes back to its reset value. -/
def State.clearSlots (s : State) (q : Nat → Bool) : State := { s with regs := s.regs.clear q }

/-! ## Hidden records of pages -/

/-- The part of a page's title block that no register shows whole (held bits, log). -/
def State.pg (s : State) (p : Page) : PageX := s.pages.get p dflt.page

def State.setPg (s : State) (p : Page) (x : PageX) : State := { s with pages := s.pages.set p x dflt.page }

/-- An output leaves the device. -/
def State.emit (s : State) (o : Output) : State := { s with out := o :: s.out }

/-! ## Datum time (R537, R538) -/

/-- Datum W is in service (R539). -/
def State.wOn (s : State) : Bool :=
  (s.fld Page.dtm TB.PAGE_STATE_STATE == 3 || s.fld Page.dtm TB.PAGE_STATE_STATE == 4) && s.flag Page.dtm DTM.DTM_STATUS_W_SET

/-- One nanosecond in the units a datum is held in. -/
def nsUnits : Nat := 2 ^ 56

/-- The nanoseconds of W, zero while W is out of service (R539). -/
def State.wNs (s : State) : Nat := if s.wOn then s.time.w / nsUnits else 0

/-- The low 32 bits of W as a nanosecond count (R538). -/
def State.stamp32 (s : State) : Nat := s.wNs % 2 ^ 32

/-- A datum value's seconds, nanoseconds and fraction (R537). -/
def datumSec (t : Nat) : Nat := t / nsUnits / 1000000000
def datumNs (t : Nat) : Nat := t / nsUnits % 1000000000
def datumFrac (t : Nat) : Nat := t / 2 ^ 40 % 2 ^ 16

/-- A datum value from its parts. -/
def datumOf (sec ns frac : Nat) : Nat := (sec * 1000000000 + ns) * nsUnits + frac * 2 ^ 40

/-! ## Messages (R55 to R58) -/

/-- MSI-X entry `vec` of function `fn`. -/
def msixKey (fn vec : Nat) : Nat := fn * 2048 + vec

/-- Port `h` is up: its link is in L0 and its PERST# is not asserted. -/
def State.portUp (s : State) (h : Nat) : Bool :=
  s.flag (Page.hif h) HIF.LINK_STATUS_LINK_UP && !s.hosts.perst.getD h false

/-- A function's host-visible state. -/
def State.fn (s : State) (f : Nat) : FnX := s.fns.get f dflt.fn

def State.setFn (s : State) (f : Nat) (x : FnX) : State := { s with fns := s.fns.set f x dflt.fn }

/-- The message leaves, or becomes pending where its vector is masked; it is discarded while the port is down or in reset,
the function in D3hot or Bus Master Enable clear (R58). -/
def State.sendMsix (s : State) (fn vec : Nat) : State :=
  if s.portUp (fn / 128) && !(s.fn fn).d3hot && (s.fn fn).bme && !(s.fn fn).flr then
    let e := s.msix.get (msixKey fn vec) dflt.msix
    if e.mask then { s with msix := s.msix.set (msixKey fn vec) { e with pend := true } dflt.msix }
    else s.emit (.msix fn vec)
  else s

/-- Size of a function's MSI-X table (R55). -/
def msixSize (fn : Nat) : Nat := if fn % 128 = 0 then 2048 else 16

/-! ## Power of pages (R31) -/

/-- Switched domain `d` is at power good. -/
def State.domainUp (s : State) (d : Nat) : Bool := Nat.bitAt (s.fld Page.pwr PWR.PWR_STATUS_UP) d

/-- The page's block has power (R31). -/
def State.powered (s : State) (p : Page) : Bool :=
  match Page.domain p with
  | some d => s.domainUp d
  | none => true

/-- The page of a slot address: a virtual function's command rings belong to its event page. -/
def pageOfAddr (a : Nat) : Page := if a < 0x10000000 then a / 0x1000 else a / 0x10000 * 16

/-- The slot at address `a` is the PAGE_STATE of a page that is HALTED and whose domain is on. -/
def State.haltedSlot (s : State) (a : Nat) : Bool :=
  let p := pageOfAddr a
  decide (a < 2 ^ 48) && a == slotAddr p TB.PAGE_STATE 0 && (Page.kind p).isSome && s.fld p TB.PAGE_STATE_STATE == 5 && s.powered p

/-- FAULT_N is driven low (R683): a page whose domain is on is HALTED. -/
def State.faulting (s : State) : Bool := s.regs.any (fun e => s.haltedSlot e.1)

/-- FAULT_STATUS shows the pin, which follows every change of a page's state (R683). -/
def State.faultPin (s : State) : State := s.setFlag Page.thm THM.FAULT_STATUS_ASSERTED s.faulting

/-- A command's next state. -/
def answer (s : State) : Result := .next s.faultPin

/-! ## Events (R56, R57, R78 to R80, R601 to R610) -/

/-- Severity in force of source `src` of page `p` (R601). -/
def State.severity (s : State) (p : Page) (src : Nat) : Nat :=
  if src < 24 then Word.bits (s.reg p TB.EVENT_SEVERITY_LO) (2 * src) 2
  else Word.bits (s.reg p TB.EVENT_SEVERITY_HI) (2 * (src - 24)) 2

/-- EVENT_STATUS[`src`]. -/
def State.raised (s : State) (p : Page) (src : Nat) : Bool := Word.bit (s.reg p TB.EVENT_STATUS) src

/-- An event record, in the format of EVENT_FIRST. -/
def eventRecord (src sev time : Nat) : Word := BitVec.ofNat 48 (2 ^ 47 + src * 2 ^ 40 + sev * 2 ^ 38 + time)

/-- VF_SUMMARY of the port follows whether a virtual function's EVENT_STATUS is zero. -/
def State.vfSummary (s : State) (p : Page) : State :=
  if p < 0x10000 ∨ 0x11000 ≤ p then s
  else
    let fn := (p - 0x10000) / 16
    let j := fn % 128 - 1
    let h := Page.hif (fn / 128)
    s.setReg h HIF.VF_SUMMARY (Word.setBit (s.reg h HIF.VF_SUMMARY (j / 48)) (j % 48) (s.reg p TB.EVENT_STATUS != 0)) (j / 48)

/-- PAGE_STATE.STATE becomes `st` (R606); a page that enters HALTED has its ENABLE cleared (R608). -/
def State.setBlockState (s : State) (p : Page) (st : Nat) : State :=
  let s1 := s.setFld p TB.PAGE_STATE_STATE st
  if st = 5 then s1.setFlag p TB.PAGE_STATE_ENABLE false else s1

/-- The state that ENABLE and the held DEGRADE bits give a block in service or in READY (R607). -/
def State.serviceState (s : State) (p : Page) : Nat :=
  if s.flag p TB.PAGE_STATE_ENABLE then (if (s.pg p).heldD != 0 || (s.pg p).degr then 4 else 3) else 2

/-- The severity's action on the block (R604, R607, R610): the bit becomes held; DEGRADE moves ACTIVE to DEGRADED; HALT
moves any running state to HALTED. -/
def State.actSeverity (s : State) (p : Page) (src sev : Nat) : State :=
  let x := s.pg p
  let st := s.fld p TB.PAGE_STATE_STATE
  if sev = 2 then
    let s1 := s.setPg p { x with heldD := Word.setBit x.heldD src true }
    if st = 3 then s1.setBlockState p 4 else s1
  else if sev = 3 then
    let s1 := s.setPg p { x with heldH := Word.setBit x.heldH src true }
    if st = 2 ∨ st = 3 ∨ st = 4 ∨ st = 6 then s1.setBlockState p 5 else s1
  else s

/-- The cause of source `src` is no longer present (R611). -/
def State.clearCause (s : State) (p : Page) (src : Nat) : State :=
  s.setReg p TB.FAULT_CAUSE (Word.setBit (s.reg p TB.FAULT_CAUSE) src false)

/-- The cause of source `src` is present (R611). -/
def State.setCause (s : State) (p : Page) (src : Nat) : State :=
  s.setReg p TB.FAULT_CAUSE (Word.setBit (s.reg p TB.FAULT_CAUSE) src true)

/-- EVENT_STATUS[`src`] becomes 1; EVENT_FIRST captures the record where EVENT_STATUS was zero (R79). -/
def State.markEvent (s : State) (p : Page) (src : Nat) (e : Word) : State :=
  let s1 := if s.reg p TB.EVENT_STATUS = 0 then s.setReg p TB.EVENT_FIRST e else s
  s1.setReg p TB.EVENT_STATUS (Word.setBit (s.reg p TB.EVENT_STATUS) src true)

/-- The record joins the page's log, or is lost where the log holds 16 (R80). -/
def State.logEvent (s : State) (p : Page) (e : Word) : State :=
  let x := s.pg p
  if x.log.length < 16 then (s.setPg p { x with log := x.log ++ [e] }).setFld p TB.PAGE_STATE_LOG_COUNT (x.log.length + 1)
  else s.setFlag p TB.PAGE_STATE_LOST true

/-- The status, EVENT_FIRST, log, held bit and state changes of an event, without its message; an occurrence that finds its
bit set makes no log entry (R78 to R80, R604). -/
def State.record (s : State) (p : Page) (src : Nat) : State :=
  let sev := s.severity p src
  let e := eventRecord src sev s.stamp32
  if s.raised p src then (s.setCause p src).actSeverity p src sev
  else (((((s.setCause p src).markEvent p src e).logEvent p e)).vfSummary p).actSeverity p src sev

/-- Source `src` of page `p` may send a message: enabled, at NOTIFY or above (R56). -/
def State.mayNotify (s : State) (p : Page) (src : Nat) : Bool :=
  Word.bit (s.reg p TB.EVENT_ENABLE) src && decide (1 ≤ s.severity p src)

/-- A message to function `fn`, entry `vec`; a vector beyond the function's table sends none and records VECTOR_RANGE in the HIF page
of the port (R58), an event whose own message `send` sends. -/
def State.msixTo (send : State → Page → State) (s : State) (fn vec : Nat) : State :=
  let h := Page.hif (fn / 128)
  if vec < msixSize fn then s.sendMsix fn vec
  else if s.raised h HIF.S_VECTOR_RANGE || !s.mayNotify h HIF.S_VECTOR_RANGE then s.record h HIF.S_VECTOR_RANGE
  else send (s.record h HIF.S_VECTOR_RANGE) h

/-- The message of page `p` as PAGE_OWNER and EVENT_VECTOR route it (R57), each of its messages sent by `one`. -/
def State.routeMsix (one : State → Nat → Nat → State) (s : State) (p : Page) : State :=
  let owner := s.fld p TB.PAGE_OWNER_FUNCTION
  let vec := s.fld p TB.EVENT_VECTOR_VECTOR
  if owner % 128 ≠ 0 then one s owner vec
  else
    let s1 := if s.flag p TB.EVENT_VECTOR_TO_HA then one s 0x00 vec else s
    if s.flag p TB.EVENT_VECTOR_TO_HB then one s1 0x80 vec else s1

/-- The message of a page, and those of the HIF pages that record VECTOR_RANGE for it: at most `n` deep. -/
def State.pageMsixN : Nat → State → Page → State
  | 0, s, _ => s
  | n + 1, s, p => s.routeMsix (State.msixTo (State.pageMsixN n)) p

/-- A message to function `fn`, entry `vec`, with what VECTOR_RANGE sends in its place. -/
def State.pageMsixTo (s : State) (fn vec : Nat) : State := State.msixTo (State.pageMsixN 2) s fn vec

/-- The message of page `p` (R57): the two HIF pages can record VECTOR_RANGE once each. -/
def State.pageMsix (s : State) (p : Page) : State := State.pageMsixN 3 s p

/-- An event from source `src` of page `p` (R78): recorded; on a 0-to-1 transition with the source enabled at NOTIFY or
above, one message is sent (R56). A page whose domain is off records nothing (R31). -/
def State.raise (s : State) (p : Page) (src : Nat) : State :=
  if !s.powered p then s
  else if s.raised p src then s.record p src
  else
    let s1 := s.record p src
    if s.mayNotify p src then s1.pageMsix p else s1

/-- The event occurs when `b` holds. -/
def State.raiseIf (s : State) (b : Bool) (p : Page) (src : Nat) : State := if b then s.raise p src else s

/-- The block's own degrading condition begins or ends (R606, R607). -/
def State.setDegrading (s : State) (p : Page) (b : Bool) : State :=
  let s1 := s.setPg p { s.pg p with degr := b }
  let st := s1.fld p TB.PAGE_STATE_STATE
  if st = 3 ∨ st = 4 then s1.setBlockState p (s1.serviceState p) else s1

/-! ## Power and readiness of pages (R31, R633, R639) -/

/-- A boundary-scan instruction that stops all traffic is in force (R687): it acts only while PWRGOOD is high (R685). -/
def State.scanStops (s : State) : Bool := s.aon.pwrgood && [0x00, 0x04, 0x05, 0x09, 0x0A].contains s.aon.tap

/-- The page answers as in RESET: the device is in power-on reset, or a device soft reset is in progress and reaches it (R638, R639). -/
def State.inReset (s : State) (p : Page) : Bool :=
  s.aon.por || s.flag Page.dev DEV.DEV_STATUS_SOFT_BUSY
    && (match Page.kind p with
        | some (k, _) => !(k.alwaysOn || k = .dev)
        | none => false)

/-- The clock of the page's island runs (R635). -/
def State.clocked (s : State) (p : Page) : Bool := !s.aon.lostClk.contains (Page.island p)

/-- The block is in service: ACTIVE or DEGRADED, with power and clock. -/
def State.inService (s : State) (p : Page) : Bool :=
  s.powered p && s.clocked p && (s.fld p TB.PAGE_STATE_STATE == 3 || s.fld p TB.PAGE_STATE_STATE == 4)

/-- The block is HALTED. -/
def State.isHalted (s : State) (p : Page) : Bool := s.fld p TB.PAGE_STATE_STATE == 5

/-! ## Indirect entries (R694) -/

/-- Where an indirect entry lies: its space, instance and index. -/
def entKey (space inst idx : Nat) : Nat := (space * 2 ^ 16 + inst) * 2 ^ 32 + idx

/-- Spaces of `State.ents`: the ten parser targets (instance: 2 × traverse + bank), then one a table. -/
abbrev spState : Nat := 0
abbrev spTcam : Nat := 1
abbrev spAction : Nat := 2
abbrev spClass : Nat := 3
abbrev spLpClass : Nat := 4
abbrev spQosMap : Nat := 5
abbrev spEcmpGroup : Nat := 6
abbrev spEcmpMember : Nat := 7
abbrev spLagGroup : Nat := 8
abbrev spLagMember : Nat := 9
/-- Action memory and program table of station `s` of traverse `t` (instance 20 × t + s); field map, template headers and
template bytes of a deparser; table descriptors and flood groups of a traverse. -/
abbrev spCode : Nat := 10
abbrev spProgram : Nat := 11
abbrev spFieldMap : Nat := 12
abbrev spTemplate : Nat := 13
abbrev spTplBytes : Nat := 14
abbrev spDesc : Nat := 15
abbrev spFlood : Nat := 16
abbrev spSpray : Nat := 17
abbrev spSprayMember : Nat := 18
abbrev spContext : Nat := 19
abbrev spSendSeq : Nat := 20
abbrev spNode : Nat := 21
abbrev spMq : Nat := 22
abbrev spMqMap : Nat := 23
abbrev spGroup : Nat := 24
abbrev spMember : Nat := 25
abbrev spMirror : Nat := 26
abbrev spSurvey : Nat := 27

/-- The words without trailing zeros. -/
def trimWords (l : List Word) : List Word := (l.reverse.dropWhile (fun w => w == 0)).reverse

/-- What an entry of `space` at `idx` holds until something writes it: nodes, multicast queues and their map as R477 and R489
give them after reset; every other entry zero. -/
def entReset (space idx : Nat) : List Word :=
  if space = spNode then (if idx < 768 then [BitVec.ofNat 48 (2 ^ 47 + idx * 2 ^ 25 + 2 ^ 14)] else [])
  else if space = spMq then
    (if idx < 3072 then
      let lp := idx / 4
      [BitVec.ofNat 48 (2 ^ 47 + lp * 2 ^ 37 + 3 * 4 ^ (idx % 4) * 2 ^ 29), BitVec.ofNat 48 (lp * 2 ^ 32 + 2 ^ 21), 0xA00004000000#48, 0, 0, 0,
        0x000003000000#48]
     else [0, 0x000000200000#48, 0xA00004000000#48, 0, 0, 0, 0x000003000000#48])
  else if space = spMqMap then trimWords [BitVec.ofNat 48 (4 * (idx / 8) + idx % 8 / 2)]
  else []

/-- An entry, and its word `i`. -/
def State.ent (s : State) (space inst idx : Nat) : List Word := s.ents.get (entKey space inst idx) (entReset space idx)
def State.entWord (s : State) (space inst idx i : Nat) : Word := (s.ent space inst idx).getD i 0

/-- The entry made `l`. -/
def State.setEnt (s : State) (space inst idx : Nat) (l : List Word) : State :=
  { s with ents := s.ents.set (entKey space inst idx) (trimWords l) (entReset space idx) }

/-! ## Counters (R561 to R563) -/

/-- The slot of a counter reached through a bulk window (R68, R563): internal address `a`. -/
def bulkKey (a : Nat) : Nat := 2 ^ 48 + a

/-- The counter of survey counter `i` (R572). -/
def surveyCtr (i : Nat) : Nat := bulkKey (0x500 * 2 ^ 24 + i * 8)

/-- The owner parcel of survey counter `i` (R600). -/
def State.surveyOwner (s : State) (i : Nat) : Nat := Word.bits (s.entWord spSurvey 0 i 0) 35 12

/-- The counter that the slot at key `a` shows: slots 0x100 to 0xFF8 of a parcel's block show its survey counters (R572). -/
def State.counterAt (s : State) (a : Nat) : Nat :=
  let o := a - bulkKey (0x100 * 2 ^ 24)
  if bulkKey (0x100 * 2 ^ 24) ≤ a ∧ a < bulkKey (0x101 * 2 ^ 24) ∧ 0x100 ≤ o % 0x1000 then
    match s.surveySlot.find? (fun e => e.2 == (o % 0x1000 - 0x100) / 8 + 1 && s.surveyOwner e.1 == o / 0x1000) with
    | some e => surveyCtr e.1
    | none => a
  else a

/-- The wrap bit of the slot at key `a`; a slot that holds no counter has none. -/
def State.wrapOf (s : State) (a : Nat) : Bool := s.wraps.get (s.counterAt a) false

/-- The key of the `j`th slot that WRAP_MAP shows (R563). -/
def State.wrapSlot (s : State) (j : Nat) : Nat :=
  let a := s.fld Page.svc SVC.WRAP_ADDR_ADDR / 8 * 8 + 8 * j
  if s.flag Page.svc SVC.WRAP_ADDR_BULK then bulkKey a else a

/-- WRAP_MAP shows the wrap bits of the slots that WRAP_ADDR names. -/
def State.showWraps (s : State) : State :=
  s.setReg Page.svc SVC.WRAP_MAP
    ((List.range 48).foldl (fun (w : Word) (j : Nat) => Word.setBit w j (s.wrapOf (s.wrapSlot j))) 0)

/-- A port engine's CTR_WRAP bit of the logical port counter at key `a` (R563). -/
def State.showPenWrap (s : State) (a : Nat) (b : Bool) : State :=
  let p := a / 0x1000
  let o := a % 0x1000
  if 0xA00 ≤ p ∧ p < 0xA00 + 192 ∧ 0x800 ≤ o then
    let sub := (o - 0x800) / 0x200
    let i := (o - 0x800) % 0x200 / 8
    if i < 48 then s.setReg p PEN.CTR_WRAP_LO (Word.setBit (s.reg p PEN.CTR_WRAP_LO sub) i b) sub
    else s.setReg p PEN.CTR_WRAP_HI (Word.setBit (s.reg p PEN.CTR_WRAP_HI sub) (i - 48) b) sub
  else s

/-- The wrap bit of the counter at key `a` becomes `b`, wherever it shows (R562, R563). -/
def State.setWrap (s : State) (a : Nat) (b : Bool) : State :=
  (({ s with wraps := s.wraps.set (s.counterAt a) b false } : State).showPenWrap a b).showWraps

/-- The counter slot at key `a` counts `n` events (R561). -/
def State.countSlot (s : State) (a n : Nat) : State :=
  let v := (s.slot a).toNat + n
  let s1 := s.setSlot a (BitVec.ofNat 48 v)
  if 2 ^ 48 ≤ v then s1.setWrap a true else s1

/-- A counter register of page `p` counts `n` events. -/
def State.count (s : State) (p : Page) (f : Fld) (n : Nat := 1) (i : Nat := 0) : State := s.countSlot (slotAddr p f i) n

/-- The counter at key `a` is zero again, with its wrap bit (R562). -/
def State.zeroCounter (s : State) (a : Nat) : State :=
  let s1 := s.setSlot a 0
  if s1.wrapOf a then s1.setWrap a false else s1

/-! ## Survey counters (R569 to R572) -/

/-- Attributes of an event: parcel, function, traffic class, address; an absent one is none. -/
structure EvAttr where
  parcel : Option Nat := none
  fn     : Option Nat := none
  tc     : Option Nat := none
  addr   : Option Nat := none
deriving DecidableEq, Repr

/-- A filter passes where the event lacks the attribute. -/
def passes (a : Option Nat) (q : Nat → Bool) : Bool :=
  match a with
  | some v => q v
  | none => true

/-- Survey counter settings `e` count event `ev` with attributes `a` (R571). -/
def surveyHit (e : List Word) (ev : Nat) (a : EvAttr) : Bool :=
  let d0 := e.getD 0 0
  let d1 := e.getD 1 0
  let owner := Word.bits d0 35 12
  Word.bit d0 47 && Word.bits d0 29 6 == ev
    && passes a.parcel (fun p => Nat.land (Nat.xor p (Word.bits d0 17 12)) (Word.bits d0 5 12) == 0)
    && passes a.fn (fun f => Nat.land (Nat.xor f (Word.bits d1 40 8)) (Word.bits d1 32 8) == 0)
    && passes a.tc (fun t => Word.bit d1 (16 + t))
    && (!Word.bit d1 15 || passes a.addr (fun x => decide ((e.getD 2 0).toNat ≤ x) && decide (x ≤ (e.getD 3 0).toNat)))
    && (owner == 0 || a.parcel == some owner)

/-- Event `ev` occurs, adding `n`: every survey counter whose filters pass counts it. -/
def State.survey (s : State) (ev : Nat) (a : EvAttr) (n : Nat := 1) : State :=
  s.ents.foldl (fun s e =>
    if e.1 / 2 ^ 32 = spSurvey * 2 ^ 16 && surveyHit e.2 ev a then s.countSlot (surveyCtr (e.1 % 2 ^ 32)) n else s) s

/-! ## Bandwidth meters (R564 to R566) -/

/-- Every meter that satisfies `q` is restarted: LAST, PEAK and VALID zero, its open window not counted. -/
def State.restartMeters (s : State) (q : Nat → Bool) : State := { s with meters := s.meters.filter (fun e => !q e.1) }

/-- Logical port `lp` counts a frame in its receive meter, or in its transmit meter (`tx`). -/
def State.meter (s : State) (lp : Nat) (tx : Bool) (bytes : Nat) : State :=
  if s.wOn then
    let k := 2 * lp + (if tx then 1 else 0)
    let m := s.meters.get k dflt.meter
    { s with meters := s.meters.set k { m with now := m.now + bytes + s.fld Page.tel TEL.METER_CFG_ADJ } dflt.meter }
  else s

/-! ## Host accesses (R60 to R64, R70 to R77, R691, R692) -/

/-- The identifier names a physical function. -/
def isPF (fn : Nat) : Bool := fn % 128 == 0

/-- The host port of a function identifier (R50). -/
def portOf (fn : Nat) : Nat := fn / 128

/-- Function `fn` accepts memory requests (R692): Memory Space Enable set, not in D3hot nor in Function Level Reset, and a
virtual function enabled. -/
def State.accepting (s : State) (fn : Nat) : Bool :=
  (s.fn fn).mse && !(s.fn fn).d3hot && !(s.fn fn).flr
    && decide (fn % 128 ≤ s.fld (Page.hif (portOf fn)) HIF.LINK_STATUS_NUM_VFS)

/-- A request that function `fn` does not accept shows in AER alone (R692). -/
def State.unaccepted (s : State) (fn : Nat) : State := s.setFn fn { s.fn fn with ur := true }

/-- R70: function `fn` may write page `p` (`toOwner`: the write is to PAGE_OWNER). -/
def State.mayWrite (s : State) (fn : Nat) (p : Page) (toOwner : Bool) : Bool :=
  match Page.kind p with
  | none => false
  | some (k, _) =>
    if isPF fn then
      toOwner || s.flag p TB.PAGE_OWNER_BOTH_PF || decide (s.fld p TB.PAGE_OWNER_FUNCTION = fn)
    else !k.system && decide (s.fld p TB.PAGE_OWNER_FUNCTION = fn)

/-- Parcel `par` is bound to virtual function `fn` (R96). -/
def State.boundTo (s : State) (fn par : Nat) : Bool := par != 0 && (s.bindings.get fn []).contains par

/-- R71: the N768 answers a read of page `p` from function `fn`. -/
def State.mayRead (s : State) (fn : Nat) (p : Page) : Bool :=
  match Page.kind p with
  | none => false
  | some (k, _) =>
    isPF fn
      || (!k.system
          && (decide (s.fld p TB.PAGE_OWNER_FUNCTION = fn)
              || (s.flag p TB.PAGE_OWNER_SHARED_READ && s.boundTo fn (s.fld p TB.PAGE_OWNER_PARCEL))))

/-- HIF.ERR_ADDR of the carrying port captures a refused access when it holds no earlier capture (R691). -/
def State.capture (s : State) (fn cause : Nat) (write : Bool) (off : Nat) : State :=
  let h := Page.hif (portOf fn)
  if s.flag h HIF.ERR_ADDR_VALID then s
  else s.setReg h HIF.ERR_ADDR
    (BitVec.ofNat 48 (2 ^ 47 + cause * 2 ^ 37 + (if write then 2 ^ 36 else 0) + fn * 2 ^ 28 + off % 2 ^ 28))

/-- The OFFSET that ERR_ADDR records for a slot address: its BAR0 offset, or the offset in the virtual function's own BAR. -/
def errOffset (a : Nat) : Nat := if a < 0x10000000 then a else a % 0x10000

/-- The fate of a host access (R31, R32, R53, R62, R70, R72, R77, R692), in the order judged here: port down, function, no such page,
no window that names it, page off, island without clock, owner, access size. -/
inductive Fate where
  | ok | noLink | unsupported | unmapped | noWindow | off | timeout | owner | size
deriving DecidableEq, Repr

/-- Function `fn` has a path to page `p` (R52, R693): a physical function to the pages of BAR0, a virtual one to its own event page
and to the pages that its page windows name. -/
def State.hasPath (s : State) (fn : Nat) (p : Page) : Bool :=
  if isPF fn then decide (p < 0x10000)
  else if p < 0x10000 then (List.range 16).any (fun w =>
    let x := s.windows.get (16 * fn + w) dflt.window
    x.valid && x.page == p)
  else p == Page.vfe fn

/-- `marked`: a 32-bit write of the register is refused (R62). -/
def State.fate (s : State) (r : Req) (a : Nat) (marked : Bool) : Fate :=
  let p := pageOfAddr a
  if !s.portUp (portOf r.fn) then .noLink
  else if !s.accepting r.fn then .unsupported
  else if (Page.kind p).isNone then .unmapped
  else if !s.hasPath r.fn p then .noWindow
  else
    let o := a - p * 0x1000
    let ownerReg := o == TB.PAGE_OWNER.off
    let kept := ownerReg || o == TB.SCRATCH.off
    if (!s.powered p && !kept) || s.inReset p then .off
    else if !s.clocked p then .timeout
    else if !s.mayWrite r.fn p ownerReg then .owner
    else if r.size = .bad || (marked && r.size != .w64) then .size
    else .ok

/-- What a refused access records (R32, R67, R72, R76, R77, R691, R692). -/
def State.refuse (s : State) (r : Req) (a : Nat) (f : Fate) (write : Bool := true) : State :=
  let h := Page.hif (portOf r.fn)
  let p := pageOfAddr a
  match f with
  | .ok => s
  | .noLink => s
  | .unsupported => s.unaccepted r.fn
  | .timeout => (s.raise h HIF.S_REG_TIMEOUT).capture r.fn 5 write (errOffset a)
  | .unmapped => (s.raise h HIF.S_UNMAPPED).capture r.fn 3 write (errOffset a)
  | .noWindow =>
    if isPF r.fn then (s.raise h HIF.S_UNMAPPED).capture r.fn 3 write (errOffset a)
    else (s.raise (Page.vfe r.fn) VFE.S_UNMAPPED).capture r.fn 3 write (errOffset a)
  | .off =>
    if s.inReset p || !write then s else (s.raise h HIF.S_POWERED_OFF_WRITE).capture r.fn 4 write (errOffset a)
  | .owner => (s.raise p TB.S_OWNER_VIOLATION).capture r.fn 0 write (errOffset a)
  | .size => (s.raise p TB.S_ACCESS_SIZE).capture r.fn 1 write (errOffset a)

/-- The address attribute of an access: its BAR0 offset (R570); a virtual function's own BAR has none. -/
def bar0Attr (a : Nat) : Option Nat := if a < 0x10000000 then some a else none

/-- A host write to register `f` (instance `i`) of page `p`, marked "64-bit write only" where `marked`: judged, then its
effect, or recorded as refused. -/
def State.hostWrite (s : State) (r : Req) (p : Page) (f : Fld) (i : Nat) (marked : Bool) (eff : State → State) : State :=
  let a := slotAddr p f i
  match s.fate r a marked with
  | .ok => (eff s).survey 17 { fn := some r.fn, addr := bar0Attr a }
  | k => s.refuse r a k

/-- The 1s that a 32-bit write carries into the fields of `mask` (R62). -/
def carries (size : AccSize) (data : Word) (mask : Nat) : Bool :=
  match size with
  | .lo => Nat.land (data.toNat % 2 ^ 32) mask != 0
  | .hi => Nat.land (data.toNat % 2 ^ 16 * 2 ^ 32) mask != 0
  | _ => false

/-- A host write to a register that holds marked fields (`mask`) beside others (R62): a 32-bit write changes the others
alone, and records ACCESS_SIZE where it carries a 1 into a marked field. -/
def State.hostWriteParts (s : State) (r : Req) (p : Page) (f : Fld) (mask : Nat) (data : Word) (eff : State → State) : State :=
  s.hostWrite r p f 0 false fun s =>
    let s1 := eff s
    if carries r.size data mask then s1.refuse r (slotAddr p f 0) .size else s1

/-- The judged write reaches the register: the condition under which `hostWrite` runs its effect. -/
def State.accepts (s : State) (r : Req) (p : Page) (f : Fld) (i : Nat) (marked : Bool) : Bool :=
  s.fate r (slotAddr p f i) marked == .ok

/-- The fate of a host read of the slot at address `a` (R31, R60, R61, R71); `counted`: the register is a counter or holds an RC
field, which only a 64-bit read returns. -/
def State.readFate (s : State) (r : Req) (a : Nat) (counted : Bool) : Fate :=
  let p := pageOfAddr a
  if !s.portUp (portOf r.fn) then .noLink
  else if !s.accepting r.fn then .unsupported
  else if (Page.kind p).isNone then .unmapped
  else if !s.hasPath r.fn p then .noWindow
  else
    if !s.powered p then .off
    else if !s.clocked p then .timeout
    else if !s.mayRead r.fn p then .owner
    else if r.size = .bad || (counted && r.size != .w64) then .size
    else .ok

/-- The part of a slot's value that a read of the size returns (R60). -/
def readPart (size : AccSize) (v : Word) : BitVec 64 :=
  match size with
  | .w64 => v.setWidth 64
  | .lo => BitVec.ofNat 64 (v.toNat % 2 ^ 32)
  | .hi => BitVec.ofNat 64 (v.toNat / 2 ^ 32)
  | .bad => 0

/-- A host read of register `f` (instance `i`) of page `p`: judged; its value completes the read and `eff` follows; a refused one
returns zero (R72). -/
def State.hostRead (s : State) (r : Req) (p : Page) (f : Fld) (i : Nat) (counted : Bool) (value : State → Word)
    (eff : State → State) : State :=
  let a := slotAddr p f i
  match s.readFate r a counted with
  | .ok => eff ((s.emit (.readData r.fn (readPart r.size (value s)))).survey 18 { fn := some r.fn, addr := bar0Attr a })
  | .noLink => s
  | .unsupported => (s.unaccepted r.fn).emit (.unsupported r.fn)
  | k => (s.refuse r a k false).emit (.readData r.fn 0)

/-- The value a write leaves in a slot that held `old`: the halves that the access covers (R60, R62). -/
def mergeHalf (size : AccSize) (old new : Word) : Word :=
  match size with
  | .w64 => new
  | .lo => BitVec.ofNat 48 (old.toNat / 2 ^ 32 * 2 ^ 32 + new.toNat % 2 ^ 32)
  | .hi => BitVec.ofNat 48 (new.toNat % 2 ^ 16 * 2 ^ 32 + old.toNat % 2 ^ 32)
  | .bad => old

/-! ## Free values -/

/-- The next free value of the run: an uninterpreted number below 2^48, fresh each time (Config.freeValue). -/
def State.free (s : State) : Nat := (Config.freeValue s.draws).toNat

/-- The counter of free values moves on. -/
def State.drawn (s : State) : State := { s with draws := s.draws + 1 }

end Sys2Proof.Machine
end

