-- ==== Sys2Proof/Machine/Lasers.lean ====
section
/-!
DEFINITION. Sys2Proof/Machine/Lasers.lean: Octen laser modules, their wear account, feed failover, hot swap and management
buses (04_octen_laser_modules.md).
Readings and choices (notes/assumptions): DEDUCED 28, 29; DESIGN CHOICE 84; PRESUMED 27.
-/
namespace Sys2Proof.Machine

/-! ## Bays and feeds (R117) -/

/-- Bit `i` of `v` made `b`. -/
def setBitN (v i : Nat) (b : Bool) : Nat := v - (v / 2 ^ i % 2) * 2 ^ i + (if b then 2 ^ i else 0)

def State.bay (s : State) (n : Nat) : Bay := s.bays.get n dflt.bay
def State.setBay (s : State) (n : Nat) (b : Bay) : State := { s with bays := s.bays.set n b dflt.bay }
def State.feed (s : State) (k w : Nat) : Feed := s.feeds.get (4 * k + w) dflt.feed
def State.setFeed (s : State) (k w : Nat) (f : Feed) : State := { s with feeds := s.feeds.set (4 * k + w) f dflt.feed }

/-- The module that feeds the same engine as `n`. -/
def partner (n : Nat) : Nat := if n % 2 = 0 then n + 1 else n - 1

/-- The module of feed A (`b` false) or B of engine `k`. -/
def feedModule (k : Nat) (b : Bool) : Nat := 2 * k + b2nFeed b
where b2nFeed (b : Bool) : Nat := if b then 1 else 0

/-- Bit `w` of a four-bit field of LMP_STATUS, and that bit made `b`. -/
def State.laserBit (s : State) (n : Nat) (f : Fld) (w : Nat) : Bool := Nat.bitAt (s.fld (Page.lmp n) f) w
def State.setLaserBit (s : State) (n : Nat) (f : Fld) (w : Nat) (b : Bool) : State :=
  s.setFld (Page.lmp n) f (setBitN (s.fld (Page.lmp n) f) w b)

def State.mstate (s : State) (n : Nat) : Nat := s.fld (Page.lmp n) LMP.LMP_STATUS_MSTATE
def State.lmEn (s : State) (n : Nat) : Bool := s.flag (Page.lmp n) LMP.LMP_STATUS_LEN
def State.carries (s : State) (n w : Nat) : Bool := s.laserBit n LMP.LMP_STATUS_CARRY w

/-- Laser `w` of module `n` is ready (R121). -/
def State.laserReady (s : State) (n w : Nat) : Bool :=
  s.mstate n == 5 && !s.laserBit n LMP.LMP_STATUS_LASER_FAULT w && !Nat.bitAt (s.bay n).faults w

/-- Laser `w` of module `n` is an eligible standby (R132). -/
def State.eligible (s : State) (n w : Nat) : Bool :=
  s.laserReady n w && s.lmEn n && !s.carries n w && Nat.bitAt (s.bay n).runOk w && Nat.bitAt (s.bay n).biasOk w

/-- STANDBY_OK shows eligibility (R132). -/
def State.showStandby (s : State) (n : Nat) : State :=
  s.setFld (Page.lmp n) LMP.LMP_STATUS_STANDBY_OK
    ((List.range 4).foldl (fun v w => setBitN v w (s.eligible n w)) 0)

/-- LM_ACT[`w`] of module `n` driven to `b`. -/
def State.driveAct (s : State) (n w : Nat) (b : Bool) : State :=
  s.setBay n { s.bay n with act := setBitN (s.bay n).act w b }

/-- Laser `w` of module `n` becomes the standby: not eligible until a closure run passes (R132). -/
def State.becomeStandby (s : State) (n w : Nat) : State :=
  s.setBay n { s.bay n with runOk := setBitN (s.bay n).runOk w false, biasOk := setBitN (s.bay n).biasOk w false }

/-- Feed switch `w` of the engine of `n` selects `n`, which carries the wavelength (R133 step 2); its partner does not. -/
def State.selectFeed (s : State) (n w : Nat) : State :=
  let s1 := (s.setLaserBit n LMP.LMP_STATUS_CARRY w true).setLaserBit (partner n) LMP.LMP_STATUS_CARRY w false
  let p := Page.oen (n / 2)
  s1.setFld p OEN.OEN_STATUS_FEED_SEL (setBitN (s1.fld p OEN.OEN_STATUS_FEED_SEL) w (n % 2 == 1))

/-! ## Wear (R126 to R130) -/

/-- 2 to the power `r` / 2560 for `r` below 2560, in units of 2^-32: the exponential series to its seventh term. -/
def pow2Frac (r : Nat) : Nat :=
  let x := r * 2977044472 / 2560
  let t2 := x * x / 2 / 2 ^ 32
  let t3 := t2 * x / 3 / 2 ^ 32
  let t4 := t3 * x / 4 / 2 ^ 32
  let t5 := t4 * x / 5 / 2 ^ 32
  let t6 := t5 * x / 6 / 2 ^ 32
  2 ^ 32 + x + t2 + t3 + t4 + t5 + t6

/-- CASE_T clamped to 25–95 °C, in 1/256 °C (R126). -/
def clampCase (t : Int) : Nat := if t < 6400 then 6400 else if 24320 < t then 24320 else t.toNat

/-- The weighted milliseconds of one second at `i` against I_NOM `nom` and case temperature `t` (R126). -/
def wearRef (i nom : Nat) (t : Int) : Nat :=
  let e := clampCase t - 6400
  1000 * i * i * pow2Frac (e % 2560) * 2 ^ (e / 2560) / (nom * nom * 8 * 2 ^ 32)

/-- The same with the factor known only to within 0.1 %; free where I_NOM is zero. -/
def State.wearStep (s : State) (i nom : Nat) (t : Int) : Nat :=
  if nom = 0 then s.free
  else
    let x := wearRef i nom t
    x - x / 1000 + s.free % (2 * (x / 1000) + 1)

def State.addWear (s : State) (n w x : Nat) : State :=
  s.setFld (Page.lmp n) LMP.WEAR_W_WEIGHTED (s.fld (Page.lmp n) LMP.WEAR_W_WEIGHTED w + x) w

/-- LIFE_USED in units of 0.01 % (R129); free where the module's RATED_LIFE is zero. -/
def State.lifeUsed (s : State) (n : Nat) : Nat :=
  let m := (List.range 4).foldl (fun m w => Nat.max m (s.fld (Page.lmp n) LMP.WEAR_W_WEIGHTED w)) 0
  let r := (s.bay n).rated * 3600000
  if r = 0 then s.free % 2 ^ 16 else Nat.min 0xFFFF (m * 10000 / r)

/-- LIFE_USED shown, and the sources of the levels it is at or above (R129). -/
def State.showLife (s : State) (n : Nat) : State :=
  let p := Page.lmp n
  let u := s.lifeUsed n
  let s1 := s.setFld p LMP.LIFE_LIFE_USED u
  let s2 := if (s.bay n).rated = 0 then s1.drawn else s1
  ((s2.raiseIf (8000 ≤ u) p LMP.S_WEAR_80).raiseIf (9500 ≤ u) p LMP.S_WEAR_95).raiseIf (10000 ≤ u) p LMP.S_LIFE_EXCEEDED

/-- Lasers of `mask` that did not emit now do: 0.5 h of wear each, and WEAR_COUNT (R128). -/
def State.turnOn (s : State) (n mask : Nat) : State :=
  let one (s : State) (w : Nat) : State :=
    if Nat.bitAt mask w && !Nat.bitAt (s.bay n).emitting w then
      let s1 := (s.addWear n w 1800000).setBay n { s.bay n with emitting := setBitN (s.bay n).emitting w true }
      s1.setFld (Page.lmp n) LMP.LIFE_WEAR_COUNT (s1.fld (Page.lmp n) LMP.LIFE_WEAR_COUNT + 1)
    else s
  (List.range 4).foldl one s

/-- The 64 bytes of a wear record with sequence number `seq` (R124); each field is truncated to its unit (R130). -/
def State.wearRecord (s : State) (n seq : Nat) : List Byte :=
  let p := Page.lmp n
  let body := beBytes 4 seq
    ++ (List.range 4).flatMap (fun w => beBytes 4 (s.fld p LMP.WEAR_W_WEIGHTED w / 36000))
    ++ beBytes 4 (s.fld p LMP.LIFE_WEAR_COUNT) ++ beBytes 4 ((s.bay n).onMs / 36000)
    ++ beBytes 2 (s.fld p LMP.FAILOVERS_COUNT) ++ zeros 30
  body ++ beBytes 4 (crc32c body)

/-- The wear record is written to the slot not used last, as two 32-byte writes; a write that fails (`ok` false, or the
segment STUCK) sets WEAR_RECORD (R124, R130). -/
def State.writeWear (s : State) (n : Nat) (ok : Bool) : State :=
  let b := s.bay n
  if ok && !s.flag (Page.lmp n) LMP.LMP_STATUS_STUCK then
    let rec0 := s.wearRecord n ((b.wearSeq + 1) % 2 ^ 32)
    let off := if b.wearSlotB then 0x200 else 0x240
    let s1 := s.setBay n { b with wearSeq := (b.wearSeq + 1) % 2 ^ 32, wearSlotB := !b.wearSlotB }
    (s1.emit (.moduleWrite n off (rec0.take 32))).emit (.moduleWrite n (off + 32) (rec0.drop 32))
  else s.raise (Page.lmp n) LMP.S_WEAR_RECORD

/-- A slot of the two wear records as read: its sequence number where it is valid (R124). -/
def wearValid (l : List Byte) : Option Nat :=
  let seq := beAt l 0 4
  if beAt l 0x3C 4 = crc32c (l.take 0x3C) ∧ seq ≠ 0xFFFFFFFF then some seq else none

/-- The account loaded from a record (R130). -/
def State.loadWear (s : State) (n : Nat) (l : List Byte) (inB : Bool) : State :=
  let p := Page.lmp n
  let s1 := (List.range 4).foldl (fun s w => s.setFld p LMP.WEAR_W_WEIGHTED (beAt l (4 + 4 * w) 4 * 36000) w) s
  let s2 := s1.setBay n { s1.bay n with onMs := beAt l 0x18 4 * 36000, wearSeq := beAt l 0 4, wearSlotB := inB }
  (s2.setFld p LMP.LIFE_WEAR_COUNT (beAt l 0x14 4)).setFld p LMP.FAILOVERS_COUNT (beAt l 0x1C 2)

/-- The account from both slots: the valid one with the higher SEQ; from zero with WEAR_RECORD where neither is valid (the
sequence number the N768 then goes on from is free). -/
def State.loadSlots (s : State) (n : Nat) (wear : List Byte) : State :=
  let a := wear.take 64
  let b := (wear.drop 64).take 64
  match wearValid a, wearValid b with
  | some x, some y => if x < y then s.loadWear n b true else s.loadWear n a false
  | some _, none => s.loadWear n a false
  | none, some _ => s.loadWear n b true
  | none, none =>
    let s1 := (s.loadWear n (zeros 64) true).drawn
    (s1.setBay n { s1.bay n with wearSeq := s.free % 2 ^ 32 }).raise (Page.lmp n) LMP.S_WEAR_RECORD

/-! ## LM_EN and the module states (R119 to R121) -/

/-- LM_EN falls: lasers stop, the module is OFF, and the wear record is written (R121, R130). -/
def State.lmEnFall (s : State) (n : Nat) (wearOk : Bool) : State :=
  if s.lmEn n then
    let s1 := s.setFlag (Page.lmp n) LMP.LMP_STATUS_LEN false
    let s2 := if 4 ≤ s.mstate n then s1.setFld (Page.lmp n) LMP.LMP_STATUS_MSTATE 3 else s1
    let s3 := s2.setBay n { s2.bay n with emitting := 0, runOk := 0, biasOk := 0 }
    (s3.showStandby n).writeWear n wearOk
  else s

/-- LM_EN may rise (R119, R641): ENABLE, an accepted identity, the module OFF, no power-up hold, and the engine's domain up
(R633). -/
def State.mayEnable (s : State) (n : Nat) : Bool :=
  s.flag (Page.lmp n) LMP.LMP_CTL_ENABLE && s.mstate n == 3 && s.flag (Page.lmp n) LMP.LMP_STATUS_ID_OK
    && !s.flag Page.dev DEV.DEV_STATUS_HOLD && !s.aon.por && !s.scanStops && s.domainUp (n / 2)

/-- Module `n` becomes READY: its standby lasers await a closure run, and a wavelength that found no ready laser takes the
first that is (R117, R132). -/
def State.enterReady (s : State) (n : Nat) : State :=
  let s1 := s.setFld (Page.lmp n) LMP.LMP_STATUS_MSTATE 5
  let one (s : State) (w : Nat) : State :=
    if (s.feed (n / 2) w).waits && s.laserReady n w then
      ((s.selectFeed n w).driveAct n w true).setFeed (n / 2) w { s.feed (n / 2) w with waits := false }
    else if s.carries n w then s
    else s.becomeStandby n w
  ((List.range 4).foldl one s1).showStandby n

/-- One wavelength of the choice of R117. -/
def State.chooseFeed (s : State) (k w : Nat) : State :=
  let f := s.feed k w
  if f.chosen then s
  else if s.laserReady (2 * k) w then
    ((s.selectFeed (2 * k) w).driveAct (2 * k) w true).setFeed k w { f with chosen := true }
  else if s.laserReady (2 * k + 1) w then
    ((s.selectFeed (2 * k + 1) w).driveAct (2 * k + 1) w true).setFeed k w { f with chosen := true }
  else s.setFeed k w { f with chosen := true, waits := true }

/-- A reset that reaches engine `k`: no wavelength has a carrying feed and every LM_ACT bit is low (R117). -/
def State.resetFeeds (s : State) (k : Nat) : State :=
  let one (s : State) (n : Nat) : State :=
    let s1 := s.setFld (Page.lmp n) LMP.LMP_STATUS_CARRY 0
    (s1.setBay n { s1.bay n with act := 0, takeWait := 0 }).showStandby n
  ([0, 1, 2, 3].foldl (fun s w => s.setFeed k w dflt.feed) (one (one s (2 * k)) (2 * k + 1)))

/-! ## Failover, takes and swaps (R131 to R139) -/

/-- A move of wavelength `w` to module `n` starts: LM_ACT rises there (R133 step 1). -/
def State.startMove (s : State) (n w : Nat) (why : MoveWhy) : State :=
  let k := n / 2
  (s.driveAct n w true).setFeed k w { s.feed k w with move := some (why, n % 2 == 1) }

/-- A move to module `n` ends without a switch: both feeds have failed (R137). -/
def State.dropMove (s : State) (n w : Nat) : State :=
  let k := n / 2
  let s1 := (s.driveAct n w false).setFeed k w { s.feed k w with move := none }
  (s1.raise (Page.lmp n) LMP.S_NO_STANDBY).raise (Page.lmp (partner n)) LMP.S_NO_STANDBY

/-- Wavelength `w` has failed at module `n`, which carries it or is about to take it over (R131, R133, R135, R137). -/
def State.laserFails (s : State) (n w : Nat) : State :=
  let k := n / 2
  let s1 := (s.setLaserBit n LMP.LMP_STATUS_LASER_FAULT w true).showStandby n
  match (s.feed k w).move with
  | some (_, toB) =>
    if toB == (n % 2 == 1) then s1.dropMove n w
    else s1.setFeed k w { s.feed k w with move := some (.failure, toB) }
  | none =>
    if s.carries n w then
      if s.laserBit (partner n) LMP.LMP_STATUS_STANDBY_OK w then s1.startMove (partner n) w .failure
      else s1.raise (Page.lmp n) LMP.S_NO_STANDBY
    else s1

/-- Module `n` is the target of a move of wavelength `w`. -/
def State.moveTo (s : State) (n w : Nat) : Bool :=
  match (s.feed (n / 2) w).move with
  | some (_, toB) => toB == (n % 2 == 1)
  | none => false

/-- Every wavelength that module `n` carries, or is about to take, has failed. -/
def State.moduleFails (s : State) (n : Nat) : State :=
  (List.range 4).foldl (fun s w => if s.carries n w || s.moveTo n w then s.laserFails n w else s) s

/-- A takeover after a failure is under way at engine `k` (R137). -/
def State.takeoverAt (s : State) (k : Nat) : Bool :=
  (List.range 4).any (fun w => match (s.feed k w).move with | some (.failure, _) => true | _ => false)

/-- One wavelength of a TAKE (R135, R137): waits for a takeover of the engine, has no effect where the module carries it, is
refused where its laser is not eligible. -/
def State.takeOne (s : State) (n w : Nat) : State :=
  if s.carries n w || s.moveTo n w then s
  else if s.laserBit n LMP.LMP_STATUS_STANDBY_OK w then s.startMove n w .take
  else s.setFlag (Page.lmp n) LMP.LMP_STATUS_TAKE_REFUSED true

/-- The TAKE bits of `mask`. -/
def State.takeAll (s : State) (n mask : Nat) : State :=
  if s.takeoverAt (n / 2) then s.setBay n { s.bay n with takeWait := Nat.lor (s.bay n).takeWait mask }
  else (List.range 4).foldl (fun s w => if Nat.bitAt mask w then s.takeOne n w else s) s

/-- The end of a swap request: the wear record is written, LM_EN falls and SWAP_READY is set (R139 steps 2 and 3). -/
def State.swapDone (s : State) (n : Nat) (wearOk : Bool) : State :=
  let s1 := if s.lmEn n then s.lmEnFall n wearOk else s.writeWear n wearOk
  s1.setFlag (Page.lmp n) LMP.LMP_STATUS_SWAP_READY true

/-- A swap request of module `n` is carried out (R139): waits for a takeover of the engine; with a carried wavelength without
an eligible partner laser none is moved and TAKE_REFUSED is set. -/
def State.swapTry (s : State) (n : Nat) (wearOk : Bool) : State :=
  let q := partner n
  let carried := (List.range 4).filter (fun w => s.carries n w)
  if s.takeoverAt (n / 2) then s
  else if carried.isEmpty then s.swapDone n wearOk
  else if carried.all (fun w => s.moveTo q w || s.laserBit q LMP.LMP_STATUS_STANDBY_OK w) then
    carried.foldl (fun s w => if s.moveTo q w then s else s.startMove q w .swap) s
  else s.setFlag (Page.lmp n) LMP.LMP_STATUS_TAKE_REFUSED true

/-- A swap request is still to be carried out. -/
def State.swapWaits (s : State) (n : Nat) : Bool :=
  s.flag (Page.lmp n) LMP.LMP_CTL_SWAP_REQ && !s.flag (Page.lmp n) LMP.LMP_STATUS_SWAP_READY

/-- After a takeover: TAKE bits and swap requests that waited for it apply (R137). -/
def State.afterTakeover (s : State) (k : Nat) (wearOk : Bool) : State :=
  if s.takeoverAt k then s
  else
    let one (s : State) (n : Nat) : State :=
      let m := (s.bay n).takeWait
      let s1 := (s.setBay n { s.bay n with takeWait := 0 }).takeAll n m
      if s1.swapWaits n then s1.swapTry n wearOk else s1
    one (one s (2 * k)) (2 * k + 1)

/-- The feed switch of wavelength `w` of engine `k` moves (R133 steps 2 to 4). -/
def State.switchFeed (s : State) (k w : Nat) (wearOk : Bool) : State :=
  match (s.feed k w).move with
  | none => s
  | some (why, toB) =>
    let n := 2 * k + (if toB then 1 else 0)
    let o := partner n
    let had := s.carries o w
    let s1 := (s.setFeed k w { s.feed k w with move := none, waits := false }).selectFeed n w
    let s2 := ((s1.turnOn n (2 ^ w)).driveAct o w false).becomeStandby o w
    let s3 := (s2.showStandby n).showStandby o
    let s4 := if why = .failure && had then
        ((s3.raise (Page.lmp o) LMP.S_LASER_FAIL).clearCause (Page.lmp o) LMP.S_LASER_FAIL).count (Page.lmp o) LMP.FAILOVERS
      else s3
    let s5 := if why = .swap && s4.swapWaits o then
        if (List.range 4).all (fun w => !s4.carries o w) then s4.swapDone o wearOk else s4
      else s4
    s5.afterTakeover k wearOk

/-! ## LMP_CTL (R119, R130, R135, R139, R144) -/

/-- Bus recovery of the last selected position of bus `b`, module `n` (R143). -/
def State.recoverBus (s : State) (b n : Nat) (found : Recovery) : State :=
  let p := Page.mgb b
  let pos := n % 4
  match found with
  | .clear => s.setFlag p MGB.MGB_STATUS_STUCK false
  | .freed => ((s.setFlag p MGB.MGB_STATUS_STUCK false).count p MGB.MGB_RECOVERIES).raise p MGB.S_RECOVERED
  | .isolated =>
    let s1 := s.setFld p MGB.MGB_STATUS_ISOLATED (setBitN (s.fld p MGB.MGB_STATUS_ISOLATED) pos true)
    ((s1.setFlag p MGB.MGB_STATUS_STUCK false).setFlag (Page.lmp n) LMP.LMP_STATUS_STUCK true).raise
      (Page.lmp n) LMP.S_BUS_STUCK
  | .busStuck =>
    let s1 := s.setFld p MGB.MGB_STATUS_ISOLATED (setBitN (s.fld p MGB.MGB_STATUS_ISOLATED) pos true)
    let s2 := (s1.setFlag (Page.lmp n) LMP.LMP_STATUS_STUCK true).raise (Page.lmp n) LMP.S_BUS_STUCK
    (s2.setFlag p MGB.MGB_STATUS_STUCK true).raise p MGB.S_BUS_STUCK

/-- The position of module `n` is served again (R144). -/
def State.readmit (s : State) (n : Nat) : State :=
  let p := Page.mgb (n / 4)
  let s1 := s.setFld p MGB.MGB_STATUS_ISOLATED (setBitN (s.fld p MGB.MGB_STATUS_ISOLATED) (n % 4) false)
  (s1.setFlag (Page.lmp n) LMP.LMP_STATUS_STUCK false).clearCause (Page.lmp n) LMP.S_BUS_STUCK

/-- RETRY: the STUCK position is recovered and re-admitted (R144). -/
def State.retryPosition (s : State) (n : Nat) (found : Recovery) : State :=
  if s.flag (Page.lmp n) LMP.LMP_STATUS_STUCK then
    let s1 := (s.setFld (Page.mgb (n / 4)) MGB.MGB_STATUS_SEL (n % 4)).readmit n
    s1.recoverBus (n / 4) n found
  else s

/-- What the fields of a write of LMP_CTL do: ENABLE and SWAP_REQ are stored; RETRY, SAVE and TAKE act. -/
def State.writeLmpCtl (s : State) (n : Nat) (old new : Word) (act : Bool) (wearOk : Bool) (found : Recovery) : State :=
  let p := Page.lmp n
  let en := Word.bit new 0
  let swap := Word.bit new 5
  let s1 := (s.setFlag p LMP.LMP_CTL_ENABLE en).setFlag p LMP.LMP_CTL_SWAP_REQ swap
  let s2 := if en then s1 else s1.lmEnFall n wearOk
  let s3 := if act && Word.bit new 7 then s2.retryPosition n found else s2
  let s4 := if act && Word.bit new 6 && 3 ≤ s3.mstate n then s3.writeWear n wearOk else s3
  let s5 := if act then s4.takeAll n (Word.bits new 8 4) else s4
  if swap && !Word.bit old 5 && 3 ≤ s5.mstate n then s5.swapTry n wearOk else s5

/-- A host write of LMP_CTL: RETRY, SAVE and TAKE act in a 64-bit write only (R62). -/
def State.lmpCtlWrite (s : State) (r : Req) (n : Nat) (data : Word) (wearOk : Bool) (found : Recovery) : State :=
  let p := Page.lmp n
  s.hostWriteParts r p LMP.LMP_CTL 0xFC0 data fun s =>
    let old := s.reg p LMP.LMP_CTL
    s.writeLmpCtl n old (mergeHalf r.size old data) (r.size == .w64) wearOk found

/-! ## Presence, identity and samples (R125 to R129, R140) -/

/-- Fields that a module's removal clears (R140). -/
def State.emptyBay (s : State) (n : Nat) : State :=
  let p := Page.lmp n
  let s1 := (s.setFlag p LMP.LMP_CTL_ENABLE false).setFlag p LMP.LMP_CTL_SWAP_REQ false
  let cleared := [LMP.LMP_STATUS_STUCK, LMP.LMP_STATUS_SWAP_READY, LMP.LMP_STATUS_ID_OK, LMP.LMP_STATUS_LASER_FAULT,
    LMP.LMP_STATUS_STANDBY_OK, LMP.LMP_STATUS_CARRY, LMP.LMP_STATUS_LEN, LMP.LMP_STATUS_FAULT, LMP.LMP_STATUS_MSTATE,
    LMP.LMP_STATUS_INTLK]
  let s2 := cleared.foldl (fun s f => s.setFld p f 0) s1
  let s3 := if (s.bay n).cmd.isSome then (s2.setFlag p LMP.MEM_STATUS_BUSY false).setFlag p LMP.MEM_STATUS_ERROR true else s2
  let s4 := [LMP.S_ID_BAD, LMP.S_CASE_HOT, LMP.S_WEAR_80, LMP.S_WEAR_95, LMP.S_LIFE_EXCEEDED, LMP.S_BUS_STUCK,
    LMP.S_INTERLOCK_OPEN].foldl (fun s f => s.clearCause p f) s3
  let drop (s : State) (w : Nat) : State := if s.moveTo n w then s.dropMove n w else s
  ((List.range 4).foldl drop s4).setBay n dflt.bay

/-- Debounced presence changes (R140). -/
def State.presence (s : State) (n : Nat) (seated : Bool) : State :=
  let p := Page.lmp n
  if s.flag p LMP.LMP_STATUS_PRESENT == seated then s
  else
    let s1 := (s.setFlag p LMP.LMP_STATUS_PRESENT seated).raise p LMP.S_PRESENT_CHANGE
    if seated then (s1.readmit n).setFld p LMP.LMP_STATUS_MSTATE 1 else s1.emptyBay n

/-- The identity is accepted (R125). -/
def identityGood (l : List Byte) : Bool :=
  decide (beAt l 0xFC 4 = crc32c (l.take 0xFC)) && beAt l 0 2 == 0x4F43 && beAt l 2 1 == 1 && beAt l 3 1 == 4
    && beAt l 0x24 2 == 1271 && beAt l 0x26 1 == 20

/-- The identity read of a module in IDENT completes with `l` (R125, R130). -/
def State.identity (s : State) (n : Nat) (l : List Byte) (adj : Int) (wear : List Byte) : State :=
  let p := Page.lmp n
  if s.mstate n = 1 then
    if identityGood l then
      let s1 := s.setBay n { s.bay n with iNom := beAt l 0x32 2, iStby := beAt l 0x38 2, pNom := signed 16 (beAt l 0x36 2),
                                          rated := beAt l 0x2C 4, driveAdj := adj }
      ((s1.setFlag p LMP.LMP_STATUS_ID_OK true).setFld p LMP.LMP_STATUS_MSTATE 3).loadSlots n wear
    else (s.setFld p LMP.LMP_STATUS_MSTATE 2).raise p LMP.S_ID_BAD
  else s

/-- The current last commanded to laser `w` (R127). -/
def Bay.commanded (b : Bay) (w : Nat) : Nat :=
  if Nat.bitAt b.act w then ((b.iNom : Int) * (100 + b.driveAdj) / 100).toNat else b.iStby

/-- What the registers show of a sample, and CASE_HOT (R126). -/
def State.showSample (s : State) (n : Nat) (x : LaserSample) : State :=
  let p := Page.lmp n
  let pack (f : Nat → Nat) : Nat := (List.range 4).foldl (fun v w => v + f w % 2 ^ 12 * 2 ^ (12 * w)) 0
  let s1 := s.setBay n { s.bay n with caseT := x.caseT, faults := x.faults }
  let s2 := (s1.setFld p LMP.MON_I_VAL (pack (fun w => x.drive.getD w 0 / 10))).setFld p LMP.MON_P_VAL
    (pack (fun w => unsigned 12 ((x.mon.getD w 0).tdiv 10)))
  let s3 := (s2.setFld p LMP.MON_T_CASE_T (unsigned 16 x.caseT)).setFlag p LMP.LMP_STATUS_FAULT (x.faults != 0)
  let s4 := if 70 * 256 < x.caseT then s3.raise p LMP.S_CASE_HOT else s3.clearCause p LMP.S_CASE_HOT
  let lit := (List.range 4).foldl (fun v w => setBitN v w (s.lmEn n && decide (0 < x.drive.getD w 0))) 0
  (s4.showStandby n).turnOn n lit

/-- One second of wear of laser `w` at current `i` (zero while LM_EN is low) and case temperature `t` (R126). -/
def State.wearSecond (s : State) (n w i : Nat) (t : Int) : State :=
  let i' := if s.lmEn n then i else 0
  (s.addWear n w (s.wearStep i' (s.bay n).iNom t)).drawn

/-- One second of the wear account (R126, R127). -/
def State.sampleSecond (s : State) (n : Nat) (sample : Option LaserSample) : State :=
  if 3 ≤ s.mstate n then
    let got := if s.flag (Page.lmp n) LMP.LMP_STATUS_STUCK then none else sample
    let s1 := match got with | some x => s.showSample n x | none => s
    let b := s1.bay n
    let i (w : Nat) : Nat := match got with | some x => x.drive.getD w 0 | none => b.commanded w
    let s2 := (List.range 4).foldl (fun s w => s.wearSecond n w (i w) b.caseT) s1
    let s3 := if s.lmEn n then s2.setBay n { s2.bay n with onMs := b.onMs + 1000 } else s2
    s3.showLife n
  else s

/-! ## Management memory and buses (R122, R142 to R144) -/

/-- A MEM_CMD write: refused with BUSY, a STUCK segment, a length above six bytes, or a write that is not the one byte of
DRIVE_ADJ (R122, R123). -/
def State.memCmd (s : State) (n : Nat) (cmd : Word) (write : Bool) : State :=
  let p := Page.lmp n
  let len := Word.bits cmd 44 3 + 1
  let off := Word.bits cmd 0 16
  if s.flag p LMP.MEM_STATUS_BUSY || s.flag p LMP.LMP_STATUS_STUCK || decide (6 < len)
      || (write && !(len == 1 && off == 0x140)) then
    s.setFlag p LMP.MEM_STATUS_REFUSED true
  else
    let s1 := ((s.setFlag p LMP.MEM_STATUS_REFUSED false).setFlag p LMP.MEM_STATUS_ERROR false).setFlag p LMP.MEM_STATUS_BUSY true
    s1.setBay n { s1.bay n with cmd := some ⟨write, len, off, s.reg p LMP.MEM_DATA⟩ }

/-- The bytes of a completed read in MEM_DATA, the first at [47:40]. -/
def memWord (l : List Byte) : Word := BitVec.ofNat 48 (beAt (fit 6 l) 0 6)

/-- A waiting command of module `n` completes. -/
def State.memDone (s : State) (n : Nat) (c : MemCmd) (data : List Byte) : State :=
  let p := Page.lmp n
  let s1 := (s.setFlag p LMP.MEM_STATUS_BUSY false).setBay n { s.bay n with cmd := none }
  if c.write then
    let v := c.data.toNat / 2 ^ 40
    (s1.setBay n { s1.bay n with driveAdj := signed 8 v }).emit (.moduleWrite n c.offset [BitVec.ofNat 8 v])
  else s1.setReg p LMP.MEM_DATA (memWord (data.take c.len))

/-- A waiting command of module `n` fails (R142). -/
def State.memFails (s : State) (n : Nat) : State :=
  if (s.bay n).cmd.isSome then
    ((s.setFlag (Page.lmp n) LMP.MEM_STATUS_BUSY false).setFlag (Page.lmp n) LMP.MEM_STATUS_ERROR true).setBay n
      { s.bay n with cmd := none }
  else s

/-- Bus `b` serves module `n`: its bus is enabled and not stuck, and the position not isolated. -/
def State.served (s : State) (n : Nat) : Bool :=
  s.flag (Page.mgb (n / 4)) MGB.MGB_CTL_ENABLE && !s.flag (Page.mgb (n / 4)) MGB.MGB_STATUS_STUCK
    && !Nat.bitAt (s.fld (Page.mgb (n / 4)) MGB.MGB_STATUS_ISOLATED) (n % 4)

/-- A transaction on a bus ends (R142). -/
def State.transaction (s : State) (n : Nat) (met : BusOutcome) : State :=
  let p := Page.mgb (n / 4)
  if s.served n then
    let s1 := s.setFld p MGB.MGB_STATUS_SEL (n % 4)
    match met with
    | .done data => match (s1.bay n).cmd with
      | some c => s1.memDone n c data
      | none => s1
    | .nack => ((s1.count p MGB.MGB_NACKS).raise p MGB.S_NACK).memFails n
    | .timeout => ((s1.count p MGB.MGB_NACKS).raise p MGB.S_TIMEOUT).memFails n
  else s

/-- Bus recovery of bus `b` with the position last selected (R143). -/
def State.recovery (s : State) (b : Nat) (found : Recovery) : State :=
  let s1 := s.recoverBus b (4 * b + s.fld (Page.mgb b) MGB.MGB_STATUS_SEL) found
  s1.setFlag (Page.mgb b) MGB.MGB_CTL_RECOVER false

/-- A write of MGB_CTL: SPEED and ENABLE are stored; RECOVER, or ENABLE from 0 to 1, runs a recovery. -/
def State.writeMgbCtl (s : State) (b : Nat) (old new : Word) (found : Recovery) : State :=
  let p := Page.mgb b
  let s1 := (s.setFld p MGB.MGB_CTL_SPEED (Word.bits new 2 2)).setFlag p MGB.MGB_CTL_ENABLE (Word.bit new 0)
  if Word.bit new 1 || (Word.bit new 0 && !Word.bit old 0) then s1.recovery b found else s1

/-! ## Meanings -/

def execPresenceDebounced (n : Fin 36) (seated : Bool) (s : State) : Result := answer (s.presence n seated)

def execIdentityRead (n : Fin 36) (ident : Option (List Byte)) (adj : Int) (wear : List Byte) (s : State) : Result :=
  answer (match ident with
    | some l => if s.served n then s.identity n l adj wear else s
    | none => s)

/-- LM_EN rises once its conditions hold; each laser without a fault begins to emit (R119, R121, R128). -/
def execLmEnRise (n : Fin 36) (s : State) : Result :=
  answer (if s.mayEnable n then
      let p := Page.lmp n
      let s1 := (s.setFlag p LMP.LMP_STATUS_INTLK true).clearCause p LMP.S_INTERLOCK_OPEN
      let s2 := (s1.setFlag p LMP.LMP_STATUS_LEN true).setFld p LMP.LMP_STATUS_MSTATE 4
      s2.turnOn n (15 - Nat.lor (s.fld p LMP.LMP_STATUS_LASER_FAULT) (s.bay n).faults % 16)
    else s)

/-- The interlock opens: LM_EN falls and ENABLE is cleared (R119). -/
def execInterlockOpen (n : Fin 36) (wearOk : Bool) (s : State) : Result :=
  let p := Page.lmp n
  let s1 := s.setFlag p LMP.LMP_STATUS_INTLK false
  let s2 := if s.lmEn n then s1.raise p LMP.S_INTERLOCK_OPEN else s1
  answer ((s2.lmEnFall n wearOk).setFlag p LMP.LMP_CTL_ENABLE false)

def execWarmingDone (n : Fin 36) (s : State) : Result :=
  answer (if s.mstate n = 4 then s.enterReady n else s)

/-- The lasers of `late` without a fault that have not reached their target are faulted (R121). -/
def execWarmingTimeout (n : Fin 36) (late : Fin 16) (s : State) : Result :=
  answer (if s.mstate n = 4 then
      let p := Page.lmp n
      let s1 := s.setFld p LMP.LMP_STATUS_LASER_FAULT (Nat.lor (s.fld p LMP.LMP_STATUS_LASER_FAULT) late)
      (s1.raiseIf (late.val != 0) p LMP.S_LASER_FAIL).enterReady n
    else s)

def execFeedChoice (k : Fin 18) (s : State) : Result :=
  let s1 := (List.range 4).foldl (fun s w => s.chooseFeed k w) s
  answer ((s1.showStandby (2 * k.val)).showStandby (2 * k.val + 1))

def execWearSample (n : Fin 36) (sample : Option LaserSample) (s : State) : Result := answer (s.sampleSecond n sample)

def execWearRecordPeriodic (n : Fin 36) (wearOk : Bool) (s : State) : Result :=
  answer (if 3 ≤ s.mstate n then s.writeWear n wearOk else s)

def execLmpSave (r : Req) (n : Fin 36) (data : Word) (wearOk : Bool) (s : State) : Result :=
  answer (s.lmpCtlWrite r n data wearOk .clear)

def execLmpEnableWrite (r : Req) (n : Fin 36) (data : Word) (wearOk : Bool) (s : State) : Result :=
  answer (s.lmpCtlWrite r n data wearOk .clear)

def execLmpTake (r : Req) (n : Fin 36) (data : Word) (s : State) : Result :=
  answer (s.lmpCtlWrite r n data true .clear)

def execLmpSwapReq (r : Req) (n : Fin 36) (data : Word) (wearOk : Bool) (s : State) : Result :=
  answer (s.lmpCtlWrite r n data wearOk .clear)

def execLmpRetry (r : Req) (n : Fin 36) (data : Word) (found : Recovery) (s : State) : Result :=
  answer (s.lmpCtlWrite r n data true found)

def execFeedFailure (n : Fin 36) (w : Fin 4) (s : State) : Result :=
  answer (if s.carries n w || s.moveTo n w then s.laserFails n w else s)

def execLmFaultAssert (n : Fin 36) (s : State) : Result :=
  answer ((s.setFlag (Page.lmp n) LMP.LMP_STATUS_FAULT true).moduleFails n)

/-- LM_PRES_N goes high: every carried wavelength has failed; a module that loses one without a swap request, with no laser to take it
over, sets LASER_FAIL all the same (R131, R140). -/
def execLmPresNHigh (n : Fin 36) (s : State) : Result :=
  let p := Page.lmp n
  let s1 := s.moduleFails n
  let lost := !s.flag p LMP.LMP_CTL_SWAP_REQ
    && (List.range 4).any (fun w => s.carries n w && (s1.feed (n.val / 2) w).move.isNone)
  answer (if lost then (s1.raise p LMP.S_LASER_FAIL).clearCause p LMP.S_LASER_FAIL else s1)

def execFeedSwitch (k : Fin 18) (w : Fin 4) (wearOk : Bool) (s : State) : Result := answer (s.switchFeed k w wearOk)

/-- A power measured in a closure run reaches the failure threshold (R136): powers in 0.01 dBm. -/
def State.runPasses (s : State) (n : Nat) (p : Int) : Bool :=
  decide ((s.bay n).pNom - 10 * (s.fld (Page.lmp n) LMP.FAIL_CFG_THRESH : Int) ≤ p)

def execStandbyClosureRun (n : Fin 36) (w : Fin 4) (first second : Int) (biasOk : Bool) (s : State) : Result :=
  answer (if s.laserReady n w && s.lmEn n && !s.carries n w && !s.moveTo n w then
      let ok := s.runPasses n first || s.runPasses n second
      let b := s.bay n
      let s1 := s.setBay n { b with runOk := setBitN b.runOk w ok, biasOk := setBitN b.biasOk w biasOk }
      if ok then s1.showStandby n
      else
        let s2 := (s1.setLaserBit n LMP.LMP_STATUS_LASER_FAULT w true).showStandby n
        (s2.raise (Page.lmp n) LMP.S_STANDBY_FAIL).clearCause (Page.lmp n) LMP.S_STANDBY_FAIL
    else s)

def execSwapRetry (n : Fin 36) (wearOk : Bool) (s : State) : Result :=
  answer (if s.swapWaits n && 3 ≤ s.mstate n then s.swapTry n wearOk else s)

/-- A write of MEM_CMD; its WRITE bit says which command it is. -/
def execModuleMemRead (r : Req) (n : Fin 36) (data : Word) (s : State) : Result :=
  answer (s.hostWrite r (Page.lmp n) LMP.MEM_CMD 0 true fun s => s.memCmd n data false)

def execModuleMemWrite (r : Req) (n : Fin 36) (data : Word) (s : State) : Result :=
  answer (s.hostWrite r (Page.lmp n) LMP.MEM_CMD 0 true fun s => s.memCmd n data true)

def execMgbTransaction (b : Fin 9) (pos : Fin 4) (met : BusOutcome) (s : State) : Result :=
  answer (s.transaction (4 * b.val + pos.val) met)

def execMgbRecover (b : Fin 9) (why : RecoverWhy) (found : Recovery) (s : State) : Result :=
  answer (match why with
    | .write r data => s.hostWrite r (Page.mgb b) MGB.MGB_CTL 0 false fun s =>
        let old := s.reg (Page.mgb b) MGB.MGB_CTL
        s.writeMgbCtl b old (mergeHalf r.size old data) found
    | .timeout => s.recovery b found
    | .reset => s.recovery b found)

end Sys2Proof.Machine
end

