-- ==== Sys2Proof/Machine/Pause.lean ====
section
/-!
DEFINITION. Sys2Proof/Machine/Pause.lean: pause and priority flow control of logical ports (R260 to R265).
-/
namespace Sys2Proof.Machine

def State.port (s : State) (lp : Nat) : Port := s.ports.get lp dflt.port
def State.setPort (s : State) (lp : Nat) (x : Port) : State := { s with ports := s.ports.set lp x dflt.port }

def lpPage (lp : Nat) : Page := Page.pen (lp / 4)

/-- A field of a logical port's registers. -/
def State.lpFld (s : State) (lp : Nat) (f : Fld) : Nat := s.fld (lpPage lp) f (lp % 4)
def State.setLpFld (s : State) (lp : Nat) (f : Fld) (x : Nat) : State := s.setFld (lpPage lp) f x (lp % 4)

/-- A counter of a logical port counts. -/
def State.lpCount (s : State) (lp : Nat) (f : Fld) (n : Nat := 1) : State := s.count (lpPage lp) f n (lp % 4)

/-- The counter `k` slots of `f` further on: counters that come in eights. -/
def Fld.plus (f : Fld) (k : Nat) : Fld := { f with off := f.off + 8 * k }

/-- A class of the port, as a mask bit of an LP field. -/
def State.setLpBit (s : State) (lp : Nat) (f : Fld) (c : Nat) (b : Bool) : State :=
  let v := s.lpFld lp f
  s.setLpFld lp f (v - v / 2 ^ c % 2 * 2 ^ c + (if b then 2 ^ c else 0))

/-- The class of queue index `q` of a port (R262). -/
def State.pfcClass (s : State) (lp q : Nat) : Nat := s.lpFld lp PEN.PFC_MAP_CLASS / 8 ^ (q % 16) % 8

/-- The classes paused now, `mask`; the PAUSED bits of the port's unicast queues follow (R262). -/
def State.setPaused (s : State) (lp mask : Nat) : State :=
  let s1 := s.setLpFld lp PEN.LP_STATUS_PAUSED mask
  (List.range 16).foldl (fun (s : State) (q : Nat) =>
    s.setFlag (Page.tmw lp) TMW.Q_STATUS_PAUSED (Nat.bitAt mask (s1.pfcClass lp q)) q) s1

def State.setPausedBit (s : State) (lp c : Nat) (b : Bool) : State :=
  let v := s.lpFld lp PEN.LP_STATUS_PAUSED
  s.setPaused lp (v - v / 2 ^ c % 2 * 2 ^ c + (if b then 2 ^ c else 0))

/-- FC_MODE: 1 PAUSE, 2 PFC. -/
def State.fcMode (s : State) (lp : Nat) : Nat := s.lpFld lp PEN.LP_CTL_FC_MODE

/-- A MAC Control frame with its FCS, padded to 64 bytes. -/
def controlFrame (src : Word) (body : List Byte) : List Byte :=
  let l := fit 60 ([0x01, 0x80, 0xC2, 0x00, 0x00, 0x01] ++ beBytes 6 src.toNat ++ [0x88, 0x08] ++ body)
  l ++ leBytes 4 (crcFcs l)

/-- A pause or PFC frame of `q` quanta for the classes of `mask` is sent and counted (R263). -/
def State.sendPause (s : State) (lp mask q : Nat) : State :=
  let src := s.reg (lpPage lp) PEN.PAUSE_SA
  if s.fcMode lp = 1 then
    (s.emit (.frame lp (controlFrame src ([0x00, 0x01] ++ beBytes 2 q)))).lpCount lp PEN.C_TX_PAUSE
  else if s.fcMode lp = 2 then
    let times := (List.range 8).flatMap (fun c => beBytes 2 (if Nat.bitAt mask c then q else 0))
    let s1 := (s.emit (.frame lp (controlFrame src ([0x01, 0x01] ++ beBytes 2 mask ++ times)))).lpCount lp PEN.C_TX_PFC
    if q = 0 then s1
    else (List.range 8).foldl (fun s c => if Nat.bitAt mask c then s.lpCount lp (PEN.C_TX_PFC_XOFF0.plus c) else s) s1
  else s

/-- The classes that the port may assert towards its peer. -/
def State.xoffAllowed (s : State) (lp : Nat) : Nat :=
  if s.fcMode lp = 2 then s.lpFld lp PEN.LP_CTL_PFC_TX_EN else 255

/-- The traffic manager asks for an XOFF of class `c`. -/
def State.assertClass (s : State) (lp c : Nat) : State :=
  if Nat.bitAt (s.lpFld lp PEN.LP_STATUS_XOFF_SENT) c || !Nat.bitAt (s.xoffAllowed lp) c || s.fcMode lp == 0
      || s.fcMode lp == 3 then s
  else
    let s1 := s.setLpBit lp PEN.LP_STATUS_XOFF_SENT c true
    s1.sendPause lp (Nat.land (s1.lpFld lp PEN.LP_STATUS_XOFF_SENT) (s1.xoffAllowed lp)) (s1.fld (lpPage lp) PEN.PFC_TX_CFG_QUANTA)

/-- The assertion of class `c` ends: one frame with time 0 for it. -/
def State.releaseClass (s : State) (lp c : Nat) : State :=
  if Nat.bitAt (s.lpFld lp PEN.LP_STATUS_XOFF_SENT) c then
    (s.setLpBit lp PEN.LP_STATUS_XOFF_SENT c false).sendPause lp (2 ^ c) 0
  else s

/-- One class is given a pause time of `q` quanta (R261, R264). -/
def State.pauseClass (s : State) (lp c q : Nat) : State :=
  let x := s.port lp
  let s1 := s.setPort lp { x with quanta := x.quanta.set c q }
  if Nat.bitAt x.storm c then s1 else s1.setPausedBit lp c (q != 0)

/-- A received MAC Control frame with a good FCS (R260, R261): `l` from the destination address on. -/
def State.macControl (s : State) (lp : Nat) (l : List Byte) : State :=
  let op := beAt l 14 2
  if op = 0x0001 ∧ s.fcMode lp = 1 then
    (List.range 8).foldl (fun s c => s.pauseClass lp c (beAt l 16 2)) (s.lpCount lp PEN.C_RX_PAUSE)
  else if op = 0x0101 ∧ s.fcMode lp = 2 then
    let named := Nat.land (beAt l 16 2) (s.lpFld lp PEN.LP_CTL_PFC_RX_EN)
    let one (s : State) (c : Nat) : State :=
      let q := beAt l (18 + 2 * c) 2
      let s1 := if Nat.bitAt (beAt l 16 2) c && q != 0 then s.lpCount lp (PEN.C_RX_PFC_XOFF0.plus c) else s
      if Nat.bitAt named c then s1.pauseClass lp c q else s1
    (List.range 8).foldl one (s.lpCount lp PEN.C_RX_PFC)
  else s.lpCount lp PEN.C_RX_MAC_CTL_DISCARD

end Sys2Proof.Machine
end

