-- ==== Sys2Proof/Machine/PortSets.lean ====
section
/-!
DEFINITION. Sys2Proof/Machine/PortSets.lean: lane sets, states and rates of logical ports (08_port_engines.md).
-/
namespace Sys2Proof.Machine

def State.lane (s : State) (l : Nat) : Lane := s.lanes.get l dflt.lane
def State.setLane (s : State) (l : Nat) (x : Lane) : State := { s with lanes := s.lanes.set l x dflt.lane }

/-! ## Breakout and lane sets (R240, R241, R695) -/

def State.breakout (s : State) (pe : Nat) : Nat := s.fld (Page.pen pe) PEN.PE_CFG_BREAKOUT

/-- The breakout creates logical port `lp`. -/
def State.created (s : State) (lp : Nat) : Bool :=
  match s.breakout (lp / 4) with
  | 0 => lp % 4 == 0
  | 1 => lp % 2 == 0
  | _ => true

/-- The configured lane set of `lp`, as a mask of the port engine's lanes. -/
def State.configured (s : State) (lp : Nat) : Nat :=
  match s.breakout (lp / 4) with
  | 0 => 15
  | 1 => 3 * 2 ^ (lp % 4)
  | _ => 2 ^ (lp % 4)

/-- The logical port whose configured set holds lane `l`. -/
def State.portOfLane (s : State) (l : Nat) : Nat :=
  match s.breakout (l / 4) with
  | 0 => l / 4 * 4
  | 1 => l / 2 * 2
  | _ => l

def State.lpEnabled (s : State) (lp : Nat) : Bool := s.created lp && s.lpFld lp PEN.LP_CTL_ENABLE == 1

/-- The present lane set. -/
def State.laneSet (s : State) (lp : Nat) : Nat := s.lpFld lp PEN.LP_STATUS_LANES

/-- Lanes of the port engine of `lp` in a mask. -/
def lanesOf (lp mask : Nat) : List Nat := ((List.range 4).filter (fun i => Nat.bitAt mask i)).map (fun i => lp / 4 * 4 + i)

/-- Number of lanes in a mask. -/
def popCount4 (mask : Nat) : Nat := ((List.range 4).filter (fun i => Nat.bitAt mask i)).length

/-- Lane `l` belongs to a logical port (R695). -/
def State.member (s : State) (l : Nat) : Bool :=
  let lp := s.portOfLane l
  s.lpEnabled lp && Nat.bitAt (s.laneSet lp) (l % 4)

/-- States of a logical port (R256), as LP_STATUS.LSTATE codes them. -/
abbrev lpDisabled : Nat := 0
abbrev lpDown : Nat := 1
abbrev lpUp : Nat := 2
abbrev lpReduced : Nat := 3

def State.linkState (s : State) (lp : Nat) : Nat := s.lpFld lp PEN.LP_STATUS_LSTATE
def State.linkUp (s : State) (lp : Nat) : Bool := s.linkState lp == lpUp || s.linkState lp == lpReduced

/-- The port runs fabric mode, by the sampled LANE_CTL of its first lane. -/
def State.fabricPort (s : State) (lp : Nat) : Bool := Word.bit (s.lane lp).sampled 8

/-- A lane's share of its port's rate in units of 10 kb/s (R240, R249). -/
def laneRate (rate : Nat) (fabric : Bool) : Nat :=
  if fabric then
    (match rate with | 0 => 2421875 | 1 => 4843750 | 2 => 9687500 | 3 => 19375000 | _ => 38750000)
  else (match rate with | 0 => 2500000 | 1 => 5000000 | 2 => 10000000 | 3 => 20000000 | _ => 40000000)

/-- The present rate of a port in units of 10 kb/s. -/
def State.portRate (s : State) (lp : Nat) : Nat :=
  popCount4 (s.laneSet lp) * laneRate (Word.bits (s.lane lp).sampled 0 3) (s.fabricPort lp)

/-- MAX_FRAME of a port (R244). -/
def State.maxFrame (s : State) (lp : Nat) : Nat := Nat.max 64 (s.lpFld lp PEN.LP_CTL_MAX_FRAME)

/-- The feature that the last tie-in of the port agreed (R253): 0 SPARE, 1 SPRAY, 2 PRECODE, 3 INT. -/
def State.agreed (s : State) (lp k : Nat) : Bool :=
  s.lpFld lp PEN.TIEIN_STATUS_VALID == 1 && Nat.bitAt (s.lpFld lp PEN.TIEIN_STATUS_AGREED) k

end Sys2Proof.Machine
end

