-- ==== Sys2Proof/Machine/Parcels.lean ====
section
/-!
DEFINITION. Sys2Proof/Machine/Parcels.lean: parcels, quotas, function bindings, easements, page windows and the doorbells of
tenant command rings (03_parcels_and_easements.md).
Readings and choices (notes/assumptions): DEDUCED 24, 26.
-/
namespace Sys2Proof.Machine

/-! ## Slots and quotas (R92, R99 to R104) -/

/-- The PCL page of parcel `p` and its slot there (R92). -/
def pclPage (p : Nat) : Page := Page.pcl (p / 64)
def pclSlot (p : Nat) : Nat := p % 64

/-- A field of parcel `p`'s slot. -/
def State.pclFld (s : State) (p : Nat) (f : Fld) : Nat := s.fld (pclPage p) f (pclSlot p)

def State.setPclFld (s : State) (p : Nat) (f : Fld) (x : Nat) : State := s.setFld (pclPage p) f x (pclSlot p)

/-- The parcel is in service (R91). -/
def State.parcelValid (s : State) (p : Nat) : Bool := decide (p < 4096) && s.pclFld p PCL.PARCEL_CFG_VALID == 1

/-- Key of the counter at offset `off` of parcel `p`'s counter block (R116). -/
def parcelCtr (p off : Nat) : Nat := bulkKey (0x100 * 2 ^ 24 + p * 0x1000 + off)

/-- A counter of parcel `p`'s block counts `n`. -/
def State.parcelCount (s : State) (p off n : Nat) : State := s.countSlot (parcelCtr p off) n

/-- A use of parcel `p` was refused under a quota (R104): its QUOTA_HIT bit is set, and a 0-to-1 transition raises
QUOTA_HIT. -/
def State.quotaHit (s : State) (p : Nat) : State :=
  let g := pclPage p
  let j := pclSlot p
  if j < 48 then
    let s1 := s.setReg g PCL.QUOTA_HIT_LO (Word.setBit (s.reg g PCL.QUOTA_HIT_LO) j true)
    s1.raiseIf (!Word.bit (s.reg g PCL.QUOTA_HIT_LO) j) g PCL.S_QUOTA_HIT
  else
    let s1 := s.setReg g PCL.QUOTA_HIT_HI (Word.setBit (s.reg g PCL.QUOTA_HIT_HI) (j - 48) true)
    s1.raiseIf (!Word.bit (s.reg g PCL.QUOTA_HIT_HI) (j - 48)) g PCL.S_QUOTA_HIT

/-- Buffer islands in service: as ISLAND_CTL.IN_SERVICE shows them (R474). -/
def State.islandsIn (s : State) : Nat :=
  ((List.range 4).filter (fun b => Nat.bitAt (s.fld Page.bpm BPM.ISLAND_CTL_IN_SERVICE) b)).length

/-- MIN_CELLS that slot `a` of the register table adds to the sum of R101: that of a valid parcel other than `except`. -/
def State.minCellsAt (s : State) (except a : Nat) : Nat :=
  let p := (a / 0x1000 - 0x200) * 64 + (a % 0x1000 - 0x100) / 0x38
  if 0x200 ≤ a / 0x1000 ∧ a / 0x1000 < 0x240 ∧ 0x100 ≤ a % 0x1000 ∧ a % 0x1000 < 0xF00 ∧ (a % 0x1000 - 0x100) % 0x38 = 8
      ∧ p ≠ except ∧ s.parcelValid p then
    Word.bits (s.slot a) 0 21
  else 0

/-- The sum of MIN_CELLS over valid parcels other than `except` (R101): every parcel whose BUF_QUOTA is not listed has
MIN_CELLS 0. -/
def State.minSum (s : State) (except : Nat) : Nat := s.regs.foldl (fun n e => n + s.minCellsAt except e.1) 0

/-- Cells of the buffer islands in service. -/
def State.cellsIn (s : State) : Nat := 327680 * s.islandsIn

/-- Effect of a BUF_QUOTA write (R101). -/
def State.writeBufQuota (s : State) (p : Nat) (new : Word) : State :=
  let max := Word.bits new 24 21
  let min := Word.bits new 0 21
  if max < min then s.raise (pclPage p) PCL.S_QUOTA_FORMAT
  else if s.parcelValid p ∧ s.cellsIn < s.minSum p + min then s.raise (pclPage p) PCL.S_MIN_OVERCOMMIT
  else (s.setPclFld p PCL.BUF_QUOTA_MAX_CELLS max).setPclFld p PCL.BUF_QUOTA_MIN_CELLS min

/-- Effect of a PARCEL_CFG write (R91, R101, R105). -/
def State.writeParcelCfg (s : State) (p : Nat) (new : Word) : State :=
  if Word.bit new 0 ∧ ¬ s.parcelValid p ∧ s.cellsIn < s.minSum p + s.pclFld p PCL.BUF_QUOTA_MIN_CELLS then
    s.raise (pclPage p) PCL.S_MIN_OVERCOMMIT
  else s.setReg (pclPage p) PCL.PARCEL_CFG (BitVec.ofNat 48 (new.toNat % 2 ^ 10)) (pclSlot p)

/-! ## Token buckets (R103) -/

/-- Size of a bucket of `rate` thousand tokens a second, in thousandths of a token: one millisecond of the rate and never
less than one token; a rate of zero holds none. -/
def bucketSize (rate : Nat) : Nat := if rate = 0 then 0 else Nat.max 1000 (rate * 1000)

/-- Tokens of a bucket that held `have_` at `upto`, now: filled at the rate, up to the size. -/
def bucketNow (rate have_ upto now : Nat) : Nat := Nat.min (bucketSize rate) (have_ + rate * (now - upto))

/-- The parcel's buckets at the present time. -/
def State.bucketsNow (s : State) (p : Nat) : Buckets :=
  let b := s.buckets.get p dflt.bucket
  let st := s.pclFld p PCL.RATE_QUOTA_STAKE_RATE
  let cp := s.pclFld p PCL.RATE_QUOTA_COPY_RATE
  if b.fresh then { fresh := false, stake := bucketSize st, copy := bucketSize cp, upto := s.time.us }
  else { fresh := false, stake := bucketNow st b.stake b.upto s.time.us, copy := bucketNow cp b.copy b.upto s.time.us,
         upto := s.time.us }

def State.setBuckets (s : State) (p : Nat) (b : Buckets) : State := { s with buckets := s.buckets.set p b dflt.bucket }

/-- A copy to the host takes one token of parcel `p`; `none` where fewer than one remains. -/
def State.takeCopyToken (s : State) (p : Nat) : Option State :=
  let b := s.bucketsNow p
  if 1000 ≤ b.copy then some (s.setBuckets p { b with copy := b.copy - 1000 }) else none

/-- A staked packet takes one token of parcel `p`. -/
def State.takeStakeToken (s : State) (p : Nat) : Option State :=
  let b := s.bucketsNow p
  if 1000 ≤ b.stake then some (s.setBuckets p { b with stake := b.stake - 1000 }) else none

/-- Effect of a RATE_QUOTA write: stored, and both buckets are full (R103). -/
def State.writeRateQuota (s : State) (p : Nat) (new : Word) : State :=
  let s1 := s.setReg (pclPage p) PCL.RATE_QUOTA new (pclSlot p)
  s1.setBuckets p
    { fresh := false, stake := bucketSize (Word.bits new 24 24), copy := bucketSize (Word.bits new 0 24), upto := s1.time.us }

/-! ## Easements (R106 to R111) -/

/-- The kinds of use an easement permits (R107). -/
inductive UseKind where
  | forward | replicate | mirror | copyHost
deriving DecidableEq, Repr

/-- The easement permits the kind. -/
def Easement.permits (e : Easement) : UseKind → Bool
  | .forward => e.forward
  | .replicate => e.replicate
  | .mirror => e.mirror
  | .copyHost => e.copyHost

/-- The number of the valid easement from `src` to `dst` for a kind. -/
def State.findEasement (s : State) (src dst : Nat) (k : UseKind) : Option Nat :=
  (s.easements.find? (fun e => e.2.valid && decide (e.2.src = src) && decide (e.2.dst = dst) && e.2.permits k)).map (·.1)

def State.setEasement (s : State) (i : Nat) (e : Easement) : State :=
  { s with easements := s.easements.set i e dflt.easement }

/-- A packet of parcel `p` uses a resource of parcel `q` (R106): the parcel it belongs to from then on, and the state with
the use counted; `none` where it is not permitted, with the drop counted and NO_EASEMENT raised (R108). -/
def State.useResource (s : State) (p q : Nat) (k : UseKind) : Option Nat × State :=
  if q = p ∨ q = 0 then (some p, s)
  else match s.findEasement p q k with
    | some i =>
      let e := s.easements.get i dflt.easement
      let s1 := s.setEasement i { e with count := (e.count + 1) % 2 ^ 48 }
      (some q, (s1.parcelCount p 0x078 1).parcelCount q 0x080 1)
    | none => (none, (s.parcelCount p 0x048 1).raise (pclPage p) PCL.S_NO_EASEMENT)

/-! ## Indirect registers of PCL0 (R694) -/

/-- A command written to PCL0.IND_CMD: judged as a host write; discarded with IND_ERROR while BUSY; otherwise carried out,
with ERROR showing whether it failed. -/
def State.pclCommand (s : State) (r : Req) (eff : State → Option State) : State :=
  s.hostWrite r (Page.pcl 0) PCL.IND_CMD 0 true fun s =>
    if s.flag (Page.pcl 0) PCL.IND_STATUS_BUSY then s.raise (Page.pcl 0) PCL.S_IND_ERROR
    else match eff s with
      | some s' => s'.setFlag (Page.pcl 0) PCL.IND_STATUS_ERROR false
      | none => (s.setFlag (Page.pcl 0) PCL.IND_STATUS_ERROR true).raise (Page.pcl 0) PCL.S_IND_ERROR

/-- IND_DATA word `i` of PCL0, and that word made `v`. -/
def State.pclData (s : State) (i : Nat) : Word := s.reg (Page.pcl 0) PCL.IND_DATA i
def State.setPclData (s : State) (i : Nat) (v : Nat) : State := s.setReg (Page.pcl 0) PCL.IND_DATA (BitVec.ofNat 48 v) i

/-- Four 12-bit parcel numbers of a binding word, and all twelve slots of three words. -/
def bindingWord (l : List Nat) : Nat := (l.getD 0 0) + (l.getD 1 0) * 2 ^ 12 + (l.getD 2 0) * 2 ^ 24 + (l.getD 3 0) * 2 ^ 36
def bindingSlots (w : Word) : List Nat := [Word.bits w 0 12, Word.bits w 12 12, Word.bits w 24 12, Word.bits w 36 12]

/-- The function identifiers an indirect command may name: those of virtual functions. -/
def isVF (i : Nat) : Bool := decide (i < 256) && i % 128 != 0

def State.readProfile (s : State) (i : Nat) : Option State :=
  if i < 4096 then some (s.setPclData 0 (s.profiles.get i dflt.profile)) else none

def State.writeProfile (s : State) (i : Nat) : Option State :=
  if i < 4096 then some { s with profiles := s.profiles.set i (Word.bits (s.pclData 0) 0 32) dflt.profile } else none

def State.readBinding (s : State) (i : Nat) : Option State :=
  if isVF i then
    let l := s.bindings.get i dflt.binding
    some (((s.setPclData 0 (bindingWord l)).setPclData 1 (bindingWord (l.drop 4))).setPclData 2 (bindingWord (l.drop 8)))
  else none

/-- The binding is stored; the function's VFE page names its first parcel (R74, R96). -/
def State.writeBinding (s : State) (i : Nat) : Option State :=
  if isVF i then
    let l := bindingSlots (s.pclData 0) ++ bindingSlots (s.pclData 1) ++ bindingSlots (s.pclData 2)
    let s1 := { s with bindings := s.bindings.set i l dflt.binding }
    some (s1.setFld (Page.vfe i) TB.PAGE_OWNER_PARCEL (l.getD 0 0))
  else none

/-- An easement as IND_DATA0 gives it (R111). -/
def easementOf (w : Word) : Easement :=
  { valid := Word.bit w 47, copyHost := Word.bit w 46, mirror := Word.bit w 45, replicate := Word.bit w 44,
    forward := Word.bit w 43, src := Word.bits w 24 12, dst := Word.bits w 12 12, count := 0 }

def b2n (b : Bool) : Nat := if b then 1 else 0

def easementWord (e : Easement) : Nat :=
  b2n e.valid * 2 ^ 47 + b2n e.copyHost * 2 ^ 46 + b2n e.mirror * 2 ^ 45 + b2n e.replicate * 2 ^ 44 + b2n e.forward * 2 ^ 43
    + e.src * 2 ^ 24 + e.dst * 2 ^ 12

def State.readEasement (s : State) (i : Nat) : Option State :=
  if i < 4096 then
    let e := s.easements.get i dflt.easement
    some ((s.setPclData 0 (easementWord e)).setPclData 1 e.count)
  else none

/-- A write with VALID = 1 that doubles another entry's source and destination, or whose source is its destination, is not
stored; any other is, restarting the count (R111). -/
def State.writeEasement (s : State) (i : Nat) : Option State :=
  let e := easementOf (s.pclData 0)
  let other := s.easements.any (fun x => x.1 != i && x.2.valid && decide (x.2.src = e.src) && decide (x.2.dst = e.dst))
  if 4096 ≤ i then none
  else if e.valid && (other || decide (e.src = e.dst)) then none
  else some (s.setEasement i e)

def State.readWindow (s : State) (i : Nat) : Option State :=
  if isVF (i / 16) then
    let w := s.windows.get i dflt.window
    some (s.setPclData 0 (b2n w.valid * 2 ^ 47 + w.page))
  else none

/-- A page window with VALID = 1 must name a BAR0 page of R65 (R693). -/
def State.writeWindow (s : State) (i : Nat) : Option State :=
  let v := Word.bit (s.pclData 0) 47
  let p := Word.bits (s.pclData 0) 0 16
  if isVF (i / 16) && (!v || (Page.kind p).isSome) then
    some { s with windows := s.windows.set i { valid := v, page := p } dflt.window }
  else none

/-! ## Meanings -/

def execBufQuotaWrite (r : Req) (p : Fin 4096) (data : Word) (s : State) : Result :=
  answer (s.hostWrite r (pclPage p) PCL.BUF_QUOTA (pclSlot p) false fun s =>
    s.writeBufQuota p (mergeHalf r.size (s.reg (pclPage p) PCL.BUF_QUOTA (pclSlot p)) data))

def execParcelCfgWrite (r : Req) (p : Fin 4096) (data : Word) (s : State) : Result :=
  answer (s.hostWrite r (pclPage p) PCL.PARCEL_CFG (pclSlot p) false fun s =>
    s.writeParcelCfg p (mergeHalf r.size (s.reg (pclPage p) PCL.PARCEL_CFG (pclSlot p)) data))

def execRateQuotaWrite (r : Req) (p : Fin 4096) (data : Word) (s : State) : Result :=
  answer (s.hostWrite r (pclPage p) PCL.RATE_QUOTA (pclSlot p) false fun s =>
    s.writeRateQuota p (mergeHalf r.size (s.reg (pclPage p) PCL.RATE_QUOTA (pclSlot p)) data))

def execQuotaProfileRead (r : Req) (index : Fin 65536) (s : State) : Result :=
  answer (s.pclCommand r fun s => s.readProfile index)

def execQuotaProfileWrite (r : Req) (index : Fin 65536) (s : State) : Result :=
  answer (s.pclCommand r fun s => s.writeProfile index)

def execFunctionBindingRead (r : Req) (index : Fin 65536) (s : State) : Result :=
  answer (s.pclCommand r fun s => s.readBinding index)

def execFunctionBindingWrite (r : Req) (index : Fin 65536) (s : State) : Result :=
  answer (s.pclCommand r fun s => s.writeBinding index)

def execEasementRead (r : Req) (index : Fin 65536) (s : State) : Result :=
  answer (s.pclCommand r fun s => s.readEasement index)

def execEasementWrite (r : Req) (index : Fin 65536) (s : State) : Result :=
  answer (s.pclCommand r fun s => s.writeEasement index)

def execPageWindowRead (r : Req) (index : Fin 65536) (s : State) : Result :=
  answer (s.pclCommand r fun s => s.readWindow index)

def execPageWindowWrite (r : Req) (index : Fin 65536) (s : State) : Result :=
  answer (s.pclCommand r fun s => s.writeWindow index)

/-- Number of descriptors of command ring `c` of function `fn` (R112). -/
def State.cmdRingSize (s : State) (fn c : Nat) : Nat := 2 ^ (4 + s.fld (Page.vfe fn) VFE.CMD_CFG_SIZE c)

/-- CMD_TAIL takes the value modulo the ring size (R84, R112); only a virtual function has command rings (R52). -/
def execCmdTailWrite (r : Req) (c : Fin 4) (data : Word) (s : State) : Result :=
  answer (
    if isPF r.fn then s
    else s.hostWrite r (Page.vfe r.fn) VFE.CMD_TAIL c true fun s =>
      s.setFld (Page.vfe r.fn) VFE.CMD_TAIL_INDEX (Word.bits data 0 12 % s.cmdRingSize r.fn c) c)

end Sys2Proof.Machine
end

