-- ==== Sys2Proof/Machine/Phv.lean ====
section
/-!
DEFINITION. Sys2Proof/Machine/Phv.lean: the packet header vector (R307, R340, R341), the roles of traverses (R374), and the
indirect registers that the pages of a traverse region share (R337, R388).
Readings and choices (notes/assumptions): DEDUCED 20, 26, 51.
-/
namespace Sys2Proof.Machine

/-! ## PHV words -/

/-- PHV word `i` of a packet, and that word made `v`. -/
def Pkt.word (x : Pkt) (i : Nat) : Word := x.phv.get i 0
def Pkt.setWord (x : Pkt) (i : Nat) (v : Word) : Pkt := { x with phv := x.phv.set i v 0 }

/-- Bits `lo` to `lo + w − 1` of PHV word `i`. -/
def Pkt.bits (x : Pkt) (i lo w : Nat) : Nat := Word.bits (x.word i) lo w
def Pkt.setBits (x : Pkt) (i lo w v : Nat) : Pkt := x.setWord i (Word.setBits (x.word i) lo w v)
def Pkt.bit (x : Pkt) (i b : Nat) : Bool := Word.bit (x.word i) b

/-- Word of header instance `i`, the lowest bit of its field, TYPE and OFFSET. -/
def hdrWord (i : Nat) : Nat := 168 + i / 3
def hdrLsb (i : Nat) : Nat := 32 - 16 * (i % 3)
def Pkt.hdrType (x : Pkt) (i : Nat) : Nat := x.bits (hdrWord i) (hdrLsb i + 10) 6
def Pkt.hdrOff (x : Pkt) (i : Nat) : Nat := x.bits (hdrWord i) (hdrLsb i) 10
def Pkt.hdrCount (x : Pkt) : Nat := x.bits 179 42 6
def Pkt.endOffset (x : Pkt) : Nat := x.bits 179 20 10

/-- PARCEL, TC and INGRESS_LP of word 180; FLOW_HASH. -/
def Pkt.phvParcel (x : Pkt) : Nat := x.bits 180 36 12
def Pkt.phvTc (x : Pkt) : Nat := x.bits 180 32 4
/-- The traffic class of word 183 where TC_SET is 1, else the parser's (R360). -/
def Pkt.effTc (x : Pkt) : Nat := if x.bit 183 11 then x.bits 183 12 4 else x.phvTc
def Pkt.ingressLp (x : Pkt) : Nat := x.bits 180 22 10
def Pkt.flowHash (x : Pkt) : Nat := x.bits 181 16 32

/-- The first recorded instance of a type (63: none). -/
def Pkt.firstHdr (x : Pkt) (type : Nat) : Option Nat :=
  if type = 63 then none else (List.range x.hdrCount).find? (fun i => x.hdrType i == type)

/-- The length of the frame in bytes, its FCS included (R350, R356). -/
def Pkt.frameLen (x : Pkt) : Nat := x.bytes.length + 4

/-! ## Packets -/

def State.pkt (s : State) (id : Nat) : Pkt := s.pkts.get id dflt.pkt
def State.setPkt (s : State) (id : Nat) (x : Pkt) : State := { s with pkts := s.pkts.set id x dflt.pkt }

/-- A new packet; the state after it. -/
def State.newPkt (s : State) (x : Pkt) : State := { (s.setPkt s.nextPkt x) with nextPkt := s.nextPkt + 1 }

/-- The next place in the order of a path (R339): numbers are those of packets. -/
def State.tick (s : State) : State := { s with nextPkt := s.nextPkt + 1 }

/-- No packet that entered the path of traverse `x.trav` before `x` stands at the same stage. -/
def State.isFirst (s : State) (x : Pkt) : Bool :=
  s.pkts.all (fun e => !(e.2.stage == x.stage && e.2.trav == x.trav && decide (e.2.ord < x.ord)))

/-! ## Roles of traverses (R374) -/

/-- Roles as TRV_STATUS.ROLE codes them. -/
abbrev roleInService : Nat := 0
abbrev roleFenced : Nat := 1
abbrev roleFree : Nat := 2
abbrev roleStandingIn : Nat := 3
abbrev roleClearing : Nat := 4

def State.role (s : State) (t : Nat) : Nat := s.fld (Page.trv t) TRV.TRV_STATUS_ROLE
def State.serves (s : State) : Nat := s.fld (Page.trv 24) TRV.TRV_STATUS_SERVES

/-- The pages of traverse region `t` (R65). -/
def regionPages (t : Nat) : List Page := (List.range 27).map (fun i => Page.trv t + i)

/-- A page of traverse region `t` is HALTED. -/
def State.regionHalted (s : State) (t : Nat) : Bool := (regionPages t).any (fun p => s.isHalted p)

/-- The datapath of traverse `t` issues packets: powered, out of reset and test, with no page HALTED (R608). -/
def State.travIssues (s : State) (t : Nat) : Bool :=
  s.powered (Page.trv t) && s.clocked (Page.trv t) && !s.inReset (Page.trv t) && !s.regionHalted t && s.fld (Page.trv t) TB.PAGE_STATE_STATE != 6

/-- The traverse that serves group `g` now, if one does (R374, R376). -/
def State.servedBy (s : State) (g : Nat) : Option Nat :=
  let t := if s.role 24 = roleStandingIn ∧ s.serves = g then 24 else g
  if (t = 24 ∨ s.role t = roleInService) ∧ s.travIssues t then some t else none

/-- T24 is FREE in the sense of R374: in that role, powered, with an active bank, and not HALTED. -/
def State.t24Free (s : State) : Bool :=
  s.role 24 == roleFree && s.powered (Page.trv 24) && s.clocked (Page.trv 24) && s.flag (Page.prs 24) PRS.BANK_STATUS_ACTIVE_VALID && !s.regionHalted 24

/-! ## Indirect commands of traverse regions (R337, R388, R410) -/

/-- The fields of an indirect status register. -/
structure IndRegs where
  done    : Fld
  skipped : Fld
  code    : Fld
  error   : Fld
  busy    : Fld
  src     : Nat
deriving DecidableEq, Repr

def prsInd : IndRegs := ⟨PRS.IND_STATUS_DONE, PRS.IND_STATUS_SKIPPED, PRS.IND_STATUS_CODE, PRS.IND_STATUS_ERROR, PRS.IND_STATUS_BUSY,
  PRS.S_IND_ERROR⟩
def stnInd : IndRegs := ⟨STN.IND_STATUS_DONE, STN.IND_STATUS_SKIPPED, STN.IND_STATUS_CODE, STN.IND_STATUS_ERROR, STN.IND_STATUS_BUSY,
  STN.S_IND_ERROR⟩
def dprInd : IndRegs := ⟨DPR.IND_STATUS_DONE, DPR.IND_STATUS_SKIPPED, DPR.IND_STATUS_CODE, DPR.IND_STATUS_ERROR, DPR.IND_STATUS_BUSY,
  DPR.S_IND_ERROR⟩
def sprInd : IndRegs := ⟨SPR.IND_STATUS_DONE, SPR.IND_STATUS_SKIPPED, SPR.IND_STATUS_CODE, SPR.IND_STATUS_ERROR, SPR.IND_STATUS_BUSY,
  SPR.S_IND_ERROR⟩
def tmcInd : IndRegs := ⟨TMC.IND_STATUS_DONE, TMC.IND_STATUS_SKIPPED, TMC.IND_STATUS_CODE, TMC.IND_STATUS_ERROR, TMC.IND_STATUS_BUSY,
  TMC.S_IND_ERROR⟩
def svcInd : IndRegs := ⟨SVC.IND_STATUS_DONE, SVC.IND_STATUS_SKIPPED, SVC.IND_STATUS_CODE, SVC.IND_STATUS_ERROR, SVC.IND_STATUS_BUSY,
  SVC.S_IND_ERROR⟩

/-- A command on page `p` has ended with `code` (0: done). -/
def State.indEnd (s : State) (p : Page) (q : IndRegs) (code : Nat) (skipped : Bool) : State :=
  let s1 := ((s.setFlag p q.done true).setFlag p q.skipped skipped).setFld p q.code code
  (s1.setFlag p q.error (code != 0)).raiseIf (code != 0) p q.src

/-- A write of an indirect command register: judged, discarded with IND_ERROR while BUSY, else carried out: the state with
the code it ends with and whether a traverse was skipped. -/
def State.indCommand (s : State) (r : Req) (p : Page) (cmd : Fld) (q : IndRegs) (eff : State → State × Nat × Bool) : State :=
  s.hostWrite r p cmd 0 true fun s =>
    if s.flag p q.busy then s.raise p q.src
    else
      let x := eff s
      x.1.indEnd p q x.2.1 x.2.2

/-- Whether traverse `t` carries out a broadcast: it is powered and not in RESET. -/
def State.reached (s : State) (t : Nat) : Bool := s.powered (Page.trv t) && !s.inReset (Page.trv t)

/-- A command carried out in every traverse (R337): the highest code that one ended with, and whether one was skipped. -/
def State.broadcast (s : State) (eff : State → Nat → State × Nat) : State × Nat × Bool :=
  (List.range 25).foldl (fun x t =>
    if x.1.reached t then
      let y := eff x.1 t
      (y.1, Nat.max x.2.1 y.2, x.2.2)
    else (x.1, x.2.1, true)) (s, 0, false)

/-- A command for traverse `t`, or for all with BCAST. -/
def State.forTraverses (s : State) (t : Nat) (bcast : Bool) (eff : State → Nat → State × Nat) : State × Nat × Bool :=
  if bcast then s.broadcast eff
  else
    let y := eff s t
    (y.1, y.2, false)

/-- The data words of an indirect register block of `n` words. -/
def State.indData (s : State) (p : Page) (f : Fld) (n : Nat) : List Word := (List.range n).map (fun i => s.reg p f i)

/-- Data words filled from an entry. -/
def State.fillData (s : State) (p : Page) (f : Fld) (n : Nat) (l : List Word) : State :=
  (List.range n).foldl (fun s i => s.setReg p f (l.getD i 0) i) s

/-- A word with only the bits of `mask` kept: fields not listed are reserved and read zero (R17). -/
def keep (mask : Nat) (w : Word) : Word := BitVec.ofNat 48 (Nat.land w.toNat mask)

end Sys2Proof.Machine
end

