-- ==== Sys2Proof/Machine/Buffers.lean ====
section
/-!
DEFINITION. Sys2Proof/Machine/Buffers.lean: the buffer pool manager: pools and carving, the pool walk, the common share, chains and
their release, audit and row tests (14_buffer_pools.md).
Readings and choices (notes/assumptions): DEDUCED 25, 55, 57, 59.
-/
namespace Sys2Proof.Machine

/-! ## Pools (R451 to R456) -/

/-- Cells of a buffer of a class, and its size in bytes. -/
def classCells (c : Nat) : Nat := 4 ^ c
def classBytes_ (c : Nat) : Nat := 256 * 4 ^ c

/-- Pool `p` as carved. -/
def State.pool (s : State) (p : Nat) : Option Pool := (s.carve.pools.getD p none)

/-- Island of a cell; islands that may be granted from. -/
def islandOf (cell : Nat) : Nat := cell / 327680
def State.islandServes (s : State) (b : Nat) : Bool := Nat.bitAt (s.fld Page.bpm BPM.ISLAND_CTL_IN_SERVICE) b
def State.islandGrants (s : State) (b : Nat) : Bool :=
  s.islandServes b && (b == 0 || Nat.bitAt (s.fld Page.bpm BPM.ISLAND_CTL_ENABLE) (b - 1))

/-- Buffer number `j` of an extent of `k` cells a buffer. -/
def bufAt (e : Nat × Nat) (k j : Nat) : Nat := e.1 + j * k

/-- A buffer of `k` cells at `cell` overlaps one of these rows (R448). -/
def overlaps (rows : List Nat) (cell k : Nat) : Bool :=
  rows.any (fun r => decide (r * 16 < cell + k) && decide (cell < r * 16 + 16))

/-- The buffers of an extent that rows of a list overlap, as numbers within it. -/
def overlapped (rows : List Nat) (e : Nat × Nat) (k : Nat) : List Nat :=
  (rows.flatMap (fun r =>
    (List.range 16).filterMap (fun i =>
      let c := r * 16 + i
      if e.1 ≤ c ∧ c < e.1 + e.2 * k then some ((c - e.1) / k) else none))).eraseDups

/-- Buffers of the extent that cannot be granted, as numbers within it, rising: allocated, under retired or quarantined rows, or
kept by the audit. -/
def State.takenIn (s : State) (e : Nat × Nat) (k : Nat) : List Nat :=
  let within (c : Nat) : Option Nat := if e.1 ≤ c ∧ c < e.1 + e.2 * k then some ((c - e.1) / k) else none
  let a := s.alloc.filterMap (fun x => within x.1)
  let b := s.refFree.filterMap within
  let c := overlapped (s.retired ++ s.quarantine) e k
  ((a ++ b ++ c).eraseDups).mergeSort (fun x y => decide (x ≤ y))

/-- The `n`th number from 0 that is not in a rising list. -/
def nthFree (taken : List Nat) (n : Nat) : Nat := taken.foldl (fun c t => if t ≤ c then c + 1 else c) n

/-- Free buffers of pool `p` in island `b`; 0 where the island grants nothing. -/
def State.freeIn (s : State) (p : Pool) (b : Nat) : Nat :=
  let e := p.ext.getD b (0, 0)
  if s.islandGrants b then e.2 - (s.takenIn e (classCells p.cls)).length else 0

/-- Free buffers of a pool. -/
def State.poolFree (s : State) (p : Pool) : Nat := ((List.range 4).map (s.freeIn p)).foldl (· + ·) 0

/-- Buffers in service in a pool (POOL_STATUS.CARVED): islands in service, retired rows left out. -/
def State.poolCarved (s : State) (p : Pool) : Nat :=
  ((List.range 4).map (fun b =>
    let e := p.ext.getD b (0, 0)
    if s.islandServes b then e.2 - (overlapped s.retired e (classCells p.cls)).length else 0)).foldl (· + ·) 0

/-- Free cells that can be granted (R459, R474). -/
def State.freeCells (s : State) : Nat :=
  s.carve.pools.foldl (fun n q =>
    match q with
    | some p => n + s.poolFree p * classCells p.cls
    | none => n) 0

/-- A parcel's charge, and its reserve (R459). -/
def State.charge (s : State) (p : Nat) : Nat := s.pclFld p PCL.BUF_USE_CELLS
def State.reserveOf (s : State) (p : Nat) : Nat := s.pclFld p PCL.BUF_QUOTA_MIN_CELLS - s.charge p

/-- The reserve: over the valid parcels with a minimum. -/
def State.reserve (s : State) : Nat :=
  s.regs.foldl (fun n e =>
    let p := (e.1 / 0x1000 - 0x200) * 64 + (e.1 % 0x1000 - 0x100) / 0x38
    if 0 < s.minCellsAt 4096 e.1 then n + s.reserveOf p else n) 0

/-- RESERVE, POOL_STATUS and DFQ_STATUS follow. -/
def State.bpmFollow (s : State) : State :=
  let p := Page.bpm
  let one (s : State) (i : Nat) : State :=
    match s.pool i with
    | some q => (s.setFld p BPM.POOL_STATUS_CARVED (s.poolCarved q) i).setFld p BPM.POOL_STATUS_FREE (s.poolFree q) i
    | none => (s.setFld p BPM.POOL_STATUS_CARVED 0 i).setFld p BPM.POOL_STATUS_FREE 0 i
  let s1 := (List.range 16).foldl one s
  let s2 := (s1.setFld p BPM.RESERVE_FREE_CELLS s1.freeCells).setFld p BPM.RESERVE_RESERVE s1.reserve
  s2.setFld p BPM.DFQ_STATUS_ENTRIES (s2.chains.filter (fun (e : Nat × Chain) => e.2.entry)).length

/-! ## Charges and counts -/

/-- A parcel's charge becomes `n`; the peak follows (BUF_USE). -/
def State.setCharge (s : State) (p n : Nat) : State :=
  let s1 := s.setPclFld p PCL.BUF_USE_CELLS n
  let peak := Nat.max n (s.pclFld p PCL.BUF_USE_PEAK)
  let s2 := s1.setPclFld p PCL.BUF_USE_PEAK peak
  let blk (s : State) (off v : Nat) : State := s.setSlot (parcelCtr p off) (BitVec.ofNat 48 v)
  blk (blk s2 0x060 n) 0x068 (Nat.max n (s.slot (parcelCtr p 0x068)).toNat)

/-- Cells that a port holds in a class (R490). -/
def State.pgCells (s : State) (lp c : Nat) : Nat := s.fld (Page.tmw lp) TMW.PG_STATUS_CELLS c
def State.setPgCells (s : State) (lp c n : Nat) : State := s.setFld (Page.tmw lp) TMW.PG_STATUS_CELLS n c

/-- The count that class `c` of a port is judged by: of the class, or of all under PAUSE. -/
def State.pgJudged (s : State) (lp c : Nat) : Nat :=
  if s.fcMode lp = 1 then ((List.range 8).map (s.pgCells lp)).foldl (· + ·) 0 else s.pgCells lp c

/-- The class whose thresholds apply. -/
def State.pgClass (s : State) (lp c : Nat) : Nat := if s.fcMode lp = 1 then 0 else c

/-- After a free: the class is released strictly below XON_CELLS (R490). -/
def State.pgRelease (s : State) (lp c : Nat) : State :=
  let k := s.pgClass lp c
  let w := Page.tmw lp
  if s.flag w TMW.PG_STATUS_ASSERTED k && decide (s.pgJudged lp c < s.fld w TMW.PG_CFG_XON_CELLS k) then
    (s.setFlag w TMW.PG_STATUS_ASSERTED false k).releaseClass lp k
  else s

/-- After an admission: the class is asserted at XOFF_CELLS or above (R490). -/
def State.pgAssert (s : State) (lp c : Nat) : State :=
  let k := s.pgClass lp c
  let w := Page.tmw lp
  let on := s.fcMode lp == 1 || (s.fcMode lp == 2 && Nat.bitAt (s.lpFld lp PEN.LP_CTL_PFC_TX_EN) c)
  if on && !s.flag w TMW.PG_STATUS_ASSERTED k && decide (s.fld w TMW.PG_CFG_XOFF_CELLS k ≤ s.pgJudged lp c) then
    ((s.setFlag w TMW.PG_STATUS_ASSERTED true k).count w TMW.C_XOFF_REQUESTS).assertClass lp k
  else s

/-! ## Buffers and pools (R467) -/

/-- The pool and its buffer that a cell belongs to: pool number and first cell. -/
def State.bufferOf (s : State) (cell : Nat) : Option (Nat × Nat) :=
  ((List.range 16).map (fun p =>
    match s.pool p with
    | none => none
    | some q =>
      let k := classCells q.cls
      (q.ext.find? (fun e => decide (e.1 ≤ cell) && decide (cell < e.1 + e.2 * k))).map (fun e =>
        (p, e.1 + (cell - e.1) / k * k)))).foldl (fun a b => a.orElse (fun _ => b)) none

/-- A double free of the buffer at `c` of pool `p` (R467, R468): refused, counted, recorded. -/
def State.doubleFree (s : State) (kind unit p c : Nat) : State :=
  let s1 := (s.count Page.bpm BPM.C_DOUBLE_FREES).raise Page.bpm BPM.S_DOUBLE_FREE
  if s1.flag Page.bpm BPM.DFREE_REC_VALID then s1
  else s1.setReg Page.bpm BPM.DFREE_REC (BitVec.ofNat 48 (2 ^ 47 + kind * 2 ^ 44 + unit * 2 ^ 39 + p * 2 ^ 21 + c))

/-! ## Chains (R461, R463) -/

def State.chainOf (s : State) (c : Nat) : Chain := s.chains.get c dflt.chain
def State.setChain (s : State) (c : Nat) (x : Chain) : State := { s with chains := s.chains.set c x dflt.chain }

/-- The state bits of buffers become free. -/
def State.freeBits (s : State) (l : List Nat) : State :=
  { s with alloc := s.alloc.clear (fun k => l.contains k), refFree := s.refFree.filter (fun c => !l.contains c) }

/-- The chain is freed: its buffers rejoin their free lists, charge and class count fall (R461); a buffer whose bit is free already
is a double free (R467). `kind`: the requester. -/
def State.freeChain (s : State) (c kind : Nat) : State :=
  let x := s.chainOf c
  let s0 := x.bufs.foldl (fun s b => if s.alloc.get b false then s else s.doubleFree kind 0 x.pool b) s
  let s1 := (s0.freeBits x.bufs).setChain c dflt.chain
  let s2 := match x.parcel with
    | some p => s1.setCharge p (s1.charge p - x.cells)
    | none => s1
  let s3 := match x.cls with
    | some (lp, k) => (s2.setPgCells lp k (s2.pgCells lp k - x.cells)).pgRelease lp k
    | none => s2
  s3.bpmFollow

/-- The chain is freed where nothing holds it any more. -/
def State.settleChain (s : State) (c kind : Nat) : State :=
  let x := s.chainOf c
  if x.refs.isEmpty && x.dma == 0 && !x.bufs.isEmpty then s.freeChain c kind else s

/-- Packet `id` releases the chain it holds. -/
def State.releaseChain (s : State) (id kind : Nat) : State :=
  let n := (s.pkt id).chain
  if n = 0 then s
  else
    let x := s.chainOf (n - 1)
    (s.setChain (n - 1) { x with refs := x.refs.filter (fun r => r != id) }).settleChain (n - 1) kind

/-- A host copy made from a chain is complete (R466). -/
def State.releaseDma (s : State) (n : Nat) : State :=
  if n = 0 then s
  else
    let x := s.chainOf (n - 1)
    (s.setChain (n - 1) { x with dma := x.dma - 1 }).settleChain (n - 1) 7

/-- A packet's on-chip descriptor is freed (R478). -/
def State.freeDesc (s : State) (id : Nat) : State :=
  if (s.pkt id).desc then
    (s.setFld Page.tmc TMC.DESC_STATUS_FREE (s.fld Page.tmc TMC.DESC_STATUS_FREE + 1)).setPkt id { s.pkt id with desc := false }
  else s

/-- The packet is gone, its chain and its descriptor released: dropped, and sent. -/
def State.dropPkt (s : State) (id : Nat) : State := ((s.releaseChain id 1).freeDesc id).setPkt id dflt.pkt
def State.sentPkt (s : State) (id : Nat) : State := ((s.releaseChain id 0).freeDesc id).setPkt id dflt.pkt

/-! ## The walk (R455 to R457) -/

/-- The band of a stored length. -/
def bandOf (n : Nat) : Nat := if n ≤ 256 then 0 else if n ≤ 1024 then 1 else if n ≤ 4096 then 2 else 3

/-- What a walk ends with: a pool, or none, with whether a pool without sharing was met. -/
def State.walk (s : State) (fuel p n : Nat) (strict met : Bool) : Option Nat × Bool :=
  match fuel with
  | 0 => (none, met)
  | fuel + 1 =>
    match s.pool p with
    | none => (none, met)
    | some q =>
      let passed := strict && q.share
      let need := (n + classBytes_ q.cls - 1) / classBytes_ q.cls
      if !passed && decide (need ≤ s.poolFree q) then (some p, true)
      else match q.fb with
        | some f => s.walk fuel f n strict (met || !q.share)
        | none => (none, met || !q.share)

/-- One buffer granted from a pool: islands in turn; which free buffer of the island is not given, a free value chooses. -/
def State.grantOne (s : State) (pn : Nat) (q : Pool) : State × List Nat :=
  let start := s.islandTurn.get pn 0
  match ((List.range 4).map (fun i => (start + i) % 4)).find? (fun b => decide (0 < s.freeIn q b)) with
  | none => (s, [])
  | some b =>
    let e := q.ext.getD b (0, 0)
    let k := classCells q.cls
    let j := nthFree (s.takenIn e k) (s.free % s.freeIn q b)
    let c := bufAt e k j
    ({ s.drawn with alloc := s.alloc.set c true false, islandTurn := s.islandTurn.set pn ((b + 1) % 4) 0 }, [c])

/-- `n` buffers granted from pool `pn`. -/
def State.grantBufs (s : State) (pn : Nat) (q : Pool) (n : Nat) : State × List Nat :=
  (List.range n).foldl (fun x _ =>
    let y := x.1.grantOne pn q
    (y.1, x.2 ++ y.2)) (s, [])

/-- A chain of pool `pn` for a packet that stores `n` bytes: the state and the chain's number plus one. -/
def State.newChain (s : State) (pn n : Nat) (x : Chain) : State × Nat :=
  match s.pool pn with
  | none => (s, 0)
  | some q =>
    let need := (n + classBytes_ q.cls - 1) / classBytes_ q.cls
    let y := s.grantBufs pn q need
    let c := y.1.nextChain
    ({ (y.1.setChain c { x with pool := pn, bufs := y.2, cells := need * classCells q.cls }) with nextChain := c + 1 }, c + 1)

/-- Surplus buffers of a chain freed once the last byte has arrived (R458): it keeps what `n` bytes need. -/
def State.trimChain (s : State) (c n : Nat) : State :=
  let x := s.chainOf c
  match s.pool x.pool with
  | none => s
  | some q =>
    let need := (n + classBytes_ q.cls - 1) / classBytes_ q.cls
    if x.bufs.length ≤ need then s
    else
      let cells := need * classCells q.cls
      let s1 := (s.freeBits (x.bufs.drop need)).setChain c { x with bufs := x.bufs.take need, cells := cells }
      let s2 := match x.parcel with
        | some p => s1.setCharge p (s1.charge p - (x.cells - cells))
        | none => s1
      (match x.cls with
        | some (lp, k) => (s2.setPgCells lp k (s2.pgCells lp k - (x.cells - cells))).pgRelease lp k
        | none => s2).bpmFollow

/-- Plaintext of a protected frame drawn from SEC_POOL and its fallbacks (R462); none where the walk is exhausted. -/
def State.secGrant (s : State) (id n : Nat) : Option State :=
  match (s.walk 4 s.carve.sec n false false).1 with
  | none => none
  | some pn =>
    let y := s.newChain pn n { refs := [id] }
    some (y.1.setPkt id { y.1.pkt id with chain := y.2 }).bpmFollow

/-! ## Judgement of the share (R459) -/

/-- Why a packet of parcel `p` needing `n` cells is refused: 0 admitted, 1 over MAX_CELLS, 2 over the common share. `own`: cells of
the n that are allocated already (R462). -/
def State.shareCheck (s : State) (p n own : Nat) : Nat :=
  let c := s.charge p
  let min := s.pclFld p PCL.BUF_QUOTA_MIN_CELLS
  if s.pclFld p PCL.BUF_QUOTA_MAX_CELLS < c + n then 1
  else
    let g := Nat.min (c + n) min - c
    let u := n - g
    let free := s.freeCells
    let kept := s.reserve - g
    let used := n - own
    let a := c + n - min
    if u = 0 then 0
    else if free < used + kept then 2
    else if 2 ^ s.fld Page.bpm BPM.BPM_CFG_ALPHA * (free - used - kept) < a * 256 then 2
    else 0

/-- The drop that a refusal under R459 makes. -/
def State.shareDrop (s : State) (p why : Nat) : State :=
  if why = 1 then (s.parcelCount p 0x028 1).quotaHit p else s.count Page.bpm BPM.C_DROP_SHARE

/-! ## Carving (R453) -/

/-- POOL_CFG of pool `p`. -/
def State.poolCfg (s : State) (p : Nat) : Word := s.reg Page.bpm BPM.POOL_CFG p
def cfgValid (w : Word) : Bool := Word.bit w 11
def cfgClass (w : Word) : Nat := Word.bits w 9 2

/-- The extents of an island, in ascending pool number: for each pool its first cell and buffers, and the first cell after them. -/
def State.layIsland (s : State) (b : Nat) : List (Nat × Nat) × Nat :=
  (List.range 16).foldl (fun x p =>
    let w := s.poolCfg p
    if cfgValid w then
      let k := classCells (cfgClass w)
      let n := s.fld Page.bpm BPM.POOL_EXT_BUFFERS (4 * p + b)
      let start := (x.2 + k - 1) / k * k
      if n = 0 then (x.1 ++ [(327680 * b + start, 0)], x.2) else (x.1 ++ [(327680 * b + start, n)], start + n * k)
    else (x.1 ++ [(0, 0)], x.2)) ([], 0)

/-- The lowest reason to refuse APPLY; 0: none. -/
def State.carveReason (s : State) : Nat :=
  let badFb (p : Nat) : Bool :=
    let w := s.poolCfg p
    let f := s.poolCfg (Word.bits w 3 4)
    cfgValid w && Word.bit w 7 && !(cfgValid f && decide (cfgClass w < cfgClass f))
  let badSet (i : Nat) : Bool :=
    let w := s.reg Page.bpm BPM.POOL_SET i
    Word.bit w 16 && (List.range 4).any (fun b => !cfgValid (s.poolCfg (Word.bits w (4 * b) 4)))
  if (List.range 4).any (fun b => decide (327680 < (s.layIsland b).2)) then 1
  else if (List.range 16).any badFb then 2
  else if (List.range 16).any badSet then 3
  else if s.fld Page.bpm TB.PAGE_STATE_STATE ≠ 2 then 4
  else if ¬ cfgValid (s.poolCfg (s.fld Page.bpm BPM.BPM_CFG_SEC_POOL)) then 5
  else if !s.alloc.isEmpty || s.chains.any (fun (e : Nat × Chain) => e.2.entry) then 6
  else 0

/-- The carve that the configuration gives. -/
def State.carveNow (s : State) : Carve :=
  let lay := (List.range 4).map (fun b => (s.layIsland b).1)
  let pool (p : Nat) : Option Pool :=
    let w := s.poolCfg p
    if cfgValid w then
      some ⟨cfgClass w, Word.bit w 8, if Word.bit w 7 then some (Word.bits w 3 4) else none,
        lay.map (fun l => l.getD p (0, 0))⟩
    else none
  let set (i : Nat) : Option (List Nat) :=
    let w := s.reg Page.bpm BPM.POOL_SET i
    if Word.bit w 16 then some ((List.range 4).map (fun b => Word.bits w (4 * b) 4)) else none
  { pools := (List.range 16).map pool, sets := (List.range 16).map set, sec := s.fld Page.bpm BPM.BPM_CFG_SEC_POOL }

def execCarveApply (r : Req) (data : Word) (s : State) : Result :=
  answer (s.hostWrite r Page.bpm BPM.CARVE_CMD 0 true fun s =>
    if Word.bit data 0 then
      let p := Page.bpm
      let why := s.carveReason
      if why = 0 then
        (({ s with carve := s.carveNow }.setFlag p BPM.CARVE_STATUS_CARVED true).setFlag p BPM.CARVE_STATUS_REFUSED false).bpmFollow
      else
        ((s.setFld p BPM.CARVE_STATUS_REASON why).setFlag p BPM.CARVE_STATUS_REFUSED true).raise p BPM.S_CARVE_REFUSED
    else s)

/-! ## Pool sets of parcels (R455) -/

/-- A write of PSET_CMD: a read or a write of a parcel's set, as its bit 47 says. -/
def State.psetCommand (s : State) (r : Req) (data : Word) : State :=
  s.hostWrite r Page.bpm BPM.PSET_CMD 0 true fun s =>
    let p := Word.bits data 0 12
    if Word.bit data 47 then { s with psets := s.psets.set p (s.fld Page.bpm BPM.PSET_DATA_SET) 0 }
    else s.setFld Page.bpm BPM.PSET_DATA_SET (s.psets.get p 0)

def execPsetRead (r : Req) (data : Word) (s : State) : Result := answer (s.psetCommand r data)
def execPsetWrite (r : Req) (data : Word) (s : State) : Result := answer (s.psetCommand r data)

/-! ## Frees and the audit (R461, R467 to R470) -/

/-- The chain that holds the buffer at `cell`. -/
def State.chainHolding (s : State) (cell : Nat) : Option Nat :=
  (s.chains.find? (fun (e : Nat × Chain) => e.2.bufs.contains cell)).map (·.1)

/-- A free of one buffer by a requester (R461, R467): a double free is refused and recorded; otherwise its bit clears, and its
chain, where the requester holds it (`holder`), is the shorter for it. -/
def execBufferFree (kind : Fin 8) (unit : Fin 32) (cell : Nat) (holder : Bool) (s : State) : Result :=
  answer (match s.bufferOf cell with
    | none => s
    | some (p, c) =>
      if s.alloc.get c false then
        match (s.chainHolding c).filter (fun _ => holder) with
        | none => (s.freeBits [c]).bpmFollow
        | some n =>
          let x := s.chainOf n
          let k := match s.pool p with
            | some q => classCells q.cls
            | none => 0
          let s1 := (s.freeBits [c]).setChain n { x with bufs := x.bufs.filter (fun b => b != c), cells := x.cells - k }
          let s2 := match x.parcel with
            | some q => s1.setCharge q (s1.charge q - k)
            | none => s1
          (match x.cls with
            | some (lp, cl) => (s2.setPgCells lp cl (s2.pgCells lp cl - k)).pgRelease lp cl
            | none => s2).bpmFollow
      else
        let s1 := s.doubleFree kind unit p c
        if holder then { s1 with refFree := s1.refFree.filter (fun b => b != c) }.bpmFollow else s1)

/-- The first buffer of either kind that a sweep finds is recorded in LEAK_REC. -/
def State.leakRec (s : State) (held : Bool) (p c : Nat) : State :=
  if s.flag Page.bpm BPM.LEAK_REC_VALID then s
  else s.setReg Page.bpm BPM.LEAK_REC (BitVec.ofNat 48 (2 ^ 47 + b2n held * 2 ^ 44 + p * 2 ^ 21 + c))

/-- The sweep of pool `p` (R470): buffers allocated that no chain holds are freed; buffers free that a chain holds are kept. -/
def State.leakSweep (s : State) (p : Nat) (referenced : List Nat) : State :=
  let mine (c : Nat) : Bool := (s.bufferOf c).map (·.1) == some p
  let leaked := (s.alloc.map (·.1)).filter (fun c => mine c && !referenced.contains c)
  let held := referenced.filter (fun c => mine c && !s.alloc.get c false && !s.refFree.contains c)
  let one (s : State) (c : Nat) : State :=
    (((s.freeBits [c]).count Page.bpm BPM.C_LEAKED_BUFFERS).raise Page.bpm BPM.S_LEAK_RECLAIMED).leakRec false p c
  let two (s : State) (c : Nat) : State :=
    (({ s with refFree := s.refFree ++ [c] }.count Page.bpm BPM.C_REF_FREE_BUFFERS).raise Page.bpm BPM.S_REF_FREE).leakRec true p c
  (held.foldl two (leaked.foldl one s)).bpmFollow

/-- Every second: both counts of every pool, and a sweep where they differ (R469, R470). -/
def execLeakAudit (s : State) : Result :=
  answer (
    let referenced := s.chains.flatMap (fun (e : Nat × Chain) => e.2.bufs)
    let one (s : State) (p : Nat) : State :=
      let mine (c : Nat) : Bool := (s.bufferOf c).map (·.1) == some p
      let a := ((s.alloc.map (·.1)).filter mine).length
      let b := (referenced.filter mine).length
      let s1 := (s.setFld Page.bpm BPM.POOL_AUDIT_ALLOCATED a p).setFld Page.bpm BPM.POOL_AUDIT_REFERENCED b p
      if a = b then s1 else (s1.raise Page.bpm BPM.S_LEAK_SUSPECT).leakSweep p referenced
    (List.range 16).foldl one s)

/-! ## Rows (R472, R473) -/

/-- Rows under test, and retired, as ROW_STATUS shows them. -/
def State.showRows (s : State) : State :=
  ((s.setFld Page.bpm BPM.ROW_STATUS_QUARANTINED s.quarantine.length).setFld Page.bpm BPM.ROW_STATUS_RETIRED
    s.retired.length).bpmFollow

/-- A second corrected error in row `r` within 1 s (R472). -/
def State.quarantineRow (s : State) (r : Nat) : State :=
  if s.quarantine.contains r || s.retired.contains r then s
  else ({ s with quarantine := s.quarantine ++ [r] }.raise Page.bpm BPM.S_ROW_QUARANTINE).showRows

/-- A buffer that overlaps the row is allocated. -/
def State.rowBusy (s : State) (r : Nat) : Bool :=
  (List.range 16).any (fun i =>
    match s.bufferOf (16 * r + i) with
    | some (_, c) => s.alloc.get c false
    | none => false)

/-- A quarantined row is marched once its buffers are free. -/
def execBufferRowTest (row : Nat) (pass : Bool) (s : State) : Result :=
  answer (if s.quarantine.contains row && !s.rowBusy row then
      let s1 := { s with quarantine := s.quarantine.filter (fun r => r != row) }
      if pass then s1.showRows
      else (({ s1 with retired := s1.retired ++ [row] }.count Page.bpm BPM.C_ROWS_RETIRED).raise Page.bpm
        BPM.S_ROW_RETIRED).showRows
    else s)

/-- READMIT marches the retired rows; those of `pass` return. -/
def execRowReadmit (r : Req) (data : Word) (pass : List Nat) (s : State) : Result :=
  answer (s.hostWrite r Page.bpm BPM.ROW_CMD 0 true fun s =>
    if Word.bit data 0 then { s with retired := s.retired.filter (fun x => !pass.contains x) }.showRows else s)

def execBpmMetaScrub (ecc : EccFound) (s : State) : Result :=
  answer (match ecc with
    | .clean => s
    | .fixed => s.count Page.bpm BPM.C_META_FIXED
    | .lost => s.raise Page.bpm BPM.S_META_MEM_FAIL)

/-! ## Islands (R474) -/

/-- Island `b` leaves service once all its buffers are free. -/
def State.islandLeaves (s : State) (b : Nat) : State :=
  let p := Page.bpm
  let v := s.fld p BPM.ISLAND_CTL_IN_SERVICE
  if 1 ≤ b ∧ b ≤ 3 ∧ Nat.bitAt v b ∧ ¬ Nat.bitAt (s.fld p BPM.ISLAND_CTL_ENABLE) (b - 1) ∧
      s.alloc.all (fun e => islandOf e.1 != b) ∧ s.quarantine.all (fun r => r / 20480 != b) then
    ((s.setFld p BPM.ISLAND_CTL_IN_SERVICE (v - 2 ^ b)).raise p BPM.S_ISLAND_OUT).bpmFollow
  else s

def execIslandOut (b : Fin 4) (s : State) : Result := answer (s.islandLeaves b)

/-- A write of ENABLE: refused where the minimums would not fit the islands that remain; an island enabled again returns. -/
def execIslandCtlWrite (r : Req) (data : Word) (s : State) : Result :=
  answer (s.hostWrite r Page.bpm BPM.ISLAND_CTL 0 false fun s =>
    let p := Page.bpm
    let new := if r.size = .hi then s.fld p BPM.ISLAND_CTL_ENABLE else Word.bits data 1 3
    let remain := 1 + ((List.range 3).filter (fun i => Nat.bitAt new i)).length
    let off := (List.range 3).any (fun i => Nat.bitAt (s.fld p BPM.ISLAND_CTL_ENABLE) i && !Nat.bitAt new i)
    if off && decide (327680 * remain < s.minSum 4096) then s.raise p BPM.S_CARVE_REFUSED
    else
      let s1 := s.setFld p BPM.ISLAND_CTL_ENABLE new
      let back := Nat.lor (s1.fld p BPM.ISLAND_CTL_IN_SERVICE) (2 * new)
      (s1.setFld p BPM.ISLAND_CTL_IN_SERVICE back).bpmFollow)

end Sys2Proof.Machine
end

