-- ==== Sys2Proof/Machine/Tables.lean ====
section
/-!
DEFINITION. Sys2Proof/Machine/Tables.lean: forwarding tables: descriptors, lookups, table commands, the table cache, learning,
ageing and memory protection (12_tables_and_learning.md).
Readings and choices (notes/assumptions): DEDUCED 26, 52, 53, 54.
-/
namespace Sys2Proof.Machine

/-! ## Descriptors (R389 to R391) -/

/-- A descriptor as its five words give it. -/
structure Desc where
  valid     : Bool
  type      : Nat
  keyBits   : Nat
  actBits   : Nat
  qclass    : Nat
  tenant    : Bool
  learn     : Bool
  move      : Bool
  evict     : Bool
  notify    : Bool
  age       : Bool
  ageLimit  : Nat
  sramBase  : Nat
  sram      : Nat
  tcamBase  : Nat
  tcam      : Nat
  learnProg : Nat
  learnWord : Nat
  learnLsb  : Nat
  learnW    : Nat
  pend      : Bool
  pendProg  : Nat
  flood     : Bool
  seed      : Nat
  hbmBase   : Nat
  hbmLog    : Nat
deriving DecidableEq, Repr

def descOf (l : List Word) : Desc :=
  let d (i : Nat) : Word := l.getD i 0
  { valid := Word.bit (d 0) 47, type := Word.bits (d 0) 44 3, keyBits := Word.bits (d 0) 35 9, actBits := Word.bits (d 0) 26 9,
    qclass := Word.bits (d 0) 22 4, tenant := Word.bit (d 0) 21, learn := Word.bit (d 0) 20, move := Word.bit (d 0) 19,
    evict := Word.bit (d 0) 18, notify := Word.bit (d 0) 17, age := Word.bit (d 0) 16, ageLimit := Word.bits (d 0) 0 16,
    sramBase := Word.bits (d 1) 40 8, sram := Word.bits (d 1) 32 8, tcamBase := Word.bits (d 1) 27 5, tcam := Word.bits (d 1) 22 5,
    learnProg := Word.bits (d 1) 3 9, learnWord := Word.bits (d 2) 40 8, learnLsb := Word.bits (d 2) 34 6,
    learnW := Word.bits (d 2) 28 6 + 1, pend := Word.bit (d 2) 27, pendProg := Word.bits (d 2) 18 9, flood := Word.bit (d 2) 17,
    seed := Word.bits (d 3) 16 32, hbmBase := Word.bits (d 4) 30 18, hbmLog := Word.bits (d 4) 25 5 }

def State.desc (s : State) (t tb : Nat) : Desc := descOf (s.ent spDesc t tb)

/-- Units of a stored entry, and TCAM blocks a row spans (R390). -/
def entryUnits (d : Desc) : Nat := (80 + d.keyBits + d.actBits + 127) / 128
def rowBlocks (d : Desc) : Nat := (12 + d.keyBits + 63) / 64

/-- Entries of a way of an EXACT table. -/
def wayEntries (d : Desc) : Nat := d.sram / 4 * 4096 / entryUnits d

/-- TCAM rows, or pivots; LPM buckets. -/
def tcamRows (d : Desc) : Nat := 2048 * (d.tcam / rowBlocks d)
def lpmBuckets (d : Desc) : Nat := d.sram * 4096 / (16 * entryUnits d)

/-- Indexes of a table. -/
def tableSize (d : Desc) : Nat :=
  match d.type with
  | 1 => 4 * wayEntries d
  | 2 => 16 * lpmBuckets d
  | 3 => tcamRows d
  | 4 => d.sram * 4096 / entryUnits d
  | 5 => 16 * 2 ^ d.hbmLog
  | _ => 0

/-- The size rules of R389 and R390. -/
def sizesGood (d : Desc) : Bool :=
  let kb (n : Nat) : Bool := decide (1 ≤ d.keyBits) && decide (d.keyBits ≤ n) && decide (d.actBits ≤ 256)
  let blocks := decide (d.sramBase + d.sram ≤ 160) && decide (d.tcamBase + d.tcam ≤ 24)
  match d.type with
  | 0 => true
  | 1 => kb 384 && blocks && d.sram % 4 == 0 && decide (4 ≤ d.sram)
  | 2 => kb 144 && blocks
  | 3 => kb 180 && blocks && decide (tcamRows d * entryUnits d ≤ d.sram * 4096)
  | 4 => kb 21 && blocks
  | 5 => kb 96 && decide (d.keyBits + d.actBits ≤ 106) && decide (10 ≤ d.hbmLog) && decide (d.hbmLog ≤ 25) && !d.age
  | _ => false

/-! ## Entries -/

def tableKey (t tb i : Nat) : Nat := (t * 1024 + tb) * 2 ^ 29 + i

def State.tent (s : State) (t tb i : Nat) : TEntry := s.tables.get (tableKey t tb i) dflt.entry
def State.setTent (s : State) (t tb i : Nat) (e : TEntry) : State :=
  { s with tables := s.tables.set (tableKey t tb i) e dflt.entry }

/-- The entries of a table in a traverse, with their indexes, rising. -/
def State.entriesOf (s : State) (t tb : Nat) : List (Nat × TEntry) :=
  (s.tables.filter (fun (e : Nat × TEntry) => e.1 / 2 ^ 29 == t * 1024 + tb)).map (fun e => (e.1 % 2 ^ 29, e.2))

/-- `n` words of a number, low bits first. -/
def wordsOf (n v : Nat) : List Word := (List.range n).map (fun i => BitVec.ofNat 48 (v / 2 ^ (48 * i)))
def numOf (l : List Word) : Nat := l.foldr (fun w a => w.toNat + 2 ^ 48 * a) 0

def keyWords (d : Desc) : Nat := (d.keyBits + 47) / 48
def actWords (d : Desc) : Nat := (d.actBits + 47) / 48

/-- An entry as its data words stage it (R392); the last component: key, mask and action data keep to their widths. -/
def unstage (d : Desc) (l : List Word) : TEntry × Bool :=
  let w (i : Nat) : Word := l.getD i 0
  let kw := keyWords d
  let part (o n : Nat) : Nat := numOf ((l.drop o).take n)
  let key := part 2 kw
  let mask := if d.type = 3 then part (2 + kw) kw else 0
  let act := part (2 + kw + (if d.type = 3 then kw else 0)) (actWords d)
  ({ valid := Word.bit (w 0) 47, parcel := Word.bits (w 0) 35 12, prog := Word.bits (w 0) 26 9,
     se := if Word.bit (w 0) 25 then some (Word.bits (w 0) 22 3, Word.bits (w 0) 0 22) else none,
     static := Word.bit (w 1) 47, plen := if d.type = 2 then Word.bits (w 1) 21 8 else 0,
     key := key, mask := mask, act := act },
   decide (key < 2 ^ d.keyBits) && decide (mask < 2 ^ d.keyBits) && decide (act < 2 ^ d.actBits))

/-- DATA1 of an entry. -/
def ageWord (e : TEntry) : Word :=
  BitVec.ofNat 48 (b2n e.static * 2 ^ 47 + b2n e.learned * 2 ^ 46 + b2n e.hit * 2 ^ 45 + e.age % 2 ^ 16 * 2 ^ 29 + e.plen * 2 ^ 21)

/-- The data words of an entry. -/
def stage (d : Desc) (e : TEntry) : List Word :=
  let se := match e.se with
    | some (k, i) => 2 ^ 25 + k * 2 ^ 22 + i
    | none => 0
  [BitVec.ofNat 48 (b2n e.valid * 2 ^ 47 + e.parcel * 2 ^ 35 + e.prog * 2 ^ 26 + se), ageWord e]
    ++ wordsOf (keyWords d) e.key ++ (if d.type = 3 then wordsOf (keyWords d) e.mask else []) ++ wordsOf (actWords d) e.act

/-! ## Counts by parcel and class (R102, R411) -/

def countKey (t cls p : Nat) : Nat := (t * 16 + cls) * 4096 + p
def State.entryUse (s : State) (t cls p : Nat) : Nat := s.entryCount.get (countKey t cls p) 0
def State.addEntry (s : State) (t cls p : Nat) : State :=
  { s with entryCount := s.entryCount.set (countKey t cls p) (s.entryUse t cls p + 1) 0 }
def State.subEntry (s : State) (t cls p : Nat) : State :=
  { s with entryCount := s.entryCount.set (countKey t cls p) (s.entryUse t cls p - 1) 0 }

/-- One more entry of the class would go above the parcel's limit. -/
def State.overLimit (s : State) (t cls p : Nat) : Bool :=
  decide (s.profiles.get (16 * s.pclFld p PCL.PARCEL_CFG_PROFILE + cls) dflt.profile < s.entryUse t cls p + 1)

/-- The entry at index `i` replaced by `e`; counts follow. -/
def State.putEntry (s : State) (t tb i : Nat) (e : TEntry) : State :=
  let cls := (s.desc t tb).qclass
  let old := s.tent t tb i
  let s1 := if old.valid then s.subEntry t cls old.parcel else s
  let s2 := if e.valid then s1.addEntry t cls e.parcel else s1
  s2.setTent t tb i (if e.valid then e else dflt.entry)

/-! ## Hash positions (R394, R395) -/

def wayPoly (w : Nat) : Nat :=
  match w with
  | 0 => 0x04C11DB7
  | 1 => 0x1EDC6F41
  | 2 => 0x741B8CD7
  | _ => 0x814141AB

def wayHash (d : Desc) (w parcel key : Nat) : Nat :=
  crcMsb (wayPoly w) d.seed (beBytes 2 parcel ++ beBytes ((d.keyBits + 7) / 8) key)

/-- The key's index in each way of an EXACT table. -/
def positions (d : Desc) (parcel key : Nat) : List Nat :=
  (List.range 4).map (fun w => w * wayEntries d + wayHash d w parcel key * wayEntries d / 2 ^ 32)

/-! ## HBM-resident tables (R402 to R406) -/

/-- HBM service is up (R511, R535). -/
def State.hbmUp (s : State) : Bool :=
  s.inService Page.ovm && (List.range 4).all (fun h => s.domainUp (24 + h) && s.flag Page.ovm OVM.STACK_STATUS_TRAINED h)

/-- Line address (bodies / 4) of way `w` for a key, and whether it lies in the body area (R513). -/
def hbmLine (d : Desc) (w parcel key : Nat) : Nat :=
  d.hbmBase * 1024 + w * 2 ^ d.hbmLog + wayHash d w parcel key * 2 ^ d.hbmLog / 2 ^ 32
def State.inBodyArea (s : State) (line : Nat) : Bool := decide (line < s.tblUnits * 2 ^ 21)

def State.body (s : State) (k : Nat) : Nat := s.hbmBodies.get k 0
def State.setBody (s : State) (k v : Nat) : State := { s with hbmBodies := s.hbmBodies.set k v 0 }
def State.bodyHit (s : State) (k : Nat) : Bool := s.hbmHits.get k false
def State.setBodyHit (s : State) (k : Nat) (b : Bool) : State := { s with hbmHits := s.hbmHits.set k b false }

/-- A body as an entry, and an entry as a body (R402). -/
def bodyEntry (d : Desc) (v : Nat) (hit : Bool) : TEntry :=
  let low := 106 - d.keyBits
  { valid := Nat.bitAt v 127, parcel := v / 2 ^ 115 % 4096, prog := v / 2 ^ 106 % 512, key := v / 2 ^ low % 2 ^ d.keyBits,
    act := v / 2 ^ (low - d.actBits) % 2 ^ d.actBits, hit := hit }
def entryBody (d : Desc) (e : TEntry) : Nat :=
  let low := 106 - d.keyBits
  if e.valid then
    2 ^ 127 + e.parcel * 2 ^ 115 + e.prog * 2 ^ 106 + e.key * 2 ^ low + e.act * 2 ^ (low - d.actBits)
  else 0

/-- The bodies of a line in HBM, and its HIT bits. -/
def State.lineBodies (s : State) (line : Nat) : List Nat := (List.range 4).map (fun i => s.body (4 * line + i))
def State.lineHits (s : State) (line : Nat) : Nat :=
  (List.range 4).foldl (fun v i => v + b2n (s.bodyHit (4 * line + i)) * 2 ^ i) 0

/-- A write-back lands: bodies as the cache held them, HIT bits joined (R404). -/
def State.landLine (s : State) (x : Line) : State :=
  (List.range 4).foldl (fun s i =>
    (s.setBody (4 * x.addr + i) (x.bodies.getD i 0)).setBodyHit (4 * x.addr + i)
      (s.bodyHit (4 * x.addr + i) || Nat.bitAt x.hits i)) s

/-- Requests of class TBL to HBM are counted by the survey. -/
def State.hbmSurvey (s : State) (cls addr bytes : Nat) : State :=
  (s.survey 20 { tc := some cls, addr := some addr }).survey 21 { tc := some cls, addr := some addr } bytes

/-- Device pseudo-channel of the 64-byte unit `u` of the device address space (R512). -/
def pcOfUnit (u : Nat) : Nat := 64 * (u / 32 % 4) + u / 128 % 64

/-- Area of a unit (R513), as UE_REC codes it: 0 table, 1 flow, 2 dump, 3 overflow, 4 reserve. -/
def State.areaOf (s : State) (u : Nat) : Nat :=
  let tbl := s.tblUnits * 3 * 2 ^ 20
  let flow := tbl + s.flowUnits * 2 ^ 20
  let dump := flow + s.dumpUnits * 2 ^ 20
  if u < tbl then 0 else if u < flow then 1 else if u < dump then 2 else if u < 96 * 2 ^ 24 - 18 * dump / 256 then 3 else 4

/-- A corrected error, and an uncorrectable one in unit `u` (R531): counted, captured where UE_REC is free, recorded. -/
def State.hbmFixed (s : State) : State := (s.count Page.ovm OVM.C_CE_FIXED).raise Page.ovm OVM.S_CE_FIXED
def State.hbmUe (s : State) (u : Nat) : State :=
  let p := Page.ovm
  let s1 := s.count p OVM.C_UE
  let s2 := if s1.flag p OVM.UE_REC_VALID then s1
    else s1.setReg p OVM.UE_REC (BitVec.ofNat 48 (2 ^ 47 + s.areaOf u * 2 ^ 44 + pcOfUnit u * 2 ^ 36 + u % 2 ^ 36))
  s2.raise p OVM.S_UE

/-- The four bodies of a table line are lost (R531). -/
def State.loseLine (s : State) (line : Nat) : State :=
  ((List.range 4).foldl (fun (s : State) (i : Nat) => (s.setBody (4 * line + i) 0).setBodyHit (4 * line + i) false) s).count Page.ovm
    OVM.C_TBL_LINES_LOST

/-- Write-backs in flight to a line are merged into the access that meets them (R406): they land first; `some` says one was. -/
def State.mergeBacks (s : State) (line : Nat) : State × Bool :=
  let mine (e : Nat × Line) : Bool := e.2.addr == line
  let s1 := (s.writeBacks.filter mine).foldl (fun s e => s.landLine e.2) s
  ({ s1 with writeBacks := s1.writeBacks.filter (fun e => !mine e) }, s.writeBacks.any mine)

/-- The cache way that holds a line in traverse `t`. -/
def State.cached (s : State) (t line : Nat) : Option Nat :=
  ((List.range 16).map (fun w => t * 16384 + line % 1024 * 16 + w)).find? (fun k =>
    let x := s.cache.get k dflt.line
    x.valid && x.addr == line)

def State.setLine (s : State) (k : Nat) (x : Line) : State := { s with cache := s.cache.set k x dflt.line }

/-- Every cache that holds a body's line applies its new content (R405). -/
def State.patchCaches (s : State) (body v : Nat) : State :=
  (List.range 25).foldl (fun s t =>
    match s.cached t (body / 4) with
    | some k =>
      let x := s.cache.get k dflt.line
      s.setLine k { x with bodies := x.bodies.set (body % 4) v }
    | none => s) s

/-- HIT bits of a body in the caches become `b`. -/
def State.patchHits (s : State) (body : Nat) (b : Bool) : State :=
  (List.range 25).foldl (fun s t =>
    match s.cached t (body / 4) with
    | some k =>
      let x := s.cache.get k dflt.line
      let v := x.hits - b2n (Nat.bitAt x.hits (body % 4)) * 2 ^ (body % 4) + b2n b * 2 ^ (body % 4)
      s.setLine k { x with hits := v }
    | none => s) s

/-- The OR of all HIT bits of a body (R409). -/
def State.anyHit (s : State) (body : Nat) : Bool :=
  s.bodyHit body || (List.range 25).any (fun t =>
    match s.cached t (body / 4) with
    | some k => Nat.bitAt (s.cache.get k dflt.line).hits (body % 4)
    | none => false)
    || s.writeBacks.any (fun e => e.2.addr == body / 4 && Nat.bitAt e.2.hits (body % 4))

/-- The bodies that may hold a key, in way order and then slot order. -/
def candidates (d : Desc) (parcel key : Nat) : List Nat :=
  (List.range 4).flatMap (fun w => (List.range 4).map (fun i => 4 * hbmLine d w parcel key + i))

/-! ## Lookups (R393, R396, R398 to R400, R403) -/

/-- What a lookup finds. -/
inductive Look where
  | hit (i : Nat) (e : TEntry)
  | miss
  | pend
deriving DecidableEq, Repr

/-- The index of a TERNARY row that matches. -/
def State.rowMatch (s : State) (t tb parcel key : Nat) : Option (Nat × TEntry) :=
  (s.entriesOf t tb).find? (fun e => e.2.valid && e.2.parcel == parcel && Nat.land key e.2.mask == Nat.land e.2.key e.2.mask)

/-- The longest LPM entry that matches. -/
def State.prefixMatch (s : State) (d : Desc) (t tb parcel key : Nat) : Option (Nat × TEntry) :=
  (s.entriesOf t tb).foldl (fun b e =>
    let m := e.2.valid && e.2.parcel == parcel && key / 2 ^ (d.keyBits - e.2.plen) == e.2.key / 2 ^ (d.keyBits - e.2.plen)
    match b with
    | none => if m then some e else none
    | some x => if m && decide (x.2.plen < e.2.plen) then some e else b) none

/-- The entry of an on-chip table that a lookup uses. -/
def State.find (s : State) (d : Desc) (t tb parcel key : Nat) : Option (Nat × TEntry) :=
  match d.type with
  | 1 => ((positions d parcel key).map (fun i => (i, s.tent t tb i))).find? (fun e =>
      e.2.valid && e.2.parcel == parcel && e.2.key == key)
  | 2 => s.prefixMatch d t tb parcel key
  | 3 => s.rowMatch t tb parcel key
  | 4 =>
    let e := s.tent t tb key
    if key < tableSize d ∧ e.valid ∧ e.parcel = parcel then some (key, e) else none
  | _ => none

/-- A fill of a line starts, unless it is under way or 256 are outstanding (R403). -/
def State.startFill (s : State) (t line : Nat) : State :=
  let p := Page.tbc t
  let q := s.fills.get t []
  let s1 := s.count p TBC.C_CACHE_MISSES
  if q.contains line then s1
  else if q.length < 256 then { s1 with fills := s1.fills.set t (q ++ [line]) [] }
  else s1.count p TBC.C_FILL_DROPS

/-- A lookup of an HBM table in traverse `t` through its cache. -/
def State.lookHbm (s : State) (d : Desc) (t parcel key : Nat) : State × Look :=
  let way (x : State × Look) (w : Nat) : State × Look :=
    let line := hbmLine d w parcel key
    match x.2 with
    | .hit _ _ => x
    | l =>
      if !x.1.inBodyArea line then x
      else match x.1.cached t line with
      | none => (x.1.startFill t line, .pend)
      | some k =>
        let c := x.1.cache.get k dflt.line
        let s1 := (x.1.count (Page.tbc t) TBC.C_CACHE_HITS).tick
        match (List.range 4).find? (fun i =>
          let e := bodyEntry d (c.bodies.getD i 0) false
          e.valid && e.parcel == parcel && e.key == key) with
        | some i =>
          let was := Nat.bitAt c.hits i
          let c1 := { c with hits := if was then c.hits else c.hits + 2 ^ i, dirty := c.dirty || !was, used := s1.nextPkt }
          (s1.setLine k c1, .hit ((w * 2 ^ d.hbmLog + (line - d.hbmBase * 1024 - w * 2 ^ d.hbmLog)) * 4 + i)
            (bodyEntry d (c.bodies.getD i 0) true))
        | none => (s1.setLine k { c with used := s1.nextPkt }, l)
  if s.hbmUp then (List.range 4).foldl way (s, .miss) else (s, .miss)

/-- A packet's lookup: a hit sets HIT. -/
def State.look (s : State) (t tb parcel key : Nat) : State × Look :=
  let d := s.desc t tb
  if !d.valid then (s, .miss)
  else if d.type = 5 then s.lookHbm d t parcel key
  else match s.find d t tb parcel key with
    | some (i, e) => (s.setTent t tb i { e with hit := true }, .hit i e)
    | none => (s, .miss)

/-! ## Cuckoo moves (R397) -/

/-- The first free index of a list. -/
def State.firstFree (s : State) (t tb : Nat) (l : List Nat) : Option Nat := l.find? (fun i => !(s.tent t tb i).valid)

/-- The other positions of the occupant of index `i`. -/
def State.others (s : State) (d : Desc) (t tb i : Nat) : List Nat :=
  let e := s.tent t tb i
  (positions d e.parcel e.key).filter (fun j => j != i)

/-- The lowest of the free positions that chains end at, with its chain. -/
def lowestChain (l : List (List Nat)) : Option (List Nat) :=
  l.foldl (fun b c =>
    match b with
    | none => some c
    | some x => if c.getLastD 0 < x.getLastD 0 then some c else b) none

/-- The chain of positions, from the key's own to a free one, that an insert uses: one or two moves. -/
def State.findChain (s : State) (d : Desc) (t tb : Nat) (pos : List Nat) : Option (List Nat) :=
  let lvl1 := pos.flatMap (fun i => (s.others d t tb i).map (fun j => [i, j]))
  let free (c : List Nat) : Bool := !(s.tent t tb (c.getLastD 0)).valid
  match lowestChain (lvl1.filter free) with
  | some c => some c
  | none =>
    let lvl2 := lvl1.flatMap (fun c => (s.others d t tb (c.getLastD 0)).map (fun j => c ++ [j]))
    lowestChain (lvl2.filter free)

/-- The moves of a chain, from its end backwards: each occupant goes to the next position. -/
def State.runChain (s : State) (t tb : Nat) (c : List Nat) : State :=
  ((List.range (c.length - 1)).reverse).foldl (fun s k =>
    let e := s.tent t tb (c.getD k 0)
    (s.setTent t tb (c.getD (k + 1) 0) e).setTent t tb (c.getD k 0) dflt.entry) s

/-- A place for a new key: a free position, or one that moves free. -/
def State.makeRoom (s : State) (d : Desc) (t tb parcel key : Nat) : Option (State × Nat) :=
  let pos := positions d parcel key
  match s.firstFree t tb pos with
  | some i => some (s, i)
  | none => (s.findChain d t tb pos).map (fun c => (s.runChain t tb c, c.getD 0 0))

/-! ## Notifications and learned losses (R417, R422) -/

def State.noteFollow (s : State) (t : Nat) : State :=
  (s.setFld (Page.lrn t) LRN.LRN_STATUS_NOTE_COUNT (s.notes.get t []).length).setFld (Page.lrn t) LRN.LRN_STATUS_QUEUE_DEPTH
    (s.learnQ.get t []).length

/-- A record joins the notification FIFO where the table asks for it, or is lost. -/
def State.note (s : State) (t tb kind i : Nat) (e : TEntry) : State :=
  if (s.desc t tb).notify then
    let q := s.notes.get t []
    if q.length < 8192 then
      { s with notes := s.notes.set t (q ++ [(⟨kind, tb, e.parcel, i, e.key, e.act⟩ : Note)]) [] }.noteFollow t
    else (s.count (Page.lrn t) LRN.C_NOTIFY_LOST).raise (Page.lrn t) LRN.S_NOTIFY_LOST
  else s

/-- An uncorrectable error in an entry (R422): a learned one is removed, any other is a traverse fault. -/
def State.entryLost (s : State) (t tb i : Nat) : State :=
  let e := s.tent t tb i
  if e.valid && e.learned then
    ((s.putEntry t tb i dflt.entry).count (Page.tbc t) TBC.C_LEARNED_LOST).note t tb 4 i e
  else s.raise (Page.tbc t) TBC.S_TBL_MEM_FAIL

/-! ## Sweeps (R419) -/

/-- One sweep of a table in traverse `t`: of every entry, or of those of one parcel. -/
def State.sweep (s : State) (t tb : Nat) (only : Option Nat) : State :=
  let d := s.desc t tb
  let one (s : State) (x : Nat × TEntry) : State :=
    let e := x.2
    if !e.valid || (match only with | some p => p != e.parcel | none => false) then s
    else if e.hit then s.setTent t tb x.1 { e with hit := false, age := 0 }
    else
      let age := Nat.min 0xFFFF (e.age + 1)
      if !e.static && d.ageLimit != 0 && decide (d.ageLimit ≤ age) then
        ((s.putEntry t tb x.1 dflt.entry).count (Page.lrn t) LRN.C_AGE_OUTS).note t tb 3 x.1 e
      else s.setTent t tb x.1 { e with age := age }
  (s.entriesOf t tb).foldl one s

/-! ## Table commands (R397 to R412) -/

/-- What a table command answers: the state, STATUS, the index acted on, and the data words that it returns. -/
structure CmdRes where
  state  : State
  status : Nat
  index  : Option Nat := none
  data   : Option (List Word) := none
deriving DecidableEq, Repr

/-- A stored entry: HIT, AGE and LEARNED start at zero; a ternary value has no bit outside its mask (R392, R399). -/
def freshEntry (d : Desc) (e : TEntry) : TEntry :=
  { e with hit := false, age := 0, learned := false, key := if d.type = 3 then Nat.land e.key e.mask else e.key }

/-- The entry that a command names by its key. -/
def State.byKey (s : State) (d : Desc) (t tb : Nat) (e : TEntry) : Option (Nat × TEntry) :=
  if d.type = 2 then
    (s.entriesOf t tb).find? (fun x => x.2.valid && x.2.parcel == e.parcel && x.2.key == e.key && x.2.plen == e.plen)
  else s.find d t tb e.parcel e.key

/-- Where an INSERT into an LPM table goes: which free slot is the N768's own choice and so free here; whether a split finds a row
and a bucket is free between the least and the most that the structure can hold (R390, R401). -/
def State.lpmRoom (s : State) (d : Desc) (t tb : Nat) : State × Option Nat :=
  let used := ((s.entriesOf t tb).map (·.1))
  let most := 16 * Nat.min (tcamRows d) (lpmBuckets d)
  let least := Nat.min (tcamRows d) (lpmBuckets d)
  if most ≤ used.length then (s, none)
  else if least ≤ used.length ∧ s.free % 2 = 0 then (s.drawn, none)
  else (s.drawn.drawn, some (nthFree used (s.drawn.free % (tableSize d - used.length))))

def State.insertAt (s : State) (t tb i : Nat) (e : TEntry) : CmdRes := ⟨s.putEntry t tb i e, 0, some i, none⟩

/-- INSERT into an on-chip table. -/
def State.tblInsert (s : State) (d : Desc) (t tb : Nat) (e : TEntry) : CmdRes :=
  let new := freshEntry d e
  if d.type = 3 ∨ ¬ e.valid then ⟨s, 5, none, none⟩
  else if d.type = 4 then
    let old := s.tent t tb e.key
    if tableSize d ≤ e.key then ⟨s, 5, none, none⟩
    else if ¬ (old.valid ∧ old.parcel = e.parcel) ∧ s.overLimit t d.qclass e.parcel then ⟨s.quotaHit e.parcel, 3, none, none⟩
    else s.insertAt t tb e.key new
  else match s.byKey d t tb e with
    | some (i, _) => s.insertAt t tb i new
    | none =>
      if s.overLimit t d.qclass e.parcel then ⟨s.quotaHit e.parcel, 3, none, none⟩
      else if d.type = 2 then
        match s.lpmRoom d t tb with
        | (s1, some i) => s1.insertAt t tb i new
        | (s1, none) => ⟨s1, 6, none, none⟩
      else match s.makeRoom d t tb e.parcel e.key with
        | some (s1, i) => s1.insertAt t tb i new
        | none => ⟨s, 6, none, none⟩

/-- WRITE at an index of an on-chip table. -/
def State.tblWrite (s : State) (d : Desc) (t tb i : Nat) (e : TEntry) : CmdRes :=
  let old := s.tent t tb i
  if d.type = 2 ∨ tableSize d ≤ i then ⟨s, 5, none, none⟩
  else if e.valid ∧ ¬ (old.valid ∧ old.parcel = e.parcel) ∧ s.overLimit t d.qclass e.parcel then
    ⟨s.quotaHit e.parcel, 3, none, none⟩
  else s.insertAt t tb i (freshEntry d e)

/-- DELETE by key; a TERNARY one names value and mask. -/
def State.tblDelete (s : State) (d : Desc) (t tb : Nat) (e : TEntry) : CmdRes :=
  let x := if d.type = 3 then
      (s.entriesOf t tb).find? (fun x =>
        x.2.valid && x.2.parcel == e.parcel && x.2.key == Nat.land e.key e.mask && x.2.mask == e.mask)
    else s.byKey d t tb e
  match x with
  | some (i, _) => ⟨s.putEntry t tb i dflt.entry, 0, some i, none⟩
  | none => ⟨s, 1, none, none⟩

/-- The commands that change or show an entry found by its key; `w`: the staged DATA0, which AGE_QUERY leaves as it is. -/
def State.tblOnKey (s : State) (d : Desc) (t tb op : Nat) (e : TEntry) (w : Word) : CmdRes :=
  let x := if op = 5 then s.find d t tb e.parcel e.key else s.byKey d t tb e
  match x with
  | none => ⟨s, 1, none, none⟩
  | some (i, o) =>
    match op with
    | 5 => ⟨s, 0, some i, some (stage d o)⟩
    | 6 => ⟨s.setTent t tb i { o with prog := e.prog, se := e.se, act := e.act }, 0, some i, none⟩
    | 7 => ⟨s, 0, some i, some [w, ageWord { dflt.entry with hit := o.hit, age := o.age }]⟩
    | 8 => ⟨s.setTent t tb i { o with hit := true, age := 0 }, 0, some i, none⟩
    | _ => ⟨s.setTent t tb i { o with hit := false, age := 0 }, 0, some i, none⟩

/-- The body of a key in HBM, write-backs in flight included. -/
def State.bodyOf (s : State) (d : Desc) (parcel key : Nat) : Option Nat :=
  (candidates d parcel key).find? (fun k =>
    let v := match s.writeBacks.find? (fun e => e.2.addr == k / 4) with
      | some e => e.2.bodies.getD (k % 4) 0
      | none => s.body k
    let e := bodyEntry d v false
    e.valid && e.parcel == parcel && e.key == key)

/-- A body is written by a command of traverse `t` (R405, R406). -/
def State.cmdBody (s : State) (t k v : Nat) : State :=
  let m := s.mergeBacks (k / 4)
  let s1 := (m.1.setBody k v).patchCaches k v
  (if m.2 then s1.count (Page.tbc t) TBC.C_MERGES else s1).hbmSurvey 2 (k * 16) 64

/-- The index of a body within its table. -/
def hbmIndex (d : Desc) (k : Nat) : Nat := k - d.hbmBase * 4096

/-- A command on an HBM table, carried out by traverse `t` (R402, R405, R409). -/
def State.hbmCommand (s : State) (d : Desc) (t op i : Nat) (e : TEntry) (w : Word) : CmdRes :=
  let cls := d.qclass
  let cands := candidates d e.parcel e.key
  let lines := (List.range 4).map (fun w => hbmLine d w e.parcel e.key)
  let at_ := d.hbmBase * 4096 + i
  if !s.hbmUp then ⟨s, 7, none, none⟩
  else if op = 1 ∨ op = 2 then
    if tableSize d ≤ i ∨ ¬ s.inBodyArea (at_ / 4) then ⟨s, 5, none, none⟩
    else if op = 1 then ⟨s.hbmSurvey 2 (at_ * 16) 64, 0, some i, some (stage d (bodyEntry d (s.body at_) (s.anyHit at_)))⟩
    else if e.se.isSome then ⟨s, 5, none, none⟩
    else
      let old := bodyEntry d (s.body at_) false
      if e.valid ∧ ¬ (old.valid ∧ old.parcel = e.parcel) ∧ s.overLimit t cls e.parcel then ⟨s.quotaHit e.parcel, 3, none, none⟩
      else
        let s1 := if old.valid then s.subEntry t cls old.parcel else s
        let s2 := if e.valid then s1.addEntry t cls e.parcel else s1
        ⟨((s2.cmdBody t at_ (entryBody d e)).setBodyHit at_ false).patchHits at_ false, 0, some i, none⟩
  else if lines.any (fun l => !s.inBodyArea l) then ⟨s, 5, none, none⟩
  else match s.bodyOf d e.parcel e.key with
    | some k =>
      let o := bodyEntry d (s.body k) false
      let ix := hbmIndex d k
      match op with
      | 3 =>
        if e.se.isSome ∨ ¬ e.valid then ⟨s, 5, none, none⟩
        else ⟨((s.cmdBody t k (entryBody d e)).setBodyHit k false).patchHits k false, 0, some ix, none⟩
      | 4 => ⟨(s.subEntry t cls e.parcel).cmdBody t k 0, 0, some ix, none⟩
      | 5 => ⟨s.hbmSurvey 2 (k * 16) 64, 0, some ix, some (stage d { o with hit := s.anyHit k })⟩
      | 6 =>
        if e.se.isSome then ⟨s, 5, none, none⟩
        else ⟨s.cmdBody t k (entryBody d { o with prog := e.prog, act := e.act }), 0, some ix, none⟩
      | 7 => ⟨s.hbmSurvey 2 (k * 16) 64, 0, some ix, some [w, ageWord { dflt.entry with hit := s.anyHit k }]⟩
      | 8 => ⟨((s.mergeBacks (k / 4)).1.setBodyHit k true).patchHits k true, 0, some ix, none⟩
      | _ => ⟨((s.mergeBacks (k / 4)).1.setBodyHit k false).patchHits k false, 0, some ix, none⟩
    | none =>
      if op = 3 then
        if e.se.isSome ∨ ¬ e.valid then ⟨s, 5, none, none⟩
        else if s.overLimit t cls e.parcel then ⟨s.quotaHit e.parcel, 3, none, none⟩
        else match cands.find? (fun k => !Nat.bitAt (s.body k) 127) with
          | some k => ⟨(((s.addEntry t cls e.parcel).cmdBody t k (entryBody d e)).setBodyHit k false).patchHits k false, 0, some (hbmIndex d k), none⟩
          | none => ⟨s, 6, none, none⟩
      else ⟨s, 1, none, none⟩

/-! ## Descriptor commands (R391, R413) -/

/-- Ranges of blocks meet. -/
def meet (a n b m : Nat) : Bool := decide (0 < n) && decide (0 < m) && decide (a < b + m) && decide (b < a + n)

/-- Blocks of a descriptor: an HBM table has none. -/
def Desc.srams (d : Desc) : Nat := if d.type = 0 ∨ d.type = 5 then 0 else d.sram
def Desc.tcams (d : Desc) : Nat := if d.type = 2 ∨ d.type = 3 then d.tcam else 0

/-- A block range meets one of another valid table of traverse `t`. -/
def State.tableMeets (s : State) (t except base n tbase m : Nat) : Bool :=
  s.ents.any (fun e => e.1 / 2 ^ 32 == spDesc * 2 ^ 16 + t && e.1 % 2 ^ 32 != except && (
    let d := descOf e.2
    d.valid && (meet base n d.sramBase d.srams || meet tbase m d.tcamBase d.tcams)))

/-- A block range meets one of a configured element of traverse `t` (R354), but for element `except` (station × 8 + element). -/
def State.elementMeets (s : State) (t except base n : Nat) : Bool :=
  (List.range 160).any (fun k => k != except && (
    let w := s.reg (Page.stn t (k / 8)) STN.SE_CFG (k % 8)
    Word.bits w 46 2 != 0 && meet base n (Word.bits w 38 8) (Word.bits w 30 8)))

/-- The table holds an entry in traverse `t`. -/
def State.holdsEntry (s : State) (t tb : Nat) : Bool :=
  let d := s.desc t tb
  if d.type = 5 then
    (List.range 4).any (fun w => s.hbmBodies.any (fun e =>
      decide (d.hbmBase * 4096 + w * 4 * 2 ^ d.hbmLog ≤ e.1) && decide (e.1 < d.hbmBase * 4096 + (w + 1) * 4 * 2 ^ d.hbmLog)
        && Nat.bitAt e.2 127))
  else s.tables.any (fun (e : Nat × TEntry) => e.1 / 2 ^ 29 == t * 1024 + tb)

/-- Fields that may not change while the table holds an entry. -/
def descShape (d : Desc) : List Nat :=
  [d.type, d.keyBits, d.actBits, d.sramBase, d.sram, d.tcamBase, d.tcam, d.seed, d.hbmBase, d.hbmLog]

/-- A DESC_WRITE breaks R391. -/
def State.descConflict (s : State) (t tb : Nat) (d : Desc) : Bool :=
  !sizesGood d
    || (d.valid && (s.tableMeets t tb d.sramBase d.srams d.tcamBase d.tcams || s.elementMeets t 160 d.sramBase d.srams))
    || (s.holdsEntry t tb && descShape d != descShape (s.desc t tb))

/-- A DESC_WRITE has a format that R389, R413 or the field table refuses. -/
def descBad (d : Desc) : Bool :=
  decide (6 ≤ d.type) || decide (48 < d.learnLsb + d.learnW) || (d.learn && (d.type != 1 || decide (96 < d.keyBits)
    || decide (d.actBits < d.learnW)))

/-- Descriptor words with reserved bits zero. -/
def descStored (l : List Word) : List Word :=
  [l.getD 0 0, keep 0xFFFFFFFFFFF8 (l.getD 1 0), keep 0xFFFFFFFE0000 (l.getD 2 0), keep 0xFFFFFFFF0000 (l.getD 3 0),
    keep 0xFFFFFE000000 (l.getD 4 0)]

/-- The on-chip entries of a table are counted in its new quota class (R102). -/
def State.recount (s : State) (t tb old new : Nat) : State :=
  (s.entriesOf t tb).foldl (fun (s : State) (e : Nat × TEntry) =>
    if e.2.valid then (s.subEntry t old e.2.parcel).addEntry t new e.2.parcel else s) s

def State.descWrite (s : State) (t tb : Nat) (l : List Word) : CmdRes :=
  let d := descOf l
  if descBad d then ⟨s, 5, none, none⟩
  else if s.descConflict t tb d then ⟨s.raise (Page.tbc t) TBC.S_ALLOC_CONFLICT, 5, none, none⟩
  else
    let old := s.desc t tb
    let s1 := if old.qclass = d.qclass then s else s.recount t tb old.qclass d.qclass
    ⟨s1.setEnt spDesc t tb (descStored l), 0, none, none⟩

/-- A table command in traverse `t` (R408): opcode, table, INDEX, data words; `tenant`: the parcel of a tenant's command. -/
def State.tableCommand (s : State) (t op tb i : Nat) (l : List Word) (tenant : Option Nat) : CmdRes :=
  if op = 0x10 then ⟨s, 0, none, some ((List.range 5).map (fun k => s.entWord spDesc t tb k))⟩
  else if op = 0x11 then s.descWrite t tb l
  else if op = 0x12 then ⟨s, 0, none, some [BitVec.ofNat 48 (s.entryUse t (i / 4096 % 16) (i % 4096))]⟩
  else
    let d := s.desc t tb
    let x := unstage d l
    let e := x.1
    if d.type == 0 || decide (5 < d.type) || decide (0x0A < op) || op == 0 then ⟨s, 5, none, none⟩
    else if op = 0x0A then (if d.type = 5 then ⟨s, 5, none, none⟩ else ⟨s.sweep t tb tenant, 0, none, none⟩)
    else if op ≠ 1 ∧ ¬ x.2 then ⟨s, 5, none, none⟩
    else if d.type = 2 ∧ op ≠ 1 ∧ op ≠ 5 ∧ (d.keyBits < e.plen ∨ e.key % 2 ^ (d.keyBits - e.plen) ≠ 0) then ⟨s, 5, none, none⟩
    else if d.type = 5 then s.hbmCommand d t op i e (l.getD 0 0)
    else match op with
      | 1 => if tableSize d ≤ i then ⟨s, 5, none, none⟩ else ⟨s, 0, some i, some (stage d (s.tent t tb i))⟩
      | 2 => s.tblWrite d t tb i e
      | 3 => s.tblInsert d t tb e
      | 4 => s.tblDelete d t tb e
      | _ => s.tblOnKey d t tb op e (l.getD 0 0)

/-! ## The table command page (R407, R410) -/

/-- DATA0 to DATA15 of the page. -/
def State.tbcData (s : State) (t : Nat) : List Word := s.indData (Page.tbc t) TBC.TBC_DATA 16

/-- The command of page `t` has ended. -/
def State.tbcEnd (s : State) (t status : Nat) (skipped : Bool) : State :=
  let p := Page.tbc t
  let s1 := ((s.setFld p TBC.TBC_STATUS_STATUS status).setFlag p TBC.TBC_STATUS_SKIPPED skipped).setFlag p TBC.TBC_STATUS_DONE true
  let s2 := s1.count p TBC.C_CMDS_DONE
  let s3 := if status = 0 then s2 else s2.count p TBC.C_CMD_ERRORS
  let s4 := if 2 ≤ status ∧ status ≤ 4 then s3.parcelCount (Word.bits (s3.reg p TBC.TBC_DATA 0) 35 12) 0x058 1 else s3
  s4.raiseIf (status == 5) p TBC.S_CMD_ERROR

/-- Index and data of a result stored in page `t`. -/
def State.tbcResult (s : State) (t : Nat) (x : CmdRes) : State :=
  let p := Page.tbc t
  let s1 := match x.index with
    | some i => s.setFld p TBC.TBC_RESULT_INDEX i
    | none => s
  match x.data with
  | some l => s1.fillData p TBC.TBC_DATA l.length l
  | none => s1

/-- The traverses that carry out a broadcast: all that are reached, or for an HBM table the lowest-numbered one (R405, R410). -/
def State.carriers (s : State) (t tb op : Nat) : List Nat :=
  let l := (List.range 25).filter s.reached
  if op < 0x10 ∧ (s.desc t tb).type = 5 then l.take 1 else l

/-- A command to one traverse. -/
def State.tbcOne (s : State) (r : Req) (t op tb i : Nat) : State :=
  let x := s.tableCommand t op tb i (s.tbcData t) none
  let parcel := Word.bits ((s.tbcData t).getD 0 0) 35 12
  ((x.state.tbcResult t x).tbcEnd t x.status false).survey 16 { parcel := some parcel, fn := some r.fn, addr := some tb }

/-- A broadcast: carried out in every traverse; BUSY in every page reached until it completes. -/
def State.tbcAll (s : State) (r : Req) (t op tb i : Nat) : State :=
  let l := s.tbcData t
  let reached := (List.range 25).filter s.reached
  let by_ := s.carriers t tb op
  let run (x : State × Nat) (u : Nat) : State × Nat :=
    let y := x.1.tableCommand u op tb i l none
    ((if u = t ∨ by_.length = 1 then y.state.tbcResult t y else y.state), Nat.max x.2 y.status)
  let y := by_.foldl run (s, 0)
  let s1 := reached.foldl (fun s u => s.setFlag (Page.tbc u) TBC.TBC_STATUS_BUSY true) y.1
  let s2 := { s1 with tbcWait := s1.tbcWait ++ [(t, y.2, decide (reached.length < 25))] }
  s2.survey 16 { parcel := some (Word.bits (l.getD 0 0) 35 12), fn := some r.fn, addr := some tb }

/-- A write of TBC_CMD, by its OPCODE. -/
def State.tbcCommand (s : State) (r : Req) (t : Nat) (data : Word) : State :=
  let p := Page.tbc t
  s.hostWrite r p TBC.TBC_CMD 0 true fun s =>
    if s.flag p TBC.TBC_STATUS_BUSY then s.raise p TBC.S_CMD_ERROR
    else
      let s1 := s.setFlag p TBC.TBC_STATUS_DONE false
      let op := Word.bits data 40 8
      let tb := Word.bits data 30 10
      let i := Word.bits data 0 29
      if Word.bit data 29 then s1.tbcAll r t op tb i else s1.tbcOne r t op tb i

def execTbcRead (r : Req) (t : Fin 25) (data : Word) (s : State) : Result := answer (s.tbcCommand r t data)
def execTbcWrite (r : Req) (t : Fin 25) (data : Word) (s : State) : Result := answer (s.tbcCommand r t data)
def execTbcInsert (r : Req) (t : Fin 25) (data : Word) (s : State) : Result := answer (s.tbcCommand r t data)
def execTbcDelete (r : Req) (t : Fin 25) (data : Word) (s : State) : Result := answer (s.tbcCommand r t data)
def execTbcSearch (r : Req) (t : Fin 25) (data : Word) (s : State) : Result := answer (s.tbcCommand r t data)
def execTbcUpdateAction (r : Req) (t : Fin 25) (data : Word) (s : State) : Result := answer (s.tbcCommand r t data)
def execTbcAgeQuery (r : Req) (t : Fin 25) (data : Word) (s : State) : Result := answer (s.tbcCommand r t data)
def execTbcAgeTouch (r : Req) (t : Fin 25) (data : Word) (s : State) : Result := answer (s.tbcCommand r t data)
def execTbcAgeClear (r : Req) (t : Fin 25) (data : Word) (s : State) : Result := answer (s.tbcCommand r t data)
def execTbcAgeSweep (r : Req) (t : Fin 25) (data : Word) (s : State) : Result := answer (s.tbcCommand r t data)
def execTbcDescRead (r : Req) (t : Fin 25) (data : Word) (s : State) : Result := answer (s.tbcCommand r t data)
def execTbcDescWrite (r : Req) (t : Fin 25) (data : Word) (s : State) : Result := answer (s.tbcCommand r t data)
def execTbcCountRead (r : Req) (t : Fin 25) (data : Word) (s : State) : Result := answer (s.tbcCommand r t data)

/-- Every traverse has completed the oldest broadcast of page `t`: BUSY clears (R410). -/
def execTbcBroadcastDone (t : Fin 25) (s : State) : Result :=
  answer (match s.tbcWait.find? (fun e => e.1 == t.val) with
    | none => s
    | some w =>
      let s1 := { s with tbcWait := s.tbcWait.filter (fun e => e.1 != t.val) }
      let s2 := if s1.tbcWait.isEmpty then
          (List.range 25).foldl (fun s u => s.setFlag (Page.tbc u) TBC.TBC_STATUS_BUSY false) s1
        else s1
      (s2.setFlag (Page.tbc t) TBC.TBC_STATUS_BUSY false).tbcEnd t w.2.1 w.2.2)

/-! ## Learning (R413 to R417) -/

/-- A request reaches the learn queue of traverse `t` (R414). -/
def State.learnRequest (s : State) (t : Nat) (x : Learn) : State :=
  let q := s.learnQ.get t []
  let same (y : Learn) : Bool := y.table == x.table && y.parcel == x.parcel && y.key == x.key
  if q.any same then
    { s with learnQ := s.learnQ.set t (q.map (fun y => if same y then { y with value := x.value } else y)) [] }
  else if q.length < 4096 then { s with learnQ := s.learnQ.set t (q ++ [x]) [] }.noteFollow t
  else (s.count (Page.lrn t) LRN.C_LEARN_OVERRUNS).raise (Page.lrn t) LRN.S_LEARN_OVERRUN

/-- The candidate that goes before another under EVICT = 1 (R416): largest AGE, then HIT = 0, then lowest way. -/
def older (a b : Nat × TEntry) : Bool :=
  decide (b.2.age < a.2.age) || (a.2.age == b.2.age && (!a.2.hit && b.2.hit))

/-- The occupant that a NEW learn evicts; the state after a random choice. -/
def State.victim (s : State) (d : Desc) (t tb parcel key : Nat) : State × Option (Nat × TEntry) :=
  let l := ((positions d parcel key).map (fun i => (i, s.tent t tb i))).filter (fun e =>
    e.2.valid && e.2.learned && !e.2.static && e.2.parcel == parcel)
  match l with
  | [] => (s, none)
  | a :: r =>
    if d.evict then (s, some (r.foldl (fun b e => if older e b then e else b) a))
    else (s.drawn, l[s.free % l.length]?)

/-- A NEW learn (R415, R416). -/
def State.learnNew (s : State) (t : Nat) (x : Learn) : State :=
  let d := s.desc t x.table
  let p := Page.lrn t
  let e : TEntry := { valid := true, parcel := x.parcel, prog := d.learnProg, learned := true, hit := true, key := x.key,
                      act := x.value }
  let put (s : State) (i : Nat) : State :=
    (((s.putEntry t x.table i e).count p LRN.C_LEARNS).survey 15 { parcel := some x.parcel, addr := some x.table }).note t x.table 0 i e
  if (s.find d t x.table x.parcel x.key).isSome then s
  else
    let room := if s.overLimit t d.qclass x.parcel then none else s.makeRoom d t x.table x.parcel x.key
    match room with
    | some (s1, i) => put s1 i
    | none =>
      match s.victim d t x.table x.parcel x.key with
      | (s1, some (i, o)) => put (((s1.putEntry t x.table i dflt.entry).count p LRN.C_EVICTIONS).note t x.table 2 i o) i
      | (s1, none) =>
        let s2 := ((s1.count p LRN.C_LEARN_DROPS).parcelCount x.parcel 0x050 1).raise p LRN.S_LEARN_DROP
        if s.overLimit t d.qclass x.parcel then s2.quotaHit x.parcel else s2

/-- A MOVE learn (R415). -/
def State.learnMove (s : State) (t : Nat) (x : Learn) : State :=
  let d := s.desc t x.table
  match s.find d t x.table x.parcel x.key with
  | some (i, o) =>
    if o.learned then
      let e := { o with act := o.act - o.act % 2 ^ d.learnW + x.value % 2 ^ d.learnW, hit := true, age := 0 }
      ((s.setTent t x.table i e).count (Page.lrn t) LRN.C_MOVES).note t x.table 1 i e
    else s
  | none => s

/-- The learn unit applies the oldest request. -/
def execLearnApply (t : Fin 25) (s : State) : Result :=
  answer (match s.learnQ.get t [] with
    | [] => s
    | x :: q =>
      let s1 := { s with learnQ := s.learnQ.set t.val q [] }.noteFollow t
      let d := s1.desc t x.table
      if d.valid && d.type == 1 && d.learn then (if x.move then s1.learnMove t x else s1.learnNew t x) else s1)

/-- A read of NOTE0 removes the oldest record and latches the rest of it. -/
def execNote0Read (r : Req) (t : Fin 25) (s : State) : Result :=
  answer (
    let p := Page.lrn t
    let value (s : State) : Word := match s.notes.get t [] with
      | n :: _ => BitVec.ofNat 48 (2 ^ 47 + n.kind * 2 ^ 44 + n.table * 2 ^ 34 + n.parcel * 2 ^ 22 + n.index % 2 ^ 20)
      | [] => 0
    s.hostRead r p LRN.NOTE0 0 true value fun s =>
      match s.notes.get t [] with
      | n :: q =>
        let s1 := { s with notes := s.notes.set t.val q [] }.noteFollow t
        s1.fillData p LRN.NOTE1 3 [BitVec.ofNat 48 n.key, BitVec.ofNat 48 (n.key / 2 ^ 48), BitVec.ofNat 48 n.act]
      | [] => s)

/-! ## Flood groups (R418) -/

/-- The flood group of a parcel in traverse `t`, where it is valid. -/
def State.floodGroup (s : State) (t parcel : Nat) : Option Nat :=
  let w := s.entWord spFlood t parcel 0
  if Word.bit w 14 then some (Word.bits w 0 14) else none

/-- A write of FLOOD_CMD: a read or a write, as its bit 47 says. -/
def State.floodCommand (s : State) (r : Req) (t : Nat) (data : Word) : State :=
  s.hostWrite r (Page.lrn t) LRN.FLOOD_CMD 0 true fun s =>
    let p := Word.bits data 0 12
    let w := s.reg (Page.lrn t) LRN.FLOOD_DATA
    if Word.bit data 47 then
      (s.forTraverses t (Word.bit data 46) (fun s u => (s.setEnt spFlood u p [keep 0x7FFF w], 0))).1
    else s.setReg (Page.lrn t) LRN.FLOOD_DATA (s.entWord spFlood t p 0)

def execFloodRead (r : Req) (t : Fin 25) (data : Word) (s : State) : Result := answer (s.floodCommand r t data)
def execFloodWrite (r : Req) (t : Fin 25) (data : Word) (s : State) : Result := answer (s.floodCommand r t data)

/-- A table's period has come (R419); `late`: its last sweep was still running. -/
def execAgeSweepPeriodic (t : Fin 25) (tb : Fin 1024) (late : Bool) (s : State) : Result :=
  answer (
    let d := s.desc t tb
    if d.valid && d.age && d.type != 5 then
      (if late then (s.count (Page.lrn t) LRN.C_AGE_LATE).raise (Page.lrn t) LRN.S_AGE_LATE else s).sweep t tb none
    else s)

/-! ## The table cache (R403, R404, R424) -/

/-- The way of its set that a new line takes: a free one, else the least recently used. -/
def State.cacheWay (s : State) (t line : Nat) : Nat :=
  let ways := (List.range 16).map (fun w => t * 16384 + line % 1024 * 16 + w)
  match ways.find? (fun k => !(s.cache.get k dflt.line).valid) with
  | some k => k
  | none => ways.foldl (fun b k => if (s.cache.get k dflt.line).used < (s.cache.get b dflt.line).used then k else b)
      (ways.headD 0)

/-- The line that a new one displaces: a dirty one is queued for write-back, a clean one is dropped. -/
def State.evictLine (s : State) (t k : Nat) : State :=
  let x := s.cache.get k dflt.line
  let s1 := s.setLine k dflt.line
  if x.valid && x.dirty then { s1 with writeBacks := s1.writeBacks ++ [(t, x)] } else s1

/-- A fill lands (R403); a write-back of its line lands before it is read; an uncorrectable error loses the line (R531). -/
def execCacheMissFill (t : Fin 25) (line : Nat) (ecc : EccFound) (s : State) : Result :=
  answer (
    let q := s.fills.get t []
    if q.contains line && s.hbmUp then
      let m := s.mergeBacks line
      let s1 := { m.1 with fills := m.1.fills.set t.val (q.filter (fun l => l != line)) [] }
      let s2 := (if m.2 then s1.count Page.ovm OVM.C_HAZARD_WAITS else s1).hbmSurvey 2 (line * 64) 64
      let s3 := match ecc with
        | .clean => s2
        | .fixed => s2.hbmFixed
        | .lost => (s2.hbmUe line).loseLine line
      let k := s3.cacheWay t line
      let s4 := (s3.evictLine t k).tick
      s4.setLine k { valid := true, addr := line, bodies := s4.lineBodies line, hits := 0, dirty := false, used := s4.nextPkt }
    else s)

/-- A write-back lands in HBM. -/
def execCacheWriteback (s : State) : Result :=
  answer (match s.writeBacks with
    | (t, x) :: q =>
      if s.hbmUp then
        ((({ s with writeBacks := q }.landLine x).count (Page.tbc t) TBC.C_WRITEBACKS)).hbmSurvey 2 (x.addr * 64) 64
      else { s with writeBacks := q }
    | [] => s)

/-! ## Memory protection (R420 to R424) -/

/-- Spare rows in use of a block; SPARES_FREE follows. -/
def State.setRows (s : State) (t b n : Nat) : State :=
  let s1 := { s with rowsUsed := s.rowsUsed.set (t * 160 + b) n 0 }
  let used := s1.rowsUsed.foldl (fun v e => if e.1 / 160 = t then v + e.2 else v) 0
  s1.setFld (Page.tbc t) TBC.ROW_STATUS_SPARES_FREE (640 - used)

/-- The targeted self-test of a row of block `b` (R421). -/
def State.rowTest (s : State) (t b : Nat) (pass : Bool) : State :=
  let p := Page.tbc t
  let n := s.rowsUsed.get (t * 160 + b) 0
  if 4 ≤ n then s.raise p TBC.S_SPARE_ROWS_OUT
  else if pass then s
  else ((s.setRows t b (n + 1)).count p TBC.C_ROWS_RETIRED).raise p TBC.S_ROW_RETIRED

/-- A scrub of table memory: what it finds in block `b`; a second corrected error in the row within 1 s (`again`) starts its test;
an uncorrectable one may lie in an entry (table, index). With `way`, it finds the error in that way of the table cache: an
uncorrectable one invalidates the line (R424). -/
def execTableScrub (t : Fin 25) (b : Fin 160) (ecc : EccFound) (again pass : Bool) (lostAt : Option (Fin 1024 × Nat))
    (way : Option (Fin 16384)) (s : State) : Result :=
  answer (
    let p := Page.tbc t
    match ecc, way with
    | .clean, _ => s
    | .fixed, some _ => (s.count p TBC.C_SCRUB_FIXED).raise p TBC.S_TBL_SCRUB_FIXED
    | .lost, some k => (s.setLine (t * 16384 + k) dflt.line).raise p TBC.S_CACHE_ECC
    | .fixed, none =>
      let s1 := (s.count p TBC.C_SCRUB_FIXED).raise p TBC.S_TBL_SCRUB_FIXED
      if again then s1.rowTest t b pass else s1
    | .lost, none => match lostAt with
      | some (tb, i) => s.entryLost t tb i
      | none => s.raise p TBC.S_TBL_MEM_FAIL)

/-- A TCAM row compared with its shadow: repaired, or invalidated where the shadow is uncorrectable (R423). -/
def execTcamShadowCompare (t : Fin 25) (ecc : EccFound) (tb : Fin 1024) (row : Nat) (s : State) : Result :=
  answer (
    let p := Page.tbc t
    match ecc with
    | .clean => s
    | .fixed => (s.count p TBC.C_SCRUB_FIXED).raise p TBC.S_TBL_SCRUB_FIXED
    | .lost => (s.putEntry t tb row dflt.entry).raise p TBC.S_TBL_MEM_FAIL)

/-- The closure run of a block's free spare rows (R421): one that fails is retired. -/
def execSpareRowMarch (t : Fin 25) (b : Fin 160) (pass : Bool) (s : State) : Result :=
  answer (
    let n := s.rowsUsed.get (t * 160 + b) 0
    if pass || decide (4 ≤ n) then s
    else ((s.setRows t b (n + 1)).count (Page.tbc t) TBC.C_ROWS_RETIRED).raise (Page.tbc t) TBC.S_ROW_RETIRED)

end Sys2Proof.Machine
end

