-- ==== Sys2Proof/Machine/Watch.lean ====
section
/-!
DEFINITION. Sys2Proof/Machine/Watch.lean: what telemetry does as a packet passes: staking, trace records, and the flow record
cache (18_telemetry_and_counters.md).
Readings and choices (notes/assumptions): DEDUCED 20, 69, 71; PRESUMED 62.
-/
namespace Sys2Proof.Machine

/-- The block of a page that carries no traffic of its own works: with power and clock, and not HALTED (R608). -/
def State.works (s : State) (p : Page) : Bool := s.powered p && s.clocked p && !s.isHalted p

/-- The chunk stamp form of a datum value (R538). -/
def chunkStamp (t : Nat) : Nat := datumSec t % 2 ^ 34 * 2 ^ 30 + datumNs t

/-- Datum W as a datum value; zero while it is out of service (R539). -/
def State.wNow (s : State) : Nat := if s.wOn then s.time.w else 0

/-! ## Staking (R580, R581) -/

/-- One advance of the LFSR of polynomial x^31 + x^28 + 1. -/
def lfsrNext (v : Nat) : Nat := v * 2 % 2 ^ 31 + (v / 2 ^ 30 + v / 2 ^ 27) % 2

/-- The LFSR of traverse `t`: where it stands, or its SEED; 0 acts as 1. -/
def State.lfsr (s : State) (t : Nat) : Nat :=
  let v := s.lfsrs.get t 0
  if v ≠ 0 then v
  else
    let seed := s.fld (Page.trc t) TRC.STAKE_CFG_SEED
    if seed = 0 then 1 else seed

/-- K, kept to 8 to 30. -/
def stakeK (k : Nat) : Nat := Nat.min 30 (Nat.max 8 k)

/-- Packet `id` enters station 0 of traverse `t`. -/
def State.stakeSelect (s : State) (t id : Nat) : State :=
  let p := Page.trc t
  if s.flag p TRC.STAKE_CFG_EN && s.works p then
    let v := lfsrNext (s.lfsr t)
    let s1 := { s with lfsrs := s.lfsrs.set t v 0 }
    if v % 2 ^ stakeK (s.fld p TRC.STAKE_CFG_K) = 0 then
      let x := s1.pkt id
      let par := x.phvParcel
      match s1.takeStakeToken par with
      | some s2 =>
        let n := s2.stakes.get t 0
        let s3 := { s2 with stakes := s2.stakes.set t ((n + 1) % 2 ^ 27) 0 }
        ((s3.setPkt id { x with stake := some (t * 2 ^ 27 + n) }).count p TRC.C_STAKED).survey 24
          { parcel := some par, addr := some t }
      | none => ((s1.parcelCount par 0x040 1).quotaHit par).count p TRC.C_STAKE_SKIPS
    else s1
  else s

/-! ## Trace records (R582 to R584) -/

/-- What a point adds to a trace record. -/
structure Point where
  point   : Nat
  copy    : Nat := 0
  lp      : Nat := 0
  hits    : Nat := 0
  applied : Nat := 0
  progs   : List Nat := []
  disp    : Nat := 0
  info    : Nat := 0
  dropped : Bool := false
deriving DecidableEq, Repr

/-- A trace record of packet `x` by traverse `t`; PHASE, RING_SEQ and CRC are filled in as it is written to a ring. -/
def State.traceRecord (s : State) (t : Nat) (x : Pkt) (id : Nat) (q : Point) : List Byte :=
  let prog (i : Nat) : List Byte := leBytes 2 (q.progs.getD i 0)
  leBytes 4 id ++ leBytes 1 q.point ++ leBytes 1 t ++ leBytes 2 q.copy ++ leBytes 8 (chunkStamp s.wNow) ++ leBytes 2 x.phvParcel
    ++ leBytes 2 q.lp ++ leBytes 1 q.hits ++ leBytes 1 q.applied ++ zeros 2 ++ (List.range 8).flatMap prog ++ leBytes 8 q.disp
    ++ leBytes 4 q.info ++ leBytes 1 (b2n q.dropped + 2 * b2n x.stakeBad) ++ zeros 11

/-- The packets of a STAKE_ID carry INCOMPLETE from now on. -/
def State.stakeLost (s : State) (id : Nat) : State :=
  { s with pkts := s.pkts.map (fun e => if e.2.stake = some id then (e.1, { e.2 with stakeBad := true }) else e) }

/-- A staked packet passes a point. -/
def State.trace (s : State) (t : Nat) (x : Pkt) (q : Point) : State :=
  match x.stake with
  | none => s
  | some id =>
    let p := Page.trc t
    let l := s.traces.get t []
    if l.length < 4096 then
      ({ s with traces := s.traces.set t (l ++ [s.traceRecord t x id q]) [] }.setFld p TRC.TRC_STATUS_FIFO (l.length + 1)).count
        p TRC.C_TRACE_RECORDS
    else ((s.stakeLost id).count p TRC.C_TRACE_LOST).raise p TRC.S_TRACE_LOST

/-! ## Export (R585, R588) -/

/-- A FLOW or INT record for the export engine; discarded while PD29 is off. -/
def State.exportRecord (s : State) (stream : Nat) (l : List Byte) : State :=
  if s.works Page.dmp then { s with exports := s.exports ++ [(stream, l)] } else s.count Page.tel TEL.C_EXPORT_LOST

/-! ## Flow records (R573 to R579) -/

/-- The low 128 bits of PHV words `w` to `w + 2`. -/
def Pkt.addr128 (x : Pkt) (w : Nat) : Nat :=
  ((x.word w).toNat * 2 ^ 96 + (x.word (w + 1)).toNat * 2 ^ 48 + (x.word (w + 2)).toNat) % 2 ^ 128

/-- KIND: of the IP instance type that was recorded first. -/
def State.flowKind (s : State) (x : Pkt) : Nat :=
  let p := Page.tel
  match x.firstHdr (s.fld p TEL.FKEY_ADDR_HT_IPV4), x.firstHdr (s.fld p TEL.FKEY_ADDR_HT_IPV6) with
  | some a, some b => if a ≤ b then 4 else 6
  | some _, none => 4
  | none, some _ => 6
  | none, none => 0

/-- The 40 bytes of the flow key as one number (R574). -/
def State.flowKey (s : State) (x : Pkt) : Nat :=
  let p := Page.tel
  let k := s.flowKind x
  let base := x.phvParcel * 2 ^ 304 + k * 2 ^ 296
  if k = 0 then base
  else
    base + x.addr128 (s.fld p TEL.FKEY_ADDR_SRC_WORD) * 2 ^ 168 + x.addr128 (s.fld p TEL.FKEY_ADDR_DST_WORD) * 2 ^ 40
      + x.bits (s.fld p TEL.FKEY_L4_PROTO_WORD) (s.fld p TEL.FKEY_L4_PROTO_LSB) 8 * 2 ^ 32
      + x.bits (s.fld p TEL.FKEY_L4_PORT_WORD) (s.fld p TEL.FKEY_L4_PORT_LSB) 32

/-- Parts of a key: PARCEL, KIND, PROTO. -/
def keyParcel (k : Nat) : Nat := k / 2 ^ 304 % 4096
def keyKind (k : Nat) : Nat := k / 2 ^ 296 % 256
def keyProto (k : Nat) : Nat := k / 2 ^ 32 % 256

def State.flowKeyHash (s : State) (key : Nat) : Nat :=
  crcMsb 0x1EDC6F41 (s.fld Page.tel TEL.FLOW_CFG_SEED) (beBytes 40 key)

/-- The 128 bytes of a record but PHASE, RING_SEQ and CRC; `flags`: PARTIAL, POISONED, EVICTED and ACTIVE_TIMEOUT. -/
def flowBytes (f : Flow) (flags : Nat) : List Byte :=
  let k := f.key
  leBytes 2 (keyParcel k + keyKind k * 4096) ++ leBytes 1 (keyProto k) ++ leBytes 1 (flags + 16 * b2n f.wrapped)
    ++ leBytes 2 (k / 2 ^ 16 % 2 ^ 16) ++ leBytes 2 (k % 2 ^ 16) ++ beBytes 16 (k / 2 ^ 168 % 2 ^ 128)
    ++ beBytes 16 (k / 2 ^ 40 % 2 ^ 128) ++ leBytes 8 f.pkts ++ leBytes 8 f.byts ++ leBytes 8 f.drops
    ++ leBytes 8 (chunkStamp f.first) ++ leBytes 8 (chunkStamp f.last) ++ leBytes 1 f.flags ++ leBytes 1 f.tc
    ++ leBytes 1 f.lastDrop ++ zeros 1 ++ leBytes 2 f.lastLp ++ zeros 2 ++ leBytes 4 f.staked ++ leBytes 4 f.travs ++ zeros 32

/-- Two parts of one key joined (R577, R578); the packet fields are those of the part seen last. -/
def Flow.join (a b : Flow) : Flow :=
  let late := if a.last < b.last then b else a
  { valid := true, key := a.key, pkts := (a.pkts + b.pkts) % 2 ^ 48, byts := (a.byts + b.byts) % 2 ^ 48,
    drops := (a.drops + b.drops) % 2 ^ 48, first := Nat.min a.first b.first, last := late.last, flags := Nat.lor a.flags b.flags,
    tc := late.tc, lastDrop := if late.lastDrop = 0xFF then (if a.last < b.last then a else b).lastDrop else late.lastDrop,
    lastLp := late.lastLp, staked := (a.staked + b.staked) % 2 ^ 32, travs := Nat.lor a.travs b.travs,
    wrapped := a.wrapped || b.wrapped || decide (2 ^ 48 ≤ a.pkts + b.pkts) || decide (2 ^ 48 ≤ a.byts + b.byts) }

/-- WB_QUEUE and CACHED follow. -/
def State.flowFollow (s : State) : State :=
  (s.setFld Page.tel TEL.FLOW_STATUS_WB_QUEUE s.flowBack.length).setFld Page.tel TEL.FLOW_STATUS_CACHED s.flows.length

/-- The parts of a key that the device holds leave it: cached, awaiting write-back, stored where HBM is in service. -/
def State.takeParts (s : State) (key : Nat) : State × List Flow :=
  let own (e : Nat × Flow) : Bool := e.2.key == key
  let stored := s.flowStore.filter (fun e => own e && s.hbmUp)
  let l := (s.flows.filter own).map (·.2) ++ s.flowBack.filter (fun f => f.key == key) ++ stored.map (·.2)
  (({ s with flows := s.flows.filter (fun e => !own e), flowBack := s.flowBack.filter (fun f => f.key != key),
             flowStore := s.flowStore.filter (fun e => !(own e && s.hbmUp)) } : State).flowFollow, l)

/-- A record is exported as it is. -/
def State.exportAlone (s : State) (f : Flow) (flags : Nat) : State :=
  ((s.exportRecord 0 (flowBytes f flags)).count Page.tel TEL.C_FLOW_EXPORTS).survey 25 { parcel := some (keyParcel f.key) }

/-- A record is exported with the other parts of its key (R578). -/
def State.exportFlow (s : State) (f : Flow) (flags : Nat) : State :=
  let x := s.takeParts f.key
  x.1.exportAlone (x.2.foldl Flow.join f) flags

/-- The backing store is there (R577). -/
def State.flowBacked (s : State) : Bool :=
  s.flag Page.tel TEL.FLOW_CFG_BACKING && decide (0 < s.flowUnits) && s.hbmUp

/-- A record leaves the cache for another (R577). -/
def State.evictFlow (s : State) (f : Flow) : State :=
  let s1 := s.count Page.tel TEL.C_FLOW_EVICTIONS
  if !s1.flowBacked then s1.exportFlow f 4
  else if s1.flowBack.length < 4096 then { s1 with flowBack := s1.flowBack ++ [f] }
  else (s1.exportAlone f 1).count Page.tel TEL.C_FLOW_PARTIAL

/-- The way of a set that a new key takes: a free one, else the one whose LAST is oldest. -/
def State.flowWay (s : State) (set : Nat) : Nat :=
  let ways := (List.range 16).map (fun w => 16 * set + w)
  match ways.find? (fun k => !(s.flows.get k dflt.flow).valid) with
  | some k => k
  | none => ways.foldl (fun b k => if (s.flows.get k dflt.flow).last < (s.flows.get b dflt.flow).last then k else b) (16 * set)

/-- A record takes in one packet (R575). -/
def State.addFlow (s : State) (f : Flow) (x : Pkt) (t : Nat) (drop : Option Nat) : Flow :=
  let p := Page.tel
  let n := f.pkts + 1
  let m := f.byts + x.frameLen
  let tcp := if keyProto f.key = 6 then x.bits (s.fld p TEL.FKEY_L4_TCPF_WORD) (s.fld p TEL.FKEY_L4_TCPF_LSB) 8 else 0
  { f with
    pkts := n % 2 ^ 48, byts := m % 2 ^ 48, wrapped := f.wrapped || decide (2 ^ 48 ≤ n) || decide (2 ^ 48 ≤ m),
    drops := (f.drops + b2n drop.isSome) % 2 ^ 48, lastDrop := drop.getD f.lastDrop, last := x.ts, flags := Nat.lor f.flags tcp,
    tc := x.effTc, lastLp := x.ingressLp, staked := (f.staked + b2n x.stake.isSome) % 2 ^ 32,
    travs := if Nat.bitAt f.travs t then f.travs else f.travs + 2 ^ t }

/-- Packet `x` at ingress resolution of traverse `t` updates its flow record (R573); `drop`: the code it is dropped with. An
uncorrectable error in the record found (`bad`) discards it (R576). -/
def State.flowUpdate (s : State) (t : Nat) (x : Pkt) (drop : Option Nat) (bad : Bool) : State :=
  if s.flag Page.tel TEL.FLOW_CFG_EN && s.works Page.tel then
    let key := s.flowKey x
    let set := s.flowKeyHash key % 32768
    let found := ((List.range 16).map (fun w => 16 * set + w)).find? (fun k =>
      let f := s.flows.get k dflt.flow
      f.valid && f.key == key)
    let s0 := match found, bad with
      | some k, true =>
        (({ s with flows := s.flows.set k dflt.flow dflt.flow } : State).count Page.tel TEL.C_FLOW_LOST).raise Page.tel TEL.S_FLOW_MEM
      | _, _ => s
    match found, bad with
    | some k, false => { s0 with flows := s0.flows.set k (s0.addFlow (s0.flows.get k dflt.flow) x t drop) dflt.flow }
    | _, _ =>
      let k := s0.flowWay set
      let old := s0.flows.get k dflt.flow
      let s1 : State := { s0 with flows := s0.flows.set k dflt.flow dflt.flow }
      let s2 := if old.valid then s1.evictFlow old else s1
      let f := s2.addFlow { valid := true, key := key, first := x.ts } x t drop
      (({ s2 with flows := s2.flows.set k f dflt.flow } : State).count Page.tel TEL.C_FLOWS_CREATED).flowFollow
  else s

end Sys2Proof.Machine
end

