-- ==== Sys2Proof/Machine/Queues.lean ====
section
/-!
DEFINITION. Sys2Proof/Machine/Queues.lean: queues and their settings, the chunks that a queue holds in overflow memory, flushing,
and the members of spray groups (13_spray_and_restore.md, 15_traffic_manager.md, 16_overflow_memory.md).
Readings and choices (notes/assumptions): DEDUCED 24, 46, 55, 56, 60, 63.
-/
namespace Sys2Proof.Machine

/-! ## Queues (R476) -/

/-- The registers of a queue's settings, in the order of an MQ entry's DATA1 to DATA6 (R508). -/
def qRegs : List Fld := [TMW.Q_CFG, TMW.Q_LIMIT, TMW.Q_SHAPE, TMW.Q_ECN, TMW.Q_AGE, TMW.Q_OVF]

/-- Setting `i` of queue `n`: 0 Q_CFG, 1 Q_LIMIT, 2 Q_SHAPE, 3 Q_ECN, 4 Q_AGE, 5 Q_OVF. -/
def State.qWord (s : State) (n i : Nat) : Word :=
  if n < 12288 then s.reg (Page.tmw (n / 16)) (qRegs.getD i TMW.Q_CFG) (n % 16) else s.entWord spMq 0 (n - 12288) (i + 1)

/-- The logical port of a queue; the queue exists. -/
def State.qLp (s : State) (n : Nat) : Nat := if n < 12288 then n / 16 else Word.bits (s.entWord spMq 0 (n - 12288) 0) 37 10
def State.qValid (s : State) (n : Nat) : Bool := decide (n < 12288) || (decide (n < 16384) && Word.bit (s.entWord spMq 0 (n - 12288) 0) 47)

/-- Counter `k` of a queue: 0 TX_PKTS, 1 TX_BYTES, 2 Q_DROPS, 3 AGED, 4 ECN_MARKED, 5 FLUSHED, 6 CUT_THROUGH, 7 SPILLED. -/
def State.qCount (s : State) (n k c : Nat) : State :=
  if n < 12288 then s.count (Page.tmw (n / 16)) (TMW.C_TX_PKTS.plus k) c (n % 16)
  else s.countSlot (bulkKey (0x300 * 2 ^ 24 + (n - 12288) * 0x40 + 8 * k)) c

def State.queue (s : State) (n : Nat) : Queue := s.queues.get n dflt.queue
def State.setQueue (s : State) (n : Nat) (q : Queue) : State := { s with queues := s.queues.set n q dflt.queue }

/-- Cells of the chain that a packet holds. -/
def State.cellsOf (s : State) (id : Nat) : Nat :=
  let n := (s.pkt id).chain
  if n = 0 then 0 else (s.chainOf (n - 1)).cells

/-- The queue is not empty: on chip, in overflow memory or in refill staging. -/
def Queue.busy (q : Queue) : Bool := !q.ready.isEmpty || !q.chunks.isEmpty || !q.refill.isEmpty

/-- State of a port in the traffic manager: 0 DISABLED, 1 DOWN, 2 HOLD, 3 UP (LP_TM_STATUS). -/
def State.pstate (s : State) (lp : Nat) : Nat := s.fld (Page.tmw lp) TMW.LP_TM_STATUS_PSTATE

/-! ## Nodes and shapers (R486, R488) -/

def State.nodeWord (s : State) (m i : Nat) : Word := s.entWord spNode 0 m i
def nodeValid (w : Word) : Bool := Word.bit w 47
def nodeParcel (w : Word) : Nat := Word.bits w 35 12
def nodeLp (w : Word) : Nat := Word.bits w 25 10

/-- The node of a queue, and whether the queue spills and takes launch times. -/
def State.qNode (s : State) (n : Nat) : Nat := Word.bits (s.qWord n 0) 32 16
def State.ovfEn (s : State) (n : Nat) : Bool := Word.bit (s.qWord n 0) 20
def State.launchEn (s : State) (n : Nat) : Bool := Word.bit (s.qWord n 0) 19

/-- Keys of `sched`: a node's number; a queue's, from 65,536. -/
def qKey (n : Nat) : Nat := 65536 + n
def State.schedOf (s : State) (k : Nat) : Sched := s.sched.get k dflt.sched
def State.setSched (s : State) (k : Nat) (x : Sched) : State := { s with sched := s.sched.set k x dflt.sched }

/-- Tokens of a shaper in bits, at RATE Mb/s and BURST units of 64 bytes; a bucket not used yet is full. -/
def State.tokens (s : State) (k rate burst : Nat) : Int :=
  let x := s.schedOf k
  let full : Int := (Nat.max 1 burst * 512 : Nat)
  if x.fresh then full else min full (x.tokens + (rate * (s.time.us - x.upto) : Nat))

/-- RATE and BURST of a shaper word. -/
def shapeRate (w : Word) : Nat := Word.bits w 27 21
def shapeBurst (w : Word) : Nat := Word.bits w 11 16

/-- The shaper lets a frame start. -/
def State.shaperOpen (s : State) (k : Nat) (w : Word) : Bool :=
  shapeRate w == 0 || decide (0 ≤ s.tokens k (shapeRate w) (shapeBurst w))

/-- A frame of `len` bytes starts: its tokens go. -/
def State.takeTokens (s : State) (k : Nat) (w : Word) (len : Nat) : State :=
  if shapeRate w = 0 then s
  else s.setSched k { s.schedOf k with
    fresh := false, tokens := s.tokens k (shapeRate w) (shapeBurst w) - (len * 8 : Nat), upto := s.time.us }

/-- A class that the queue maps to is paused (R262, R486). -/
def State.qPaused (s : State) (n : Nat) : Bool :=
  let lp := s.qLp n
  let paused := s.lpFld lp PEN.LP_STATUS_PAUSED
  if n < 12288 then Nat.bitAt paused (s.pfcClass lp n) else Nat.land paused (Word.bits (s.entWord spMq 0 (n - 12288) 0) 29 8) != 0

/-- The frame's launch time lets it leave queue `n` (R556); without the datum no launch time comes (R44). -/
def State.launchOk (s : State) (n : Nat) (x : Pkt) : Bool :=
  !s.launchEn n || (match x.launch with
    | some t => s.wOn && decide (t ≤ (s.time.w : Int))
    | none => true)

/-- The head of a queue. -/
def State.headOf (s : State) (n : Nat) : Option Nat := (s.queue n).ready.head?

/-- Q_STATUS of a queue. -/
def State.qStatus (s : State) (n : Nat) : Word :=
  let q := s.queue n
  let wait := match s.headOf n with
    | some id => !s.launchOk n (s.pkt id)
    | none => false
  let state := if s.holdEnds.get (s.qLp n) 0 ≠ 0 then 2 else if q.busy then 1 else 0
  BitVec.ofNat 48 (q.cells * 2 ^ 24 + b2n wait * 2 ^ 7 + b2n (!s.shaperOpen (qKey n) (s.qWord n 2)) * 2 ^ 6 + b2n (s.qPaused n) * 2 ^ 5
    + b2n q.spilling * 2 ^ 4 + state)

/-- Q_STATUS and Q_HBM of a unicast queue follow; a multicast queue's are made as they are read. -/
def State.qFollow (s : State) (n : Nat) : State :=
  if n < 12288 then
    (s.setReg (Page.tmw (n / 16)) TMW.Q_STATUS (s.qStatus n) (n % 16)).setFld (Page.tmw (n / 16)) TMW.Q_HBM_CHUNKS
      (s.queue n).chunks.length (n % 16)
  else s

/-! ## Chunks (R516 to R519) -/

def State.chunkOf (s : State) (c : Nat) : Chunk := s.hbmChunks.get c dflt.chunk
def State.setChunk (s : State) (c : Nat) (x : Chunk) : State := { s with hbmChunks := s.hbmChunks.set c x dflt.chunk }

/-- Chunks that wait in the write staging, and that the refill staging holds, as STAGING_STATUS shows them. -/
def State.writeFill (s : State) : Nat := s.fld Page.ovm OVM.STAGING_STATUS_WRITE_FILL
def State.refillFill (s : State) : Nat := s.fld Page.ovm OVM.STAGING_STATUS_REFILL_FILL
def State.setWriteFill (s : State) (n : Nat) : State := s.setFld Page.ovm OVM.STAGING_STATUS_WRITE_FILL n
def State.setRefillFill (s : State) (n : Nat) : State := s.setFld Page.ovm OVM.STAGING_STATUS_REFILL_FILL n
def State.chunksFree (s : State) : Nat := s.fld Page.ovm OVM.CHUNKS_FREE_FREE
def State.setChunksFree (s : State) (n : Nat) : State := s.setFld Page.ovm OVM.CHUNKS_FREE_FREE n

/-- Chunks charged to a parcel: HBM_USE and the parcel's counter block. -/
def State.hbmUse (s : State) (p : Nat) : Nat := s.pclFld p PCL.HBM_USE_CHUNKS
def State.setHbmUse (s : State) (p n : Nat) : State :=
  (s.setPclFld p PCL.HBM_USE_CHUNKS n).setSlot (parcelCtr p 0x070) (BitVec.ofNat 48 n)

/-- A pseudo-channel is retired. -/
def State.pcRetired (s : State) (pc : Nat) : Bool :=
  let p := pc % 64
  if p < 48 then Word.bit (s.reg Page.ovm OVM.PC_RET_LO (pc / 64)) p else Word.bit (s.reg Page.ovm OVM.PC_RET_HI (pc / 64)) (p - 48)

/-- The block of a chunk is free again, unless its pseudo-channel is retired (R534), and its parcel's charge lower. -/
def State.freeBlock (s : State) (c : Nat) : State :=
  let x := s.chunkOf c
  ((s.setHbmUse x.parcel (s.hbmUse x.parcel - 1)).setChunksFree (s.chunksFree + b2n (!s.pcRetired x.pc))).setChunk c dflt.chunk

/-- The pseudo-channel that takes the next chunk: round robin among those in service (R517). -/
def State.nextPc (s : State) : Nat :=
  (((List.range 256).map (fun i => (s.pcTurn + i) % 256)).find? (fun pc => !s.pcRetired pc)).getD s.pcTurn

/-- Payload bytes of a chunk, and of a packet's record (R516): header, bridge, data to a multiple of 8. -/
def chunkPayload : Nat := 2008
def recordBytes (x : Pkt) : Nat := 32 + 6 * (24 + ((List.range 168).filter (fun i => Nat.bitAt x.mask i)).length) + (x.bytes.length + 7) / 8 * 8

/-- New chunks that a record of `n` bytes needs behind what the queue's open chunk has left. -/
def State.chunksNeeded (s : State) (q n : Nat) : Nat :=
  let x := s.queue q
  let room := match x.opened, x.chunks.getLast? with
    | true, some c => chunkPayload - (s.chunkOf c).used
    | _, _ => 0
  if n ≤ room then 0 else (n - room + chunkPayload - 1) / chunkPayload

/-- The open chunk of a queue takes `n` more bytes; full, it is closed. -/
def State.fillOpen (s : State) (q n : Nat) : State :=
  let x := s.queue q
  match x.opened, x.chunks.getLast? with
  | true, some c =>
    let k := s.chunkOf c
    let s1 := s.setChunk c { k with used := k.used + n }
    if chunkPayload ≤ k.used + n then s1.setQueue q { x with opened := false } else s1
  | _, _ => s

/-- A new chunk of queue `q` opens, charged to parcel `p` (R518), with `n` bytes. -/
def State.openChunk (s : State) (q p n : Nat) : State :=
  let x := s.queue q
  let c := s.nextChunk
  let pc := s.nextPc
  let k : Chunk := { queue := q, epoch := x.epoch, cseq := x.cseq, used := 0, parcel := p, ends := [], pc := pc, written := false, since := s.time.us }
  let s1 : State := { (s.setChunk c k) with nextChunk := c + 1, pcTurn := (pc + 1) % 256 }
  let s2 := s1.setQueue q { x with chunks := x.chunks ++ [c], opened := true, cseq := (x.cseq + 1) % 2 ^ 32 }
  (((s2.setHbmUse p (s2.hbmUse p + 1)).setChunksFree (s2.chunksFree - 1)).setWriteFill (s2.writeFill + 1)).fillOpen q n

/-- The record of packet `id` runs on from the last chunk of queue `q`; `begins`: it begins in that chunk (R516). -/
def State.runOn (s : State) (q id : Nat) (begins : Bool) : State :=
  match (s.queue q).chunks.getLast? with
  | some c => s.setChunk c { s.chunkOf c with runs := some id, begins := begins }
  | none => s

/-- The record of packet `id` is appended to queue `q` (R517). -/
def State.appendRecord (s : State) (q id : Nat) : State :=
  let n := recordBytes (s.pkt id)
  let k := s.chunksNeeded q n
  let x := s.queue q
  let room := match x.opened, x.chunks.getLast? with
    | true, some c => chunkPayload - (s.chunkOf c).used
    | _, _ => 0
  let s0 := if 0 < room ∧ room < n then s.runOn q id true else s
  let s1 := s0.fillOpen q (Nat.min n room)
  let one (s : State) (i : Nat) : State :=
    let s1 := s.openChunk q (s.pkt id).parcel (Nat.min chunkPayload (n - room - i * chunkPayload))
    if i + 1 < k then s1.runOn q id (room == 0 && i == 0) else s1
  let s2 := (List.range k).foldl one s1
  match (s2.queue q).chunks.getLast? with
  | some c => s2.setChunk c { s2.chunkOf c with ends := (s2.chunkOf c).ends ++ [id] }
  | none => s2

/-- Panic of the refill staging (R525) follows what it holds and what waits. -/
def State.panicFollow (s : State) : State :=
  let p := Page.ovm
  let low := s.fld p OVM.STAGING_PANIC_LOW
  let high := Nat.max low (s.fld p OVM.STAGING_PANIC_HIGH)
  let asked := s.queues.any (fun (e : Nat × Queue) => e.2.asked)
  let n := s.refillFill
  if s.flag p OVM.STAGING_STATUS_PANIC then
    if high ≤ n ∨ !asked then (s.setFlag p OVM.STAGING_STATUS_PANIC false).clearCause p OVM.S_PANIC else s
  else if n < low ∧ asked then ((s.setFlag p OVM.STAGING_STATUS_PANIC true).count p OVM.C_PANICS).raise p OVM.S_PANIC
  else s

/-- A SPILLING queue with fewer than 64 cells on chip asks for its oldest chunk (R501). -/
def State.askRefill (s : State) (n : Nat) : State :=
  let q := s.queue n
  if q.spilling && !q.chunks.isEmpty && decide (q.cells < 64) && !q.asked then (s.setQueue n { q with asked := true }).panicFollow else s

/-- Packets of chunks that a queue holds in overflow memory. -/
def State.spilledOf (s : State) (q : Queue) : List Nat := q.chunks.flatMap (fun c => (s.chunkOf c).ends)

/-! ## Dropping what a queue holds -/

/-- A packet of spray that is dropped after its stamp (R433). -/
def State.stampLost (s : State) (id : Nat) : State :=
  match (s.pkt id).outShim with
  | some _ => s.count Page.spr SPR.C_SENT_DROPPED
  | none => s

/-- Every frame of queue `n` is freed, every chunk released (R502). -/
def State.flushQueue (s : State) (n : Nat) : State :=
  let q := s.queue n
  let l := q.ready ++ s.spilledOf q
  let s1 := l.foldl (fun (s : State) (i : Nat) => (s.stampLost i).dropPkt i) (s.qCount n 5 l.length)
  let staged := (q.chunks.filter (fun c => !(s1.chunkOf c).written)).length
  let s2 := (s1.setWriteFill (s1.writeFill - staged)).setRefillFill (s1.refillFill - q.refill.length)
  let s3 := q.chunks.foldl (fun (s : State) (c : Nat) => s.freeBlock c) s2
  (s3.setQueue n { epoch := q.epoch, cseq := q.cseq }).panicFollow.qFollow n

/-- The overflow part of a queue is lost (R531, R535): its blocks stay allocated until the scrub reclaims them. -/
def State.loseChain (s : State) (n : Nat) : State :=
  let q := s.queue n
  let l := s.spilledOf q
  let p := Page.ovm
  let s1 := l.foldl (fun (s : State) (i : Nat) => (s.stampLost i).dropPkt i) (s.count p OVM.C_OVF_PKTS_LOST l.length)
  let staged := (q.chunks.filter (fun c => !(s1.chunkOf c).written)).length
  let s2 := (s1.setWriteFill (s1.writeFill - staged)).count p OVM.C_CHAIN_LOST q.chunks.length
  ((s2.setQueue n { q with chunks := [], opened := false, asked := false, spilling := false, epoch := (q.epoch + 1) % 2 ^ 16 }).raise p
    OVM.S_CHAIN_LOST).panicFollow.qFollow n

/-! ## Ports that go down (R502, R504) -/

/-- PSTATE becomes `n`; QSTATE of the port's queues follows. -/
def State.setPstate (s : State) (lp n : Nat) : State :=
  (List.range 16).foldl (fun (s : State) (i : Nat) => s.qFollow (16 * lp + i)) (s.setFld (Page.tmw lp) TMW.LP_TM_STATUS_PSTATE n)

/-- Every queue of the port is flushed: its unicast queues and the multicast queues bound to it. -/
def State.flushPort (s : State) (lp : Nat) : State :=
  let l := ((s.queues.filter (fun (e : Nat × Queue) => e.2.busy)).map (·.1)).filter (fun n => s.qLp n == lp)
  (l.foldl (fun (s : State) (n : Nat) => s.flushQueue n) s).raise (Page.tmw lp) TMW.S_PORT_FLUSH

/-- The asserted states that face the port are cleared; the counts stay (R502). -/
def State.clearAsserted (s : State) (lp : Nat) : State :=
  (List.range 8).foldl (fun s c => s.setFlag (Page.tmw lp) TMW.PG_STATUS_ASSERTED false c) s

/-- HOLD_US, kept to its limit. -/
def State.holdUs (s : State) (lp : Nat) : Nat := Nat.min 1000000 (s.fld (Page.tmw lp) TMW.LP_TM_CFG_HOLD_US)

/-- The hold of the port ends: what remains is flushed (R504). -/
def State.endHold (s : State) (lp : Nat) : State :=
  let w := Page.tmw lp
  let s1 := ({ s with holdEnds := s.holdEnds.set lp 0 0 } : State).flushPort lp
  let s2 := (s1.count w TMW.C_HOLD_EXPIRIES).raise w TMW.S_HOLD_EXPIRED
  if s2.pstate lp = 2 then s2.setPstate lp 1 else s2

/-- The hold's end has been reached. -/
def State.holdOver (s : State) (lp : Nat) : Bool :=
  let e := s.holdEnds.get lp 0
  e != 0 && decide (e - 1 ≤ s.time.us)

/-- HOLD_EXPIRY: the end of a port's hold. -/
def execHoldExpiry (lp : Fin 768) (s : State) : Result := answer (if s.holdOver lp then s.endHold lp else s)

/-! ## Spray members (R427 to R429) -/

def State.sprayMember (s : State) (m : Nat) : Word := s.entWord spSprayMember 0 m 0
def memberLp (w : Word) : Nat := Word.bits w 36 10

/-- The member may be present: valid, its port up in fabric mode with SPRAY agreed, for REJOIN_MS (R427). -/
def State.memberReady (s : State) (m : Nat) : Bool :=
  let w := s.sprayMember m
  let lp := memberLp w
  Word.bit w 47 && decide (lp < 768) && s.linkUp lp && s.fabricPort lp && s.agreed lp 1
    && decide ((s.port lp).upSince + s.fld Page.spr SPR.SPR_CTL_REJOIN_MS * 1000 ≤ s.time.us)

/-- The effective weight (R428): lanes of one port run at one rate. -/
def State.effWeight (s : State) (m : Nat) : Nat :=
  let w := s.sprayMember m
  let lp := memberLp w
  if Word.bit w 46 then Nat.max 1 (Word.bits w 28 8 * popCount4 (s.laneSet lp) / popCount4 (s.configured lp)) else Word.bits w 28 8

/-- The group's base, count and validity. -/
def groupBase (w : Word) : Nat := Word.bits w 33 14
def groupCount (w : Word) : Nat := Word.bits w 26 7

/-- The valid groups that member `m` belongs to. -/
def State.groupsOf (s : State) (m : Nat) : List Nat :=
  (s.ents.filter (fun e => e.1 / 2 ^ 32 == spSpray * 2 ^ 16 && (
    let w := e.2.getD 0 0
    Word.bit w 47 && decide (groupBase w ≤ m) && decide (m < groupBase w + groupCount w)))).map (fun e => e.1 % 2 ^ 32)

/-- The credit of member entry `m` in group `g` (R334), and that credit made `v`. -/
def State.credit (s : State) (g m : Nat) : Int :=
  let v := s.credits.get (g * 16384 + m) 0
  if v = 0 then 0 else (v : Int) - 2 ^ 20
def State.setCredit (s : State) (g m : Nat) (v : Int) : State :=
  { s with credits := s.credits.set (g * 16384 + m) (if v = 0 then 0 else (v + 2 ^ 20).toNat) 0 }

/-- Every credit of a group becomes 0. -/
def State.clearCredits (s : State) (g : Nat) : State := { s with credits := s.credits.clear (fun k => k / 16384 == g) }

/-- A member contributes `v` (its effective weight plus one, 0 when absent): a change clears the credits of its groups. -/
def State.setPresent (s : State) (m v : Nat) : State :=
  if s.present.get m 0 = v then s
  else (s.groupsOf m).foldl (fun s g => s.clearCredits g) { s with present := s.present.set m v 0 }

/-- The members present on a port leave their groups (R429). -/
def State.removeMembers (s : State) (lp : Nat) : State :=
  let l := (s.present.map (·.1)).filter (fun m => memberLp (s.sprayMember m) == lp)
  l.foldl (fun (s : State) (m : Nat) =>
    let n := (s.groupsOf m).length
    ((s.setPresent m 0).count Page.spr SPR.C_MEMBER_REMOVALS n).raiseIf (n != 0) Page.spr SPR.S_MEMBER_DOWN) s

/-- The members present on a port take their weight anew (R428). -/
def State.reweigh (s : State) (lp : Nat) : State :=
  let l := (s.present.map (·.1)).filter (fun m => memberLp (s.sprayMember m) == lp)
  l.foldl (fun (s : State) (m : Nat) => s.setPresent m (s.effWeight m + 1)) s

/-- A port that has been up for REJOIN_MS becomes present in its groups again. -/
def State.rejoin (s : State) (lp : Nat) : State :=
  let l := (s.ents.filter (fun e => e.1 / 2 ^ 32 == spSprayMember * 2 ^ 16)).map (fun e => e.1 % 2 ^ 32)
  l.foldl (fun (s : State) (m : Nat) =>
    if memberLp (s.sprayMember m) = lp ∧ s.present.get m 0 = 0 ∧ s.memberReady m then
      (s.count Page.spr SPR.C_MEMBER_REJOINS (s.groupsOf m).length).setPresent m (s.effWeight m + 1)
    else s) s

def execMemberRejoin (lp : Fin 768) (s : State) : Result := answer (s.rejoin lp)

end Sys2Proof.Machine
end

