-- ==== Sys2Proof/Machine/PortReport.lean ====
section
/-!
DEFINITION. Sys2Proof/Machine/PortReport.lean: what a port engine's report of a logical port's state does in the traffic
manager and in spray (R257, R429, R502 to R505).
-/
namespace Sys2Proof.Machine

/-- The port has left UP or REDUCED: its queues are held, or flushed. -/
def State.tmDown (s : State) (lp : Nat) : State :=
  let w := Page.tmw lp
  if s.pstate lp = 3 then
    let s1 := s.clearAsserted lp
    if s1.holdUs lp = 0 then (s1.flushPort lp).setPstate lp 1
    else
      ((({ s1 with holdEnds := s1.holdEnds.set lp (s1.time.us + s1.holdUs lp + 1) 0 } : State).setPstate lp 2).count w
        TMW.C_HOLD_STARTS).raise w TMW.S_HOLD_START
  else s

/-- The port is UP or REDUCED: held queues resume, unless the hold's end came first. -/
def State.tmUp (s : State) (lp : Nat) : State :=
  let s1 := if s.holdOver lp then s.endHold lp else s
  let s2 := if s1.holdEnds.get lp 0 = 0 then s1
    else ({ s1 with holdEnds := s1.holdEnds.set lp 0 0 } : State).count (Page.tmw lp) TMW.C_HOLD_RESUMES
  s2.setPstate lp 3

/-- The report of logical port `lp`, whose LP_STATUS shows its new state: up, DOWN or DISABLED. -/
def State.portReport (s : State) (lp : Nat) (up : Bool) : State :=
  if up then (s.tmUp lp).reweigh lp
  else
    let s1 := (s.tmDown lp).removeMembers lp
    if s1.linkState lp = lpDisabled then s1.setPstate lp 0
    else if s1.holdEnds.get lp 0 = 0 then s1.setPstate lp 1
    else s1.setPstate lp 2

end Sys2Proof.Machine
end

