-- ==== Sys2Proof/Machine/Lanes.lean ====
section
/-!
DEFINITION. Sys2Proof/Machine/Lanes.lean: the lane state machine, the lane sets of logical ports, sparing and link states that
optical and electrical lanes share (05_optical_engines.md, 06_electrical_lanes.md, 08_port_engines.md).
Readings and choices (notes/assumptions): DEDUCED 32, 73.
-/
namespace Sys2Proof.Machine

/-! ## Numbering and fields -/


/-- The lane is optical. -/
def isOptical (l : Nat) : Bool := decide (l < 576)

/-- States of a lane (R194), as LANE_STATUS.LSTATE codes them. -/
abbrev lsDark : Nat := 0
abbrev lsDetect : Nat := 1
abbrev lsTrain : Nat := 2
abbrev lsLock : Nat := 3
abbrev lsTieIn : Nat := 4
abbrev lsActive : Nat := 5
abbrev lsSpared : Nat := 6
abbrev lsDegraded : Nat := 7
abbrev lsTest : Nat := 8

def State.lstate (s : State) (l : Nat) : Nat := s.fld (Page.lane l) LN.LANE_STATUS_LSTATE

/-- The lane carries traffic: ACTIVE or DEGRADED. -/
def State.laneUp (s : State) (l : Nat) : Bool := s.lstate l == lsActive || s.lstate l == lsDegraded

/-- The lane is in TRAIN, LOCK or TIE-IN. -/
def State.laneTrying (s : State) (l : Nat) : Bool := s.lstate l == lsTrain || s.lstate l == lsLock || s.lstate l == lsTieIn

/-- The sequencer thread of a lane (R210). -/
def threadKey (n t : Nat) : Nat := 16 * n + t
def State.thread (s : State) (n t : Nat) : Thread := s.threads.get (threadKey n t) dflt.thread
def State.setThread (s : State) (n t : Nat) (x : Thread) : State :=
  { s with threads := s.threads.set (threadKey n t) x dflt.thread }
def State.threadRuns (s : State) (l : Nat) : Bool := (s.thread (l / 8) (l % 8)).running

/-! ## Lane states -/

/-- The state of a lane's page (R205): DARK is READY, the states of service ACTIVE, DEGRADED and SPARED DEGRADED, TEST TEST;
held DEGRADE bits keep it DEGRADED (R607) and a HALTED page stays so. -/
def State.lanePageState (s : State) (l : Nat) : State :=
  let p := Page.lane l
  let st := s.lstate l
  if s.isHalted p then s
  else s.setBlockState p
    (if st = lsDark then 2 else if st = lsTest then 6 else if st = lsSpared ∨ st = lsDegraded then 4
     else if (s.pg p).heldD != 0 then 4 else 3)

def State.ringState (s : State) (l : Nat) : Nat := s.fld (Page.lane l) OLN.RING_STATUS_RSTATE

/-- The ring goes to state `st` (R157); RINGS_LOCKED of its engine follows. -/
def State.ringTo (s : State) (l st : Nat) : State :=
  let p := Page.oen (l / 32)
  let was := if s.ringState l = 1 then 1 else 0
  let now := if st = 1 then 1 else 0
  (s.setFld (Page.lane l) OLN.RING_STATUS_RSTATE st).setFld p OEN.OEN_STATUS_RINGS_LOCKED
    (s.fld p OEN.OEN_STATUS_RINGS_LOCKED + now - was)

/-- TEST begins or ends: the generator follows PAT_CTL, the checker has no lock (R207, R208), and at the end the ring is
NOT-LOCKED (R162). -/
def State.testTurns (s : State) (l : Nat) (begins : Bool) : State :=
  let p := Page.lane l
  let s1 := (s.setFlag p LN.PAT_STATUS_GEN_ON (begins && s.flag p LN.PAT_CTL_GEN_EN)).setFlag p LN.PAT_STATUS_PAT_LOCK false
  if isOptical l && !begins then s1.ringTo l 0 else s1

/-- Lane `l` goes to state `st`; entering or leaving ACTIVE sets STATE_CHANGE. -/
def State.toState (s : State) (l st : Nat) : State :=
  let p := Page.lane l
  let old := s.lstate l
  let s0 := if (old == lsTest) != (st == lsTest) then s.testTurns l (st == lsTest) else s
  let s1 := (s0.setFld p LN.LANE_STATUS_LSTATE st).lanePageState l
  s1.raiseIf (old != st && (old == lsActive || st == lsActive)) p LN.S_STATE_CHANGE

/-- A lane source occurs; at HALT it sends the lane to DARK (R205). -/
def State.laneRaise (s : State) (l src : Nat) : State :=
  let p := Page.lane l
  let s1 := s.raise p src
  if s1.isHalted p && s1.lstate l != lsDark then s1.toState l lsDark else s1

/-- The ring modulates: LOCKED, FROZEN or MANUAL (R157). -/
def State.ringModulates (s : State) (l : Nat) : Bool := s.ringState l == 1 || s.ringState l == 2 || s.ringState l == 3

/-- The engine lets its lanes leave DARK (R147, R168). -/
def State.engineLets (s : State) (l : Nat) : Bool :=
  !isOptical l || (s.flag (Page.oen (l / 32)) OEN.OEN_CTL_TX_EN && s.flag (Page.oen (l / 32)) OEN.OEN_STATUS_FAU_PRESENT)

/-- No condition holds every state of lane `l` in DARK: power, no power-up hold (R641), a checked image (R232), no HALTED page,
and the engine. -/
def State.laneFree (s : State) (l : Nat) : Bool :=
  s.powered (Page.lane l) && s.clocked (Page.lane l) && !s.aon.por && !s.scanStops && !s.flag Page.dev DEV.DEV_STATUS_HOLD && s.flag (Page.lsq (l / 8)) LSQ.SEQ_STATUS_IMAGE_VALID
    && !s.isHalted (Page.lane l) && !s.isHalted (Page.lsq (l / 8)) && s.engineLets l

/-- The lane may be in a state of its port (R194, R168): also enabled, a member of an enabled port, its ring modulating. -/
def State.laneAllowed (s : State) (l : Nat) : Bool :=
  s.laneFree l && s.flag (Page.lane l) TB.PAGE_STATE_ENABLE && s.member l && !(s.lane l).lost
    && (!isOptical l || s.ringModulates l)

/-- The lane leaves the queue for a start slot. -/
def State.leaveQueue (s : State) (l : Nat) : State := { s with slotWaits := s.slotWaits.filter (fun e => e.2 != l) }

/-- The lane enters DARK: nothing of its link stays (R194). -/
def State.toDark (s : State) (l : Nat) : State :=
  let p := Page.lane l
  let x := s.lane l
  let s1 := ((s.toState l lsDark).setFld p LN.LANE_STATUS_BACKOFF 0).setFlag p LN.LANE_STATUS_LOCKED false
  let s2 := (s1.setFlag p LN.LANE_STATUS_PRECODE_ON false).setFlag p LN.LANE_STATUS_PEER_PRESENT false
  (s2.setLane l { x with backoff := false, mismatch := false, tieRun := 0, peerId := none, winLow := 0 }).leaveQueue l

/-- The lane enters DETECT: LANE_CTL is sampled (R180); `fresh` from DARK, TEST or a lane loss. -/
def State.toDetect (s : State) (l : Nat) (fresh : Bool) : State :=
  let p := Page.lane l
  let s0 := if fresh then s.setFld p LN.LANE_STATUS_ATTEMPTS 0 else s
  let x := s0.lane l
  let s1 := ((s0.toState l lsDetect).setFlag p LN.LANE_STATUS_LOCKED false).setFlag p LN.LANE_STATUS_PRECODE_ON false
  let s2 := s1.setLane l { x with sampled := s.reg p LN.LANE_CTL, mismatch := false, anDone := false, sent := 0, recv := 0,
                                  tieRun := 0, peerId := none, peerSess := 0, winLow := 0, backoff := x.backoff && !fresh }
  (if fresh then s2.setFld p LN.LANE_STATUS_BACKOFF 0 else s2).leaveQueue l

/-- The lane enters TEST (R204); a ring whose MODE asks for it is MANUAL at once (R162). -/
def State.toTest (s : State) (l : Nat) : State :=
  let p := Page.lane l
  let s1 := ((s.toState l lsTest).setFlag p LN.LANE_STATUS_LOCKED false).leaveQueue l
  if isOptical l && s1.flag p OLN.RING_CTL_MODE && s1.lstate l == lsTest then
    (s1.ringTo l 3).setFld p OLN.RING_STATUS_CODE (s1.fld p OLN.RING_CTL_MANUAL_CODE)
  else s1

/-- The lane goes where its controls put it: TEST while TEST_REQ asks for it (R204), DARK where it is held there, DETECT where
the hold has ended. -/
def State.settle (s : State) (l : Nat) : State :=
  let st := s.lstate l
  let asked := s.flag (Page.lane l) TB.PAGE_STATE_TEST_REQ
  if !s.laneFree l then (if st = lsDark then s.lanePageState l else s.toDark l)
  else if st = lsTest ∨ st = lsSpared then
    (if st = lsSpared && !s.flag (Page.lane l) TB.PAGE_STATE_ENABLE then s.toDark l else s)
  else if st = lsDark ∧ asked then s.toTest l
  else if s.laneAllowed l then (if st = lsDark then s.toDetect l true else s)
  else if st = lsDark then s
  else s.toDark l

/-- All lanes of a port engine settle. -/
def State.settlePe (s : State) (pe : Nat) : State := (List.range 4).foldl (fun s i => s.settle (4 * pe + i)) s

/-- A range of lanes settles. -/
def State.settleRange (s : State) (lo n : Nat) : State := (List.range n).foldl (fun s i => s.settle (lo + i)) s

/-! ## Link state (R256, R257, R265) -/

/-- LP_STATUS.RATE shows the present rate while the port is UP or REDUCED. -/
def State.showRate (s : State) (lp : Nat) : State :=
  s.setLpFld lp PEN.LP_STATUS_RATE (if s.linkUp lp then s.portRate lp / 100000 else 0)

/-- The port goes from UP or REDUCED to DOWN. -/
def State.linkDown (s : State) (lp : Nat) : State :=
  if s.linkUp lp then
    let p := lpPage lp
    let s1 := ((s.setLpFld lp PEN.LP_STATUS_LSTATE lpDown).setPaused lp 0).setLpFld lp PEN.LP_STATUS_XOFF_SENT 0
    let free (s : State) (l : Nat) : State := s.setLane l { s.lane l with lost := false }
    let s2 := ((lanesOf lp (s.configured lp)).foldl free (s1.setPort lp { s1.port lp with move := none, storm := 0 })).showRate lp
    ((s2.count p PEN.C_LINK_DOWNS 1 (lp % 4)).raise p PEN.S_LINK_CHANGE).portReport lp false
  else s

/-- Every lane of the present set is ACTIVE or DEGRADED, but for lost ones that a lane move under way takes out (R171). -/
def State.setUp (s : State) (lp : Nat) : Bool :=
  s.laneSet lp != 0
    && (lanesOf lp (s.laneSet lp)).all (fun l => s.laneUp l || ((s.lane l).lost && (s.port lp).move.isSome))

/-- The port enters UP, or REDUCED on a reduced set. -/
def State.enterUp (s : State) (lp : Nat) : State :=
  let p := lpPage lp
  let full := s.laneSet lp == s.configured lp
  let s1 := (s.setLpFld lp PEN.LP_STATUS_LOCAL_FAULT 0).setLpFld lp PEN.LP_STATUS_REMOTE_FAULT 0
  let s2 := (s1.setLpFld lp PEN.LP_STATUS_LSTATE (if full then lpUp else lpReduced)).showRate lp
  let s3 := s2.setPort lp { s2.port lp with upSince := s.time.us, width := if full then 0 else (s2.port lp).width }
  let s4 := if full then s3.raise p PEN.S_LINK_CHANGE else (s3.raise p PEN.S_LINK_CHANGE).raise p PEN.S_PORT_REDUCED
  s4.portReport lp true

/-- SPARE_STATUS of a port of an optical engine follows its lanes (R170). -/
def State.showSpare (s : State) (pe : Nat) : State :=
  if pe < 144 then
    let p := Page.oen (pe / 8)
    let spared := (List.range 4).foldl (fun v i => setBitN v i (s.lstate (4 * pe + i) == lsSpared)) 0
    let inUse := (List.range 4).foldl
      (fun v i => setBitN v i (s.laneUp (4 * pe + i) && s.linkUp (s.portOfLane (4 * pe + i)))) 0
    let width := (List.range 4).foldl (fun v i => if v = 0 then (s.port (4 * pe + i)).width else v) 0
    ((s.setFld p OEN.SPARE_STATUS_SPARED spared (pe % 8)).setFld p OEN.SPARE_STATUS_IN_USE inUse (pe % 8)).setFld p
      OEN.SPARE_STATUS_WIDTH width (pe % 8)
  else s

/-- After lanes of a port engine changed: held lanes settle, ports without their lanes are DOWN, and status follows. -/
def State.portsFollow (s : State) (pe : Nat) : State :=
  let one (s : State) (i : Nat) : State :=
    let lp := 4 * pe + i
    if s.linkUp lp && !s.setUp lp then s.linkDown lp else s
  ((List.range 4).foldl one (s.settlePe pe)).showSpare pe

/-- Lanes that are up return to DETECT for a new bring-up of the port on set `mask` (R170). -/
def State.restartPort (s : State) (lp mask width : Nat) : State :=
  let s1 := (s.linkDown lp).setLpFld lp PEN.LP_STATUS_LANES mask
  let s2 := s1.setPort lp { s1.port lp with width := width, move := none }
  let back (s : State) (l : Nat) : State :=
    if s.laneUp l || s.laneTrying l then s.toDetect l true else s
  ((lanesOf lp (s.configured lp)).foldl back s2).portsFollow (lp / 4)

/-- The lanes of a port enter ACTIVE (R194, R196, R181, R203). -/
def State.enterActive (s : State) (l : Nat) : State :=
  let p := Page.lane l
  let s1 := (s.toState l lsActive).setFld p LN.LANE_STATUS_ATTEMPTS 0
  let s2 := s1.setReg p LN.CORR_BITS 0
  let x := s2.lane l
  let lp := s.portOfLane l
  let pre := if Word.bit x.sampled 8 then Nat.bitAt (s.lpFld lp PEN.TIEIN_STATUS_AGREED) 2
             else Word.bits x.sampled 0 3 == 4 && Word.bit x.sampled 14 && x.peerPre
  (s2.setFlag p LN.LANE_STATUS_PRECODE_ON pre).setLane l { x with winLow := 0 }

/-! ## Sparing (R170 to R172, R255) -/

/-- The sparing profile of a port engine: 0 NONE, 1 HALF, 2 FABRIC. -/
def State.profile (s : State) (pe : Nat) : Nat :=
  let v := if pe < 144 then s.fld (Page.oen (pe / 8)) OEN.PORT_SPARE_PROFILE (pe % 8)
           else s.fld (Page.pen pe) PEN.PE_CFG_SPARE_PROFILE
  if v = 3 then 1 else v

/-- FABRIC applies: fabric mode, and sparing agreed in tie-in. -/
def State.spareAgreed (s : State) (lp : Nat) : Bool :=
  s.fabricPort lp && Nat.bitAt (s.lpFld lp PEN.TIEIN_STATUS_AGREED) 0

/-- A lost lane that its port does not keep enters DETECT (R202); a lane in TEST stays there (R204). -/
def State.dropLane (s : State) (l : Nat) : State :=
  if s.lstate l = lsTest then s else (s.setLane l { s.lane l with lost := false }).toDetect l true

/-- The lane is taken out of service (R172, R202): SPARED, its test starts (R615), and the sources are set; a lane in TEST
stays there. -/
def State.spareLane (s : State) (l : Nat) : State :=
  if s.lstate l = lsTest then s else
  let p := Page.lane l
  let s1 := s.toState l lsSpared
  let s2 := s1.setLane l { s1.lane l with lost := false, testOk := false, testFails := 0, backoff := false }
  let s3 := (s2.setFld p TB.SELFTEST_SELECT 1).setFlag p TB.SELFTEST_RUN true
  let s4 := (s3.laneRaise l LN.S_SPARED_ENTRY).leaveQueue l
  if isOptical l then s4.raise (Page.oen (l / 32)) OEN.S_LANE_SPARED else s4

/-- The set that HALF leaves a port that ran on `set` of its lanes and lost lane `i` (R170), relative to its first lane `b`;
`none`: it goes down. `spared`: lanes of the port that are SPARED. -/
def halfSet (set b i spared : Nat) : Option Nat :=
  match popCount4 set with
  | 4 => some (if i = 2 ∨ i = 3 then 3 else 12)
  | 2 => some (set - 2 ^ i)
  | 3 =>
    let bad := Nat.lor (2 ^ i) spared
    if Nat.land bad 3 = 0 then some 3
    else if Nat.land bad 12 = 0 then some 12
    else
      let left := (List.range 4).filter (fun j => Nat.bitAt set j && j != i && b ≤ j)
      left.head?.map (fun j => 2 ^ j)
  | _ => none

/-- Lanes of a port in SPARED, as a mask. -/
def State.sparedMask (s : State) (lp : Nat) : Nat :=
  (List.range 4).foldl (fun v i =>
    setBitN v i (Nat.bitAt (s.configured lp) i && s.lstate (lp / 4 * 4 + i) == lsSpared)) 0

/-- The port falls back to, or follows, HALF after losing the lanes of `lostMask`, lane `i` first (R170). -/
def State.goHalf (s : State) (lp i lostMask : Nat) : State :=
  let lost := lanesOf lp lostMask
  match halfSet (s.laneSet lp) (lp % 4) i (Nat.lor (s.sparedMask lp) lostMask) with
  | some m =>
    let s1 := lost.foldl (fun s l => s.spareLane l) s
    s1.restartPort lp m 2
  | none =>
    let s1 := lost.foldl (fun s l => s.dropLane l) s
    s1.restartPort lp (s.laneSet lp) 3

/-- A message of a lane move (R251, R255): type, sequence number, mask and lanes lost, with its CRC-16. -/
def moveMsg (type seq mask lost : Nat) : List Byte :=
  let body := [BitVec.ofNat 8 type, BitVec.ofNat 8 seq, BitVec.ofNat 8 mask, BitVec.ofNat 8 lost] ++ zeros 25
  body ++ beBytes 2 (crc16 body)

/-- A request of this end is sent on every lane of the new set (R255). -/
def State.sendRequest (s : State) (lp : Nat) (m : MoveReq) : State :=
  s.emit (.control lp m.mask (moveMsg (if m.restore then 4 else 2) m.seq m.mask m.lost))

def State.request (s : State) (lp mask lost : Nat) (restore : Bool) : State :=
  let x := s.port lp
  let m : MoveReq := ⟨x.seq, mask, lost, restore⟩
  (s.setPort lp { x with move := some m, seq := (x.seq + 1) % 256 }).sendRequest lp m

/-- The lane set becomes `mask` without bring-up (R171 steps 3 and 4, R172): lanes that leave it are SPARED, lanes that return
to it carry traffic again. -/
def State.changeSet (s : State) (lp mask : Nat) : State :=
  let p := lpPage lp
  let old := s.laneSet lp
  let wasUp := s.linkState lp
  let gone := lanesOf lp (old - Nat.land old mask)
  let back := lanesOf lp (mask - Nat.land old mask)
  let s1 := s.setLpFld lp PEN.LP_STATUS_LANES mask
  let s2 := gone.foldl (fun s l => s.spareLane l) s1
  let s3 := back.foldl (fun s l => (s.setFlag (Page.lane l) LN.LANE_STATUS_LOCKED true).enterActive l) s2
  let full := mask == s.configured lp
  let s4 := s3.setPort lp { s3.port lp with move := none, width := if full then 0 else 1 }
  let s5 := if s4.linkUp lp then s4.setLpFld lp PEN.LP_STATUS_LSTATE (if full then lpUp else lpReduced) else s4
  let s6 := (s5.showRate lp).count p PEN.C_LANE_MOVES
  let s7 := s6.raiseIf (s6.linkState lp == lpReduced && wasUp != lpReduced) p PEN.S_PORT_REDUCED
  (if s7.linkUp lp then s7.portReport lp true else s7).portsFollow (lp / 4)

/-- A lost lane is dark until its move ends (R171); a lane in TEST stays there (R204). -/
def State.darkenLost (s : State) (l : Nat) : State :=
  if s.lstate l = lsTest then s else (s.toState l lsDark).setLane l { s.lane l with lost := true }

/-- A lane loss of lane `l` reaches its port, which applies its profile (R170, R202). -/
def State.portLosesLane (s : State) (l : Nat) : State :=
  let lp := s.portOfLane l
  let i := l % 4
  let set := s.laneSet lp
  if !Nat.bitAt set i then s
  else match (s.port lp).move with
  | some m =>
    let lost := Nat.lor (if m.restore then 0 else m.lost) (2 ^ i)
    if s.profile (l / 4) = 2 ∧ lost < set then (s.darkenLost l).request lp (set - lost) lost false
    else s.goHalf lp i lost
  | none =>
    match s.profile (l / 4) with
    | 0 => (s.dropLane l).restartPort lp (s.configured lp) 3
    | 2 =>
      if s.spareAgreed lp && decide (2 ≤ popCount4 set) then
        (s.darkenLost l).request lp (set - 2 ^ i) (2 ^ i) false
      else s.goHalf lp i (2 ^ i)
    | _ => s.goHalf lp i (2 ^ i)

/-- Lane `l` is lost (R202). -/
def State.loseLane (s : State) (l : Nat) : State :=
  if s.laneUp l then
    let p := Page.lane l
    let s1 := ((s.count p LN.LANE_LOSSES).setFlag p LN.LANE_STATUS_LOCKED false).laneRaise l LN.S_LANE_LOSS
    (s1.portLosesLane l).portsFollow (l / 4)
  else s

/-! ## Failed attempts (R196, R258) -/

/-- The backoff after the `n`th consecutive failure, in ms. -/
def backoffMs (n : Nat) : Nat := Nat.min (100 * 2 ^ (Nat.min n 8 - 1)) 8000

/-- One lane returns to DETECT as a failed attempt; source `src`, where there is one, says why. -/
def State.failOne (s : State) (l : Nat) (src : Option Nat) : State :=
  let p := Page.lane l
  let n := Nat.min 255 (s.fld p LN.LANE_STATUS_ATTEMPTS + 1)
  let s0 := s.count p LN.TRAIN_FAILS
  let s1 := match src with
    | some i => s0.laneRaise l i
    | none => s0
  let s2 := (s1.setFld p LN.LANE_STATUS_ATTEMPTS n).setFld p LN.LANE_STATUS_BACKOFF (backoffMs n)
  let s3 := if n = 16 then s2.laneRaise l LN.S_ATTEMPTS_EXCEEDED else s2
  if s3.isHalted p then s3
  else (s3.setLane l { s3.lane l with backoff := true, backEnd := s3.time.us + 1000 * backoffMs n }).toDetect l false

/-- Lane `l` fails its attempt; every lane of its port that is in TIE-IN returns with it (R258). -/
def State.failAttempt (s : State) (l src : Nat) : State :=
  let s1 := s.failOne l (some src)
  let lp := s.portOfLane l
  (lanesOf lp (s.configured lp)).foldl
    (fun s m => if m != l && s.lstate m == lsTieIn then s.failOne m (some LN.S_TIEIN_FAIL) else s) s1

/-- The peer is gone (R197). -/
def State.peerGone (s : State) (l : Nat) : State :=
  let s1 := (s.count (Page.lane l) LN.PEER_LOSTS).count (Page.pen (l / 4)) PEN.C_PEER_LOSTS
  s1.failAttempt l LN.S_PEER_LOST

/-! ## Traps of a lane's thread (R228, R206) -/

/-- The lane of thread `l` follows a trap, halt or restart of its thread: a ring leaves lock, a lane in service is lost, an
attempt fails; otherwise SEQ_FAULT alone. -/
def State.laneThreadStops (s : State) (l : Nat) : State :=
  let s0 := s.leaveQueue l
  let s1 :=
    if s0.laneUp l then (s0.laneRaise l LN.S_SEQ_FAULT).loseLane l
    else if s0.laneTrying l then s0.failAttempt l LN.S_SEQ_FAULT
    else s0.laneRaise l LN.S_SEQ_FAULT
  (if isOptical l then s1.ringTo l 0 else s1).portsFollow (l / 4)

/-! ## Requests of TEST and of ENABLE on lane pages (R194, R204) -/

/-- TEST_REQ of a lane's page has become `b`. -/
def State.laneTest (s : State) (l : Nat) (b : Bool) : State :=
  if b then
    if s.lstate l = lsTest then s
    else
      let was := s.laneUp l
      let s1 := if s.laneFree l then s.toTest l else s
      (if was then s1.portLosesLane l else s1).portsFollow (l / 4)
  else if s.lstate l = lsTest then
    (s.toDark l).portsFollow (l / 4)
  else s

/-- ENABLE of a lane's page has changed. -/
def State.laneEnable (s : State) (l : Nat) : State := s.portsFollow (l / 4)

end Sys2Proof.Machine
end

