-- ==== Sys2Proof/Machine/BringUp.lean ====
section
/-!
DEFINITION. Sys2Proof/Machine/BringUp.lean: bring-up, training, loss, equalisation and test patterns of lanes
(06_electrical_lanes.md).
Readings and choices (notes/assumptions): DEDUCED 33; DESIGN CHOICE 78, 84.
-/
namespace Sys2Proof.Machine

/-! ## Transmit equaliser (R191, R192) -/

/-- The taps c(1), c(−1), c(−2), c(−3) of an electrical lane. -/
def State.taps (s : State) (l : Nat) : List Int :=
  [ELN.TX_EQ_C1, ELN.TX_EQ_CM1, ELN.TX_EQ_CM2, ELN.TX_EQ_CM3].map (fun f => signed 8 (s.fld (Page.lane l) f))

/-- c(0) (R191). -/
def mainTap (c : List Int) : Int := 64 - (c.foldl (fun a x => a + x.natAbs) 0 : Nat)

/-- The taps are within their ranges and leave c(0) at 32 or more. -/
def tapsGood (c : List Int) : Bool :=
  let a := c.getD 0 0
  let b := c.getD 1 0
  let d := c.getD 2 0
  let e := c.getD 3 0
  decide (-12 ≤ a ∧ a ≤ 0 ∧ -24 ≤ b ∧ b ≤ 0 ∧ 0 ≤ d ∧ d ≤ 10 ∧ -6 ≤ e ∧ e ≤ 0 ∧ 32 ≤ mainTap c)

/-- The taps stored, with c(0) derived. -/
def State.setTaps (s : State) (l : Nat) (c : List Int) : State :=
  let p := Page.lane l
  let b (i : Nat) : Nat := unsigned 8 (c.getD i 0)
  s.setReg p ELN.TX_EQ (BitVec.ofNat 48 (unsigned 8 (mainTap c) * 2 ^ 40 + b 0 * 2 ^ 32 + b 1 * 2 ^ 24 + b 2 * 2 ^ 16 + b 3 * 2 ^ 8))

/-- The presets of R191 as c(1), c(−1), c(−2), c(−3). -/
def presetTaps (i : Nat) : List Int :=
  match i with
  | 2 => [0, -8, 0, 0]
  | 3 => [-3, -12, 3, 0]
  | 4 => [-4, -16, 6, -2]
  | 5 => [-6, -10, 0, 0]
  | _ => [0, 0, 0, 0]

/-! ## Training frames (R184 to R186) -/

/-- CRC-8 of the low 24 bits of a field, polynomial x^8 + x^2 + x + 1. -/
def crc8 (v : Nat) : Nat :=
  let bit (c : Nat) : Nat := if c / 128 = 1 then Nat.xor (c * 2 % 256) 7 else c * 2 % 256
  (beBytes 3 v).foldl (fun c b => (List.range 8).foldl (fun c _ => bit c) (Nat.xor c b.toNat)) 0

/-- The field's CRC matches. -/
def fieldGood (v : BitVec 32) : Bool := crc8 (v.toNat % 2 ^ 24) == v.toNat / 2 ^ 24

/-- Index in `taps` of the tap that a TAP code names. -/
def tapIndex (code : Nat) : Nat := 3 - code

/-- The answer to a request: the tap code and TAP_STATUS (R185, R187, R191). -/
def State.answerTap (s : State) (l : Nat) (ctl : Nat) : State × Nat :=
  let tap := ctl / 4 % 8
  let req := ctl % 4
  let init := Nat.bitAt ctl 8
  let preset := ctl / 32 % 8
  let none_ := !Nat.bitAt (s.lane l).sampled.toNat 13 || isOptical l
  if init then
    if none_ || preset == 0 || decide (5 < preset) then (s, 3) else (s.setTaps l (presetTaps preset), 1)
  else if none_ then (s, tap * 16 + 3)
  else
    let i := if tap = 3 then 0 else tapIndex tap
    let c := s.taps l
    let c' := c.set i (c.getD i 0 + (if req = 1 then 1 else -1))
    if tapsGood c' then (s.setTaps l c', tap * 16 + 1) else (s, tap * 16 + 2)

/-- The CONTROL field's request is acted on under the handshake of R185. -/
def State.actControl (s : State) (l : Nat) (ctl : Nat) : State :=
  let x := s.lane l
  let asks := Nat.bitAt ctl 8 || ((ctl % 4 == 1 || ctl % 4 == 2) && decide (ctl / 4 % 8 < 4))
  let held := x.txStatus % 4 != 0
  if asks then
    if held then s
    else
      let a := s.answerTap l ctl
      a.1.setLane l { a.1.lane l with txStatus := x.txStatus / 128 * 128 + a.2 }
  else s.setLane l { x with txStatus := x.txStatus / 128 * 128 }

/-- The STATUS field and the local receiver's state (R184, R186). -/
def State.actStatus (s : State) (l : Nat) (st : Option Nat) (adapted : Bool) : State :=
  let x := s.lane l
  let offer := if Word.bit x.sampled 14 && !Word.bit x.sampled 8 then 2 ^ 10 else 0
  let x1 := { x with txStatus := offer + (if adapted then 2 ^ 9 else 0) + x.txStatus % 128,
                     sent := if adapted then x.sent + 1 else 0 }
  match st with
  | some v => s.setLane l { x1 with recv := if Nat.bitAt v 9 then x.recv + 1 else 0, peerPre := Nat.bitAt v 10 }
  | none => s.setLane l { x1 with recv := 0 }

/-- An N425 training frame is received in TRAIN. -/
def execTrainingFrame (l : Fin 768) (control status : BitVec 32) (adapted : Bool) (s : State) : Result :=
  answer (if s.lstate l = lsTrain ∧ Word.bits (s.lane l).sampled 0 3 = 4 then
      let s1 := s.actStatus l (if fieldGood status then some status.toNat else none) adapted
      let s2 := if fieldGood control then s1.actControl l control.toNat else s1
      let v := (s2.lane l).txStatus
      s2.emit (.training l (crc8 v * 2 ^ 24 + v))
    else s)

/-- Training ends (R186, R187): an N425 lane with link training needs its RX_READY exchanges; without, TRAIN is the adaptation. -/
def execTrainComplete (l : Fin 768) (s : State) : Result :=
  answer (
    let x := s.lane l
    let ready := Word.bits x.sampled 0 3 != 4 || !Word.bit x.sampled 13 || (decide (3 ≤ x.sent) && decide (3 ≤ x.recv))
    if s.lstate l = lsTrain ∧ ready then
      let s1 := s.toState l lsLock
      if isOptical l then s1 else s1.setFlag (Page.lane l) ELN.RX_EQ_STATUS_ADAPT_DONE true
    else s)

/-! ## Detection and start slots (R180, R195, R200, R201) -/

/-- Clause 73 auto-negotiation applies to the lane (R178, R201). -/
def State.needsAn (s : State) (l : Nat) : Bool :=
  let v := (s.lane l).sampled
  !isOptical l && Word.bit v 15 && !Word.bit v 8 && Word.bits v 9 2 != 1 && decide (Word.bits v 0 3 < 4)

/-- The part of LANE_CTL that must be equal on every lane of a port (R180). -/
def modeKey (l : Nat) (v : Word) : Nat × Bool × Nat :=
  (Word.bits v 0 3, Word.bit v 8, if isOptical l then 0 else if Word.bits v 9 2 = 1 then 1 else 0)

/-- The sampled controls of the port's lanes differ, or name no rate. -/
def State.modesDiffer (s : State) (l : Nat) : Bool :=
  let lp := s.portOfLane l
  let key := modeKey l (s.lane l).sampled
  decide (4 < key.1) || (lanesOf lp (s.laneSet lp)).any (fun m => s.lstate m != lsDark && modeKey m (s.lane m).sampled != key)

/-- Every lane of the port in DETECT stays there with MODE_MISMATCH. -/
def State.mismatchPort (s : State) (l : Nat) : State :=
  let lp := s.portOfLane l
  (lanesOf lp (s.laneSet lp)).foldl (fun s m =>
    if s.lstate m = lsDetect then (s.setLane m { s.lane m with mismatch := true }).laneRaise m LN.S_MODE_MISMATCH else s) s

/-- The lane may take a start slot. -/
def State.readyToStart (s : State) (l : Nat) : Bool :=
  s.lstate l == lsDetect && s.flag (Page.lane l) LN.LANE_STATUS_PEER_PRESENT && !(s.lane l).mismatch && !(s.lane l).backoff
    && s.threadRuns l && (!s.needsAn l || (s.lane l).anDone)

/-- The lane waits for a start slot, behind those that have waited longer; lanes of one instant in ascending order. -/
def insertWait (e : Nat × Nat) : List (Nat × Nat) → List (Nat × Nat)
  | [] => [e]
  | f :: t => if e.1 < f.1 ∨ (e.1 = f.1 ∧ e.2 < f.2) then e :: f :: t else f :: insertWait e t

def State.joinQueue (s : State) (l : Nat) : State :=
  if s.readyToStart l ∧ ¬ s.slotWaits.any (fun e => e.2 == l) then
    { s with slotWaits := insertWait (s.time.us, l) s.slotWaits }
  else s

/-- A poll of lane `l` in DETECT (R195); an optical lane's peer is its signal detect (R168). -/
def State.poll (s : State) (l : Nat) (present : Bool) : State :=
  let p := Page.lane l
  let seen := if isOptical l then s.flag p LN.LANE_STATUS_SIG_DET else present
  let s1 := s.setFlag p LN.LANE_STATUS_PEER_PRESENT seen
  if s1.modesDiffer l then s1.mismatchPort l
  else ((s1.setLane l { s1.lane l with mismatch := false }).clearCause p LN.S_MODE_MISMATCH).joinQueue l

def execDetectPoll (l : Fin 768) (present : Bool) (s : State) : Result :=
  answer (if s.lstate l = lsDetect ∧ ¬ (s.lane l).backoff ∧ s.threadRuns l then s.poll l present else s)

def execBackoffExpiry (l : Fin 768) (present : Bool) (s : State) : Result :=
  answer (if s.lstate l = lsDetect ∧ (s.lane l).backoff then
      let s1 := (s.setLane l { s.lane l with backoff := false }).setFld (Page.lane l) LN.LANE_STATUS_BACKOFF 0
      if s1.threadRuns l then s1.poll l present else s1
    else s)

/-- The exchange on a lane resolves the mode of every lane of its port in DETECT, or finds none (R180, R201). -/
def execAutonegComplete (l : Fin 192) (rate : Option (Fin 4)) (s : State) : Result :=
  answer (
    let n := 576 + l.val
    if s.lstate n = lsDetect ∧ s.needsAn n ∧ s.flag (Page.lane n) LN.LANE_STATUS_PEER_PRESENT then
      match rate with
      | some x =>
        let lp := s.portOfLane n
        (lanesOf lp (s.laneSet lp)).foldl (fun s m =>
          if s.lstate m = lsDetect then
            (s.setLane m { s.lane m with anDone := true, sampled := Word.setBits (s.lane m).sampled 0 3 x.val }).joinQueue m
          else s) s
      | none => s.mismatchPort n
    else s)

/-- Start slots still taken (R200). -/
def State.slotsTaken (s : State) : List Nat := s.slotsUsed.filter (fun t => decide (s.time.us < t + 1000))

/-- A lane takes a free slot in its turn and enters TRAIN, with its initial preset loaded (R192, R194). -/
def execTrainStart (l : Fin 768) (s : State) : Result :=
  answer (
    let first := s.slotWaits.find? (fun e => s.readyToStart e.2)
    if s.slotsTaken.length < 32 ∧ first.map (·.2) = some l.val then
      let p := Page.lane l
      let s1 := { s with slotsUsed := s.time.us :: s.slotsTaken }
      let s2 := (s1.leaveQueue l).toState l lsTrain
      let s3 := s2.setLane l { s2.lane l with sent := 0, recv := 0, txStatus := 0, peerPre := false, adapts := !isOptical l }
      if isOptical l then s3
      else (s3.setFlag p ELN.RX_EQ_STATUS_ADAPT_DONE false).setTaps l (presetTaps (s3.fld p ELN.TX_EQ_CFG_INIT_PRESET))
    else s)

/-! ## Attempts and lock (R194, R197 to R201) -/

def execTrainTimeout (l : Fin 768) (s : State) : Result :=
  answer (if s.lstate l = lsTrain then (s.failAttempt l LN.S_TRAIN_TIMEOUT).portsFollow (l / 4) else s)

/-- A lane enters TIE-IN with a session of its own (R199, R252). -/
def State.enterTieIn (s : State) (l : Nat) : State :=
  let s1 := s.toState l lsTieIn
  (s1.setLane l { s1.lane l with session := s1.free % 2 ^ 32, peerSess := 0, tieRun := 0, peerId := none, peerFlags := 0 }).drawn

/-- A lane gains lock; the port's lanes enter TIE-IN together once all are locked (R199). -/
def execLockGained (l : Fin 768) (s : State) : Result :=
  answer (if s.lstate l = lsLock then
      let s1 := s.setFlag (Page.lane l) LN.LANE_STATUS_LOCKED true
      let lp := s.portOfLane l
      let set := lanesOf lp (s.laneSet lp)
      if set.all (fun m => s1.lstate m == lsLock && s1.flag (Page.lane m) LN.LANE_STATUS_LOCKED) then
        set.foldl (fun s m => s.enterTieIn m) s1
      else s1
    else s)

/-- Lock is lost: a lane in service is lost (R202), any other hunts again. -/
def execLockLost (l : Fin 768) (s : State) : Result :=
  answer (if s.laneUp l then s.loseLane l else s.setFlag (Page.lane l) LN.LANE_STATUS_LOCKED false)

def execLockTimeout (l : Fin 768) (s : State) : Result :=
  answer (if s.lstate l = lsLock ∧ ¬ s.flag (Page.lane l) LN.LANE_STATUS_LOCKED then
      (s.failAttempt l LN.S_LOCK_TIMEOUT).portsFollow (l / 4)
    else s)

/-- The lanes of a port are not all locked in time: every lane of it returns to DETECT (R199). -/
def execPortLockTimeout (lp : Fin 768) (s : State) : Result :=
  answer (
    let set := lanesOf lp (s.laneSet lp)
    let some_ := set.any (fun m => s.lstate m == lsLock && s.flag (Page.lane m) LN.LANE_STATUS_LOCKED)
    if some_ then
      (set.foldl (fun s m =>
        if s.lstate m = lsLock then s.failOne m (some LN.S_LOCK_TIMEOUT)
        else if s.lstate m = lsTrain then s.failOne m none else s) s).portsFollow (lp / 4)
    else s)

/-- Outside fabric mode TIE-IN completes when the PCS reports link up (R201). -/
def execPcsLinkUp (lp : Fin 768) (s : State) : Result :=
  answer (
    let set := lanesOf lp (s.laneSet lp)
    if !s.fabricPort lp && !set.isEmpty && set.all (fun m => s.lstate m == lsTieIn) then
      (set.foldl (fun s m => s.enterActive m) s).portsFollow (lp / 4)
    else s)

/-! ## Loss and degradation (R189, R202, R203) -/

def execLaneLoss (l : Fin 768) (s : State) : Result := answer (s.loseLane l)

/-- The input amplitude has lasted 1 µs at 80 mV or more, or below 40 mV (R189). -/
def execSignalDetectChange (l : Fin 192) (millivolts : Nat) (s : State) : Result :=
  answer (
    let n := 576 + l.val
    let p := Page.lane n
    if 80 ≤ millivolts then s.setFlag p LN.LANE_STATUS_SIG_DET true
    else if 40 ≤ millivolts ∨ ¬ s.flag p LN.LANE_STATUS_SIG_DET then s
    else
      let s1 := s.setFlag p LN.LANE_STATUS_SIG_DET false
      if s1.laneTrying n then (s1.peerGone n).portsFollow (n / 4)
      else s1.loseLane n)

/-- The threshold of BER_CFG is reached by `corrected` of `received` bits. -/
def State.overBer (s : State) (l corrected received : Nat) : Bool :=
  let m := s.fld (Page.lane l) LN.BER_CFG_MANT
  let e := s.fld (Page.lane l) LN.BER_CFG_EXP
  let m' := if m = 0 then 1 else if 9 < m then 9 else m
  decide (0 < received ∧ m' * received ≤ corrected * 10 ^ (if e = 0 then 1 else e))

def execBerWindowClose (l : Fin 768) (corrected received : Nat) (s : State) : Result :=
  answer (if s.laneUp l then
      let p := Page.lane l
      let s1 := s.setFld p LN.CORR_BITS_COUNT corrected
      if s1.overBer l corrected received then
        let s2 := s1.setLane l { s1.lane l with winLow := 0 }
        if s2.lstate l = lsActive then (s2.toState l lsDegraded).laneRaise l LN.S_LANE_DEGRADED else s2
      else if s1.lstate l = lsDegraded then
        let n := (s1.lane l).winLow + 1
        if 3 ≤ n then
          ((s1.setLane l { s1.lane l with winLow := 0 }).toState l lsActive).clearCause p LN.S_LANE_DEGRADED
        else s1.setLane l { s1.lane l with winLow := n }
      else s1
    else s)

/-! ## Equaliser writes, patterns and injection (R192, R207 to R209) -/

/-- A TX_EQ write is stored in DARK, DETECT or TEST where it keeps R191. -/
def execTxEqWrite (r : Req) (l : Fin 192) (data : Word) (s : State) : Result :=
  answer (
    let n := 576 + l.val
    let p := Page.lane n
    s.hostWrite r p ELN.TX_EQ 0 false fun s =>
      let v := mergeHalf r.size (s.reg p ELN.TX_EQ) data
      let c := [signed 8 (Word.bits v 32 8), signed 8 (Word.bits v 24 8), signed 8 (Word.bits v 16 8), signed 8 (Word.bits v 8 8)]
      let st := s.lstate n
      if (st = lsDark ∨ st = lsDetect ∨ st = lsTest) ∧ tapsGood c then s.setTaps n c else s)

def execPatCtlWrite (r : Req) (l : Fin 768) (data : Word) (s : State) : Result :=
  answer (
    let p := Page.lane l
    s.hostWrite r p LN.PAT_CTL 0 false fun s =>
      let v := mergeHalf r.size (s.reg p LN.PAT_CTL) data
      let s1 := s.setReg p LN.PAT_CTL (BitVec.ofNat 48 (v.toNat % 2 ^ 16))
      let s2 := (s1.setReg p LN.PAT_ERRORS 0).setReg p LN.PAT_BITS 0
      (s2.setFlag p LN.PAT_STATUS_PAT_LOCK false).setFlag p LN.PAT_STATUS_GEN_ON (s.lstate l == lsTest && Word.bit v 11))

def execPatCheckerLock (l : Fin 768) (s : State) : Result :=
  answer (if s.lstate l = lsTest ∧ s.flag (Page.lane l) LN.PAT_CTL_CHK_EN then
      s.setFlag (Page.lane l) LN.PAT_STATUS_PAT_LOCK true
    else s)

/-- The checker loses lock after comparing `bits` bits with `errors` errors while locked (R208). -/
def execPatLockLost (l : Fin 768) (bits errors : Nat) (s : State) : Result :=
  answer (
    let p := Page.lane l
    if s.flag p LN.PAT_STATUS_PAT_LOCK then
      let s1 := (s.count p LN.PAT_BITS bits).count p LN.PAT_ERRORS errors
      (s1.setFlag p LN.PAT_STATUS_PAT_LOCK false).laneRaise l LN.S_PAT_LOCK_LOST
    else s)

/-- The lane is in the state that INJ_CFG.TARGET names. -/
def State.injectable (s : State) (l : Nat) : Bool :=
  let p := Page.lane l
  if s.flag p LN.INJ_CFG_TARGET then s.lstate l == lsActive
  else s.lstate l == lsTest && s.flag p LN.PAT_STATUS_GEN_ON

/-- FIRE inverts one bit in MODE 1, and corrupts BURST_LEN symbols in MODE 3; how many bits a corrupted symbol inverts is open
(at least one of its two, or ten). -/
def execInjFire (r : Req) (l : Fin 768) (data : Word) (s : State) : Result :=
  answer (
    let p := Page.lane l
    s.hostWrite r p LN.INJ_CMD 0 true fun s =>
      if Word.bit data 0 ∧ s.injectable l then
        let mode := s.fld p LN.INJ_CFG_MODE
        let n := if s.fld p LN.INJ_CFG_BURST_LEN = 0 then 1 else s.fld p LN.INJ_CFG_BURST_LEN
        let wide := if s.flag p LN.INJ_CFG_TARGET then 10 else 2
        if mode = 1 then s.count p LN.INJ_COUNT
        else if mode = 3 then (s.count p LN.INJ_COUNT (n + s.free % (n * (wide - 1) + 1))).drawn
        else s
      else s)

end Sys2Proof.Machine
end

