-- ==== Sys2Proof/Machine/Datum.lean ====
section
/-!
DEFINITION. Sys2Proof/Machine/Datum.lean: the datums W, A and B, their changes, slewing, captures and snapshots (17_datum.md), and
what one microsecond of the datum clock does to them.
Readings and choices (notes/assumptions): DEDUCED 65, 66; DESIGN CHOICE 2.
-/
namespace Sys2Proof.Machine

/-! ## Service (R539) -/

def State.dtmActive (s : State) : Bool :=
  s.fld Page.dtm TB.PAGE_STATE_STATE == 3 || s.fld Page.dtm TB.PAGE_STATE_STATE == 4

/-- Place of datum A (false) or B (true) among registers that come in twos. -/
def dIx (b : Bool) : Nat := if b then 1 else 0

def State.dEnabled (s : State) (b : Bool) : Bool := s.flag Page.dtm DTM.D_CTL_EN (dIx b)

/-- Datum A or B is in service. -/
def State.dOn (s : State) (b : Bool) : Bool := s.wOn && s.dEnabled b

/-- The value of A or B, and that value made `v` (modulo the 48 bits of its seconds). -/
def State.dVal (s : State) (b : Bool) : Nat := if b then s.time.b else s.time.a
def datumSpan : Nat := 2 ^ 48 * 1000000000 * nsUnits
def State.setD (s : State) (b : Bool) (v : Nat) : State :=
  { s with time := if b then { s.time with b := v % datumSpan } else { s.time with a := v % datumSpan } }

/-- The IN_SERVICE bits follow. -/
def State.dtmFollow (s : State) : State :=
  let p := Page.dtm
  let s1 := s.setFlag p DTM.DTM_STATUS_IN_SERVICE s.wOn
  (s1.setFlag p DTM.D_STATUS_IN_SERVICE (s.dOn false) 0).setFlag p DTM.D_STATUS_IN_SERVICE (s.dOn true) 1

/-- SEL of a capture or output: 1 A, 2 B, else W. The datum's value, zero while it is out of service. -/
def State.selected (s : State) (sel : Nat) : Nat :=
  if sel = 1 then (if s.dOn false then s.time.a else 0)
  else if sel = 2 then (if s.dOn true then s.time.b else 0)
  else if s.wOn then s.time.w else 0
def State.selectedOn (s : State) (sel : Nat) : Bool :=
  if sel = 1 then s.dOn false else if sel = 2 then s.dOn true else s.wOn

/-- A datum value in a pair of registers: seconds; nanoseconds and fraction. -/
def State.putTime (s : State) (sec ns : Fld) (i v : Nat) : State :=
  (s.setReg Page.dtm sec (BitVec.ofNat 48 (datumSec v)) i).setReg Page.dtm ns (BitVec.ofNat 48 (datumNs v * 2 ^ 16 + datumFrac v)) i

/-! ## Rates (R542, R545) -/

/-- A microsecond in units of a datum. -/
def usUnits : Nat := 1000 * nsUnits

/-- The value held between two bounds. -/
def clampI (lo hi v : Int) : Int := if v < lo then lo else if hi < v then hi else v

/-- What a rate offset in 2^-40 adds in a microsecond, held to ±500 ppm. -/
def rateGain (r : Int) : Int := clampI (-549755814) 549755814 r * 65536000

/-- What a datum absorbs in a microsecond of an amount still left. -/
def absorbed (left : Int) (ppm : Nat) : Int :=
  let step : Int := ppm * (2 ^ 56 / 1000)
  clampI (-step) step left

/-- What A or B gains on nominal in a microsecond. -/
def State.dGain (s : State) (b : Bool) : Int :=
  let x := s.datums
  if b then rateGain x.rateB + absorbed x.leftB x.ppmB else rateGain x.rateA + absorbed x.leftA x.ppmA

/-- The amount that A or B has still to absorb, shown by ADJ_LEFT in 2^-16 ns. -/
def State.setLeft (s : State) (b : Bool) (v : Int) (ppm : Nat) : State :=
  let x := s.datums
  let s1 := { s with datums := if b then { x with leftB := v, ppmB := ppm } else { x with leftA := v, ppmA := ppm } }
  s1.setFld Page.dtm DTM.D_STATUS_ADJ_LEFT (unsigned 40 (v.tdiv (2 ^ 40))) (dIx b)

/-- One microsecond of A or B. -/
def State.tickD (s : State) (b : Bool) : State :=
  if s.dEnabled b then
    let x := s.datums
    let left := if b then x.leftB else x.leftA
    let ppm := if b then x.ppmB else x.ppmA
    (s.setD b ((s.dVal b : Int) + usUnits + s.dGain b).toNat).setLeft b (left - absorbed left ppm) ppm
  else s

/-- One microsecond of W. -/
def State.tickW (s : State) : State :=
  if s.flag Page.dtm DTM.DTM_STATUS_W_SET then
    { s with time := { s.time with w := ((s.time.w : Int) + usUnits + s.datums.gain).toNat } }
  else s

/-- The milliseconds left of the power-up hold show (R641). -/
def State.holdLeft (s : State) : State :=
  if s.flag Page.dev DEV.DEV_STATUS_HOLD then
    s.setFld Page.dev DEV.DEV_STATUS_HOLD_LEFT ((s.aon.holdEnd - s.time.us + 999) / 1000)
  else s

/-- One microsecond of the datum clock: its count, the datums and the power-up hold. -/
def State.tickUs (s : State) : State :=
  let s1 := ((s.tickW).tickD false).tickD true
  ({ s1 with time := { s1.time with us := s1.time.us + 1 } } : State).holdLeft

/-! ## Changes and their instants (R544) -/

/-- A change reaches the page: it waits for the first whole microsecond of W, or of the datum clock's count while W is not set,
that lies at least 2 µs on. -/
def State.change (s : State) (c : DatumChange) : State :=
  let set := s.flag Page.dtm DTM.DTM_STATUS_W_SET
  let at_ := if set then (s.time.w + usUnits - 1) / usUnits + 2 else s.time.us + 2
  { s with datums := { s.datums with changes := s.datums.changes ++ [(!set, at_, c)] } }

/-- The instant of a change has come. -/
def State.due (s : State) (e : Bool × Nat × DatumChange) : Bool :=
  if e.1 then decide (e.2.1 ≤ s.time.us) else decide (e.2.1 * usUnits ≤ s.time.w)

/-- A change takes effect. -/
def State.effect (s : State) (c : DatumChange) : State :=
  match c with
  | .set v =>
    ((({ s with time := { s.time with w := v } } : State).setFlag Page.dtm DTM.DTM_STATUS_W_SET true).dtmFollow).restartMeters (fun _ => true)
  | .step b o => (s.setD b (((s.dVal b : Int) + o) % (datumSpan : Int)).toNat).setLeft b 0 0
  | .put b v => (s.setD b v).setLeft b 0 0
  | .rate b r => { s with datums := if b then { s.datums with rateB := r } else { s.datums with rateA := r } }
  | .adjust b v ppm => s.setLeft b v ppm
  | .slew g => ({ s with datums := { s.datums with gain := g } } : State).setFld Page.dtm DTM.W_RATE_RATE
      (unsigned 40 (g.tdiv 65536000))

/-- DATUM_CHANGE_EFFECT: the changes whose instant has come, in the order in which they reached the page. -/
def execDatumChangeEffect (s : State) : Result :=
  answer (
    let ready := s.datums.changes.filter s.due
    let s1 : State := { s with datums := { s.datums with changes := s.datums.changes.filter (fun e => !s.due e) } }
    ready.foldl (fun (s : State) (e : Bool × Nat × DatumChange) => s.effect e.2.2) s1)

/-! ## Setting W (R541) -/

/-- W_CMD.SET: the one set of W, or refused. -/
def execWSet (r : Req) (data : Word) (s : State) : Result :=
  answer (s.hostWrite r Page.dtm DTM.W_CMD 0 true fun s =>
    let p := Page.dtm
    let src := Word.bits data 1 2
    let ns := s.fld p DTM.W_SET_NS_NS
    let v := if src = 0 then datumOf (s.fld p DTM.W_SET_SEC_SECONDS) ns (s.fld p DTM.W_SET_NS_FRAC) else s.dVal (src == 2)
    let last := datumOf (s.fld p DTM.W_LAST_SEC_SECONDS) (s.fld p DTM.W_LAST_NS_NS) (s.fld p DTM.W_LAST_NS_FRAC)
    if !Word.bit data 0 then s
    else if s.datums.used ∨ src = 3 ∨ (src = 0 ∧ 999999999 < ns) ∨ ((src = 1 ∨ src = 2) ∧ ¬ s.dOn (src == 2)) ∨ v < last then
      s.raise p DTM.S_W_SET_REFUSED
    else ({ s with datums := { s.datums with used := true } } : State).change (.set v))

/-! ## Datums A and B (R542, R543) -/

/-- A write of D_CMD: ARM first, then STEP. -/
def State.dCommand (s : State) (r : Req) (b : Bool) (data : Word) : State :=
  s.hostWrite r Page.dtm DTM.D_CMD (dIx b) true fun s =>
    let p := Page.dtm
    let i := dIx b
    let s1 := if Word.bit data 1 then
        (((s.setFlag p DTM.D_STATUS_ARMED true i).setFlag p DTM.D_STATUS_STEPPED false i).count p
          (if b then DTM.C_REARMS_B else DTM.C_REARMS_A)).raise p DTM.S_REARM
      else s
    let ns := s1.fld p DTM.STEP_NS_NS i
    let frac := s1.fld p DTM.STEP_NS_FRAC i
    if !Word.bit data 0 then s1
    else if !s1.flag p DTM.D_STATUS_ARMED i ∨ 999999999 < ns then s1.raise p DTM.S_STEP_REFUSED
    else
      let s2 := (s1.setFlag p DTM.D_STATUS_ARMED false i).setFlag p DTM.D_STATUS_STEPPED true i
      let s3 := (s2.count p (if b then DTM.C_STEPS_B else DTM.C_STEPS_A)).raise p DTM.S_STEPPED
      let sec := s1.fld p DTM.STEP_SEC_SECONDS i
      if Word.bit data 2 then s3.change (.put b (datumOf sec ns frac))
      else s3.change (.step b (signed 48 sec * (1000000000 * nsUnits : Nat) + (datumOf 0 ns frac : Nat)))

def execDatumStep (r : Req) (b : Bool) (data : Word) (s : State) : Result := answer (s.dCommand r b data)
def execDatumArm (r : Req) (b : Bool) (data : Word) (s : State) : Result := answer (s.dCommand r b data)

/-- D_ADJ: the amount, in 2^-16 ns, to absorb at ADJ_PPM. -/
def execDatumAdjWrite (r : Req) (b : Bool) (data : Word) (s : State) : Result :=
  answer (s.hostWrite r Page.dtm DTM.D_ADJ (dIx b) false fun s =>
    let w := mergeHalf r.size (s.reg Page.dtm DTM.D_ADJ (dIx b)) data
    let ppm := Nat.min 200 (Nat.max 1 (Word.bits w 40 8))
    (s.setReg Page.dtm DTM.D_ADJ w (dIx b)).change (.adjust b (signed 40 (Word.bits w 0 40) * 2 ^ 40) ppm))

/-- D_RATE. -/
def execDatumRateWrite (r : Req) (b : Bool) (data : Word) (s : State) : Result :=
  answer (s.hostWrite r Page.dtm DTM.D_RATE (dIx b) false fun s =>
    let w := BitVec.ofNat 48 (Word.bits (mergeHalf r.size (s.reg Page.dtm DTM.D_RATE (dIx b)) data) 0 40)
    (s.setReg Page.dtm DTM.D_RATE w (dIx b)).change (.rate b (signed 40 w.toNat)))

/-- D_CTL: a datum whose EN goes to 1 starts from zero. -/
def execDatumEnable (r : Req) (b : Bool) (data : Word) (s : State) : Result :=
  answer (s.hostWrite r Page.dtm DTM.D_CTL (dIx b) false fun s =>
    let w := BitVec.ofNat 48 (Nat.land (mergeHalf r.size (s.reg Page.dtm DTM.D_CTL (dIx b)) data).toNat 0x1FFF01)
    let was := s.dEnabled b
    let s1 := s.setReg Page.dtm DTM.D_CTL w (dIx b)
    (if Word.bit w 0 && !was then (s1.setD b 0).setLeft b 0 0 else s1).dtmFollow)

/-! ## Slewing (R545, R546) -/

/-- The datum that FOLLOW names. -/
def State.followed (s : State) : Option Bool :=
  match s.fld Page.dtm DTM.W_CTL_FOLLOW with
  | 1 => some false
  | 2 => some true
  | _ => none

/-- FOLLOW_LOCK follows φ at a measurement. -/
def State.lockFollow (s : State) (phi : Int) : State :=
  let p := Page.dtm
  let win := Nat.max 1 (s.fld p DTM.W_CTL_LOCK_NS) * nsUnits
  let n := phi.natAbs
  let since := if n ≤ win then (match s.datums.locked with
    | some t => some t
    | none => some s.time.us) else none
  let s1 : State := { s with datums := { s.datums with locked := since } }
  if s.flag p DTM.DTM_STATUS_FOLLOW_LOCK then
    (if 2 * win < n then (s1.setFlag p DTM.DTM_STATUS_FOLLOW_LOCK false).clearCause p DTM.S_FOLLOW_LOCK else s1)
  else match since with
    | some t => if t + 1000000 ≤ s.time.us then (s1.setFlag p DTM.DTM_STATUS_FOLLOW_LOCK true).raise p DTM.S_FOLLOW_LOCK else s1
    | none => s1

/-- The slew is, or is not, at its limit. -/
def State.limitFollow (s : State) (b : Bool) : State :=
  let p := Page.dtm
  let was := s.flag p DTM.DTM_STATUS_AT_LIMIT
  let s1 := s.setFlag p DTM.DTM_STATUS_AT_LIMIT b
  if b && !was then s1.raise p DTM.S_SLEW_LIMIT else if b then s1 else s1.clearCause p DTM.S_SLEW_LIMIT

/-- Following is held over, or not. -/
def State.holdover (s : State) (b : Bool) : State :=
  let p := Page.dtm
  let was := s.flag p DTM.DTM_STATUS_HOLDOVER
  let s1 := s.setFlag p DTM.DTM_STATUS_HOLDOVER b
  if b && !was then s1.raise p DTM.S_FOLLOW_LOST else if b then s1 else s1.clearCause p DTM.S_FOLLOW_LOST

/-- SLEW_UPDATE: φ is measured and W's rate set. -/
def execSlewUpdate (s : State) : Result :=
  answer (
    let p := Page.dtm
    if !s.flag p DTM.DTM_STATUS_W_SET then s
    else match s.followed with
      | none =>
        let s1 := (((s.holdover false).limitFollow false).setFlag p DTM.DTM_STATUS_FOLLOW_LOCK false).clearCause p DTM.S_FOLLOW_LOCK
        ({ s1 with datums := { s1.datums with locked := none } } : State).change (.slew 0)
      | some b =>
        if s.dOn b then
          let phi : Int := (s.dVal b : Int) - s.time.w
          let tau : Int := (Nat.max 1 (s.fld p DTM.W_CTL_TAU) : Nat)
          let max_ : Int := (Nat.min 100 (Nat.max 1 (s.fld p DTM.W_CTL_SLEW_MAX)) : Nat) * 2 ^ 56 / 1000
          let slew := clampI (-max_) max_ (phi.tdiv (tau * 10000))
          let shown := clampI (-(2 ^ 47)) (2 ^ 47 - 1) (phi.tdiv (2 ^ 40))
          let s1 := ((s.holdover false).setFld p DTM.W_PHASE_PHI (unsigned 48 shown)).lockFollow phi
          (s1.limitFollow (slew == max_ || slew == -max_)).change (.slew (s.dGain b + slew))
        else s.holdover true)

/-! ## The 10 MHz input and the replicas (R540, R547) -/

/-- A write of DTM_CTL; `present`: edges are seen on the 10 MHz input. -/
def execFreqSrcWrite (r : Req) (data : Word) (present : Bool) (s : State) : Result :=
  answer (s.hostWrite r Page.dtm DTM.DTM_CTL 0 false fun s =>
    let p := Page.dtm
    let want := if r.size = .hi then s.flag p DTM.DTM_CTL_FREQ_SRC else Word.bit data 0
    let s1 := s.setFlag p DTM.DTM_STATUS_FREQ_PRESENT present
    let s2 := if present then s1.clearCause p DTM.S_FREQ_LOST else s1
    if want && !present then (s2.setFlag p DTM.DTM_CTL_FREQ_SRC false).raise p DTM.S_FREQ_LOST
    else s2.setFlag p DTM.DTM_CTL_FREQ_SRC want)

/-- The 10 MHz input has no edge for 1 µs. -/
def execFreqLoss (s : State) : Result :=
  answer (
    let p := Page.dtm
    let s1 := s.setFlag p DTM.DTM_STATUS_FREQ_PRESENT false
    if s.flag p DTM.DTM_CTL_FREQ_SRC then
      ((s1.setFlag p DTM.DTM_CTL_FREQ_SRC false).raise p DTM.S_FREQ_LOST).count p DTM.C_FREQ_LOSSES
    else s1)

/-- REPLICA_CALIBRATION: the error that each island's replica keeps after it, in 2^-8 ns; above 0.5 ns it fails. -/
def execReplicaCalibration (errors : List Nat) (s : State) : Result :=
  answer (
    let p := Page.dtm
    let bad := (List.range errors.length).filter (fun i => decide (128 < errors.getD i 0))
    let s1 := (s.setFld p DTM.CAL_STATUS_WORST (Nat.min 65535 (errors.foldl Nat.max 0))).setFlag p DTM.CAL_STATUS_FAIL (!bad.isEmpty)
    let s2 := bad.foldl (fun (s : State) (i : Nat) =>
      ((s.setFld p DTM.CAL_STATUS_ISLAND i).count p DTM.C_CAL_FAILS).raise p DTM.S_CAL_FAIL) s1
    if bad.isEmpty then s2.clearCause p DTM.S_CAL_FAIL else s2)

/-! ## Snapshots and 1PPS (R552 to R554) -/

def execTimeSnap (r : Req) (data : Word) (s : State) : Result :=
  answer (s.hostWrite r Page.dtm DTM.TIME_SNAP 0 true fun s =>
    if Word.bit data 0 then
      ((s.putTime DTM.SNAP_W_SEC DTM.SNAP_W_NS 0 (s.selected 0)).putTime DTM.SNAP_A_SEC DTM.SNAP_A_NS 0 (s.selected 1)).putTime
        DTM.SNAP_B_SEC DTM.SNAP_B_NS 0 (s.selected 2)
    else s)

def State.ppsInEn (s : State) (i : Nat) : Bool := s.flag Page.dtm (if i = 0 then DTM.PPS_IN_CTL_EN0 else DTM.PPS_IN_CTL_EN1)
def State.ppsInSel (s : State) (i : Nat) : Nat := s.fld Page.dtm (if i = 0 then DTM.PPS_IN_CTL_SEL0 else DTM.PPS_IN_CTL_SEL1)

/-- A rising edge of a 1PPS input. -/
def execPpsInEdge (i : Fin 2) (s : State) : Result :=
  answer (if s.ppsInEn i then
      let p := Page.dtm
      let held := s.flag p DTM.CAP_W_NS_VALID i
      let again := s.flag p DTM.CAP_W_NS_OVERRUN i
      let s1 := (s.putTime DTM.CAP_W_SEC DTM.CAP_W_NS i (s.selected 0)).putTime DTM.CAP_D_SEC DTM.CAP_D_NS i
        (s.selected (s.ppsInSel i))
      let s2 := (s1.setFlag p DTM.CAP_W_NS_VALID true i).setFlag p DTM.CAP_W_NS_OVERRUN (again || held) i
      let s3 : State := { s2 with datums := { s2.datums with edges := s2.datums.edges.set i (s2.time.us, 0) } }
      (s3.raise p (if i.val = 0 then DTM.S_PPS_IN0 else DTM.S_PPS_IN1)).clearCause p DTM.S_PPS_MISSING
    else s)

/-- An enabled input without an edge for 1.5 s, and for each second more. -/
def execPpsMissing (i : Fin 2) (s : State) : Result :=
  answer (
    let p := Page.dtm
    let e := s.datums.edges.getD i (0, 0)
    if s.ppsInEn i && decide (e.1 + 1500000 + e.2 * 1000000 ≤ s.time.us) then
      let s1 : State := { s with datums := { s.datums with edges := s.datums.edges.set i (e.1, e.2 + 1) } }
      if e.2 = 0 then s1.raise p DTM.S_PPS_MISSING else s1.count p (if i.val = 0 then DTM.C_PPS_MISSED0 else DTM.C_PPS_MISSED1)
    else s)

/-- A 1PPS output rises in the microsecond in which its datum comes within ADV_NS of a whole second. -/
def execPpsOutEdge (i : Fin 2) (s : State) : Result :=
  answer (
    let p := Page.dtm
    let en := s.flag p (if i.val = 0 then DTM.PPS_OUT_CTL_EN0 else DTM.PPS_OUT_CTL_EN1)
    let sel := if i.val = 0 then 0 else s.fld p DTM.PPS_OUT_CTL_SEL1
    let v := s.selected sel + s.fld p DTM.PPS_OUT_CTL_ADV_NS * nsUnits
    if en && s.selectedOn sel && decide (v % (1000000000 * nsUnits) < usUnits) && s.datums.rose.getD i 0 != s.time.us + 1 then
      ({ s with datums := { s.datums with rose := s.datums.rose.set i (s.time.us + 1) } } : State).emit
        (.pps i (Nat.min 500000 (Nat.max 1 (s.fld p DTM.PPS_OUT_CTL_WIDTH))))
    else s)

end Sys2Proof.Machine
end

