-- ==== Sys2Proof/Machine/Macsec.lean ====
section
/-!
DEFINITION. Sys2Proof/Machine/Macsec.lean: MACsec clusters, secure channels, the key store and KEY_LOCK (09_macsec.md). The SecTAG's
bit layout, the IV and the additional data are those of IEEE 802.1AE-2018, which the spec names (R276, R277).
Readings and choices (notes/assumptions): DEDUCED 40; PRESUMED 38.
-/
namespace Sys2Proof.Machine

/-! ## Packets, channels and associations -/

def State.chan (s : State) (n : Nat) : Chan := s.channels.get n dflt.chan
def State.setChan (s : State) (n : Nat) (c : Chan) : State := { s with channels := s.channels.set n c dflt.chan }
def State.assoc (s : State) (n : Nat) : Assoc := s.assocs.get n dflt.assoc
def State.setAssoc (s : State) (n : Nat) (a : Assoc) : State := { s with assocs := s.assocs.set n a dflt.assoc }

/-- The counter at offset `off` of channel `n` counts. -/
def State.chanCount (s : State) (n off k : Nat) : State := s.countSlot (bulkKey (0x200 * 2 ^ 24 + n * 0x80 + off)) k

/-- Page and slot of a logical port's LP_SEC and port counters. -/
def mscPage (lp : Nat) : Page := Page.msc (lp / 32)
def State.secFld (s : State) (lp : Nat) (f : Fld) : Nat := s.fld (mscPage lp) f (lp % 32)
def State.mscCount (s : State) (lp : Nat) (f : Fld) : State := s.count (mscPage lp) f 1 (lp % 32)

/-- An XPN suite. -/
def isXpn (suite : Nat) : Bool := decide (2 ≤ suite)

/-- Key length of a suite. -/
def keyBits (suite : Nat) : Nat := if suite % 2 = 1 then 256 else 128

/-- The last usable packet number of a suite (R287). -/
def lastPn (suite : Nat) : Nat := if isXpn suite then 2 ^ 64 - 1 else 2 ^ 32 - 1

/-! ## The rate rule (R276, R282) -/

/-- The rate of the configured lane set at full width, in units of 10 kb/s. -/
def State.configuredRate (s : State) (lp : Nat) : Nat :=
  let v := s.reg (Page.lane lp) LN.LANE_CTL
  popCount4 (s.configured lp) * laneRate (Word.bits v 0 3) (Word.bit v 8)

/-- The port is too fast for suites 0 and 1. -/
def State.tooFast (s : State) (lp : Nat) : Bool := decide (10000000 < s.configuredRate lp)

/-- The judgement of a port's channels when it is enabled or its rate changes (R282). -/
def State.judgeSuites (s : State) (lp : Nat) : State :=
  let fast := s.tooFast lp
  let hit (c : Chan) : Bool := c.valid && c.lp == lp && !isXpn c.suite
  let s1 := { s with channels := s.channels.map (fun (e : Nat × Chan) => if hit e.2 then (e.1, { e.2 with suspended := fast }) else e) }
  if s.created lp then s1.raiseIf (fast && s.channels.any (fun (e : Nat × Chan) => hit e.2)) Page.msg MSG.S_SUITE_RATE else s

/-! ## SecTAG and cipher operands (R277) -/

/-- A SecTAG as received: TCI, AN, SL, PN, explicit SCI, and its length from the EtherType on. -/
structure SecTag where
  tci : Nat
  an  : Nat
  sl  : Nat
  pn  : Nat
  sci : Option Nat
  len : Nat
deriving DecidableEq, Repr

/-- The SecTAG of a frame, which follows the source address. -/
def secTag (l : List Byte) : Option SecTag :=
  if beAt l 12 2 = 0x88E5 then
    let tci := byteAt l 14
    let sc := Nat.bitAt tci 5
    some { tci := tci / 4, an := tci % 4, sl := byteAt l 15, pn := beAt l 16 4,
           sci := if sc then some (beAt l 20 8) else none, len := if sc then 16 else 8 }
  else none

/-- Row 4 of R285: the SecTAG is invalid. -/
def tagInvalid (t : SecTag) (total : Nat) : Bool :=
  let v := Nat.bitAt t.tci 5
  let es := Nat.bitAt t.tci 4
  let sc := Nat.bitAt t.tci 3
  let scb := Nat.bitAt t.tci 2
  let e := Nat.bitAt t.tci 1
  let c := Nat.bitAt t.tci 0
  let data := total - 12 - t.len - 16
  v || (sc && (es || scb)) || (c && !e) || decide (48 ≤ t.sl) || (t.sl != 0 && t.sl != data) || (t.sl == 0 && decide (data < 48))
    || t.pn == 0

/-- The 96-bit IV of a frame. -/
def secIv (c : Chan) (a : Assoc) (pn : Nat) : Nat :=
  if isXpn c.suite then Nat.xor (a.ssci * 2 ^ 64 + pn) a.salt else c.sci * 2 ^ 32 + pn % 2 ^ 32

/-- Bytes in the clear after the SecTAG (R277). -/
def confBytes (code : Nat) : Nat :=
  match code with
  | 1 => 30
  | 2 => 50
  | _ => 0

/-- The upper part of an XPN recovered from NEXT_PN (R286). -/
def recoverPn (next pn32 : Nat) : Nat :=
  let hi := next / 2 ^ 32
  let lo := next % 2 ^ 32
  if 2 ^ 31 ≤ lo ∧ pn32 + 2 ^ 31 ≤ lo then (hi + 1) * 2 ^ 32 + pn32 else hi * 2 ^ 32 + pn32

/-! ## Receive (R284 to R286, R296) -/

/-- The channel that the frame selects on logical port `lp` (R284). -/
def State.rxChannel (s : State) (lp : Nat) (t : SecTag) : Option Nat :=
  let ok (c : Chan) : Bool := c.valid && !c.suspended && !c.tx && c.lp == lp
  match t.sci with
  | some sci => (s.channels.find? (fun (e : Nat × Chan) => ok e.2 && e.2.sci == sci)).map (·.1)
  | none =>
    if s.secFld lp MSC.LP_SEC_RX_DEFAULT_EN = 1 then
      let n := s.secFld lp MSC.LP_SEC_RX_DEFAULT_SC
      if ok (s.chan n) then some n else none
    else none

/-- The frame goes on to the traverse with these bytes. -/
def State.secPass (s : State) (id : Nat) (l : List Byte) : State := s.setPkt id { s.pkt id with bytes := l, stage := .parse }

/-- A failed frame: its plaintext cells are zeroed before they are released, and it is dropped (R296, R297). -/
def State.zeroise (s : State) (id : Nat) : State :=
  let p := mscPage (s.pkt id).lp
  let cells := if (s.pkt id).chain = 0 then 0 else (s.chainOf ((s.pkt id).chain - 1)).cells
  ((s.count p MSC.C_ZEROED_FRAMES).count p MSC.C_ZEROED_CELLS cells).dropPkt id

/-- LOWEST_PN of a receive association (R286). -/
def lowestPn (c : Chan) (a : Assoc) : Nat :=
  let w := if isXpn c.suite then Nat.min c.window (2 ^ 30) else c.window
  Nat.max 1 (a.nextPn - w)

/-- Rows 8 and 9 of R285: authenticity, delivery. -/
def State.secOpen (s : State) (id n sa : Nat) (t : SecTag) (truncated : Bool) : State :=
  let x := s.pkt id
  let c := s.chan n
  let a := s.assoc sa
  let pn := if isXpn c.suite then recoverPn a.nextPn t.pn else t.pn
  let late := decide (pn < lowestPn c a)
  let head := 12 + t.len
  let enc := Nat.bitAt t.tci 1
  let clear := if enc then head + confBytes c.confOffset else x.bytes.length - 16
  let plain := Config.gcmOpen (keyBits c.suite) a.key (secIv c a pn) (x.bytes.take clear) (x.bytes.drop clear)
  match plain, truncated || x.tagBad with
  | some body, false =>
    let a1 := { a with nextPn := Nat.max a.nextPn (pn + 1) }
    let data := (x.bytes.take clear).drop head ++ body
    let s1 := (s.setAssoc sa a1).chanCount n (if late then 0x08 else 0x00) 1
    let s2 := s1.chanCount n (if enc then 0x38 else 0x30) data.length
    s2.secPass id (x.bytes.take 12 ++ data)
  | failed, _ =>
    let p := mscPage x.lp
    let s1 := s.chanCount n 0x18 1
    let s2 := if x.tagBad then (s1.count p MSC.C_TAG_ERRORS).raise p MSC.S_TAG_ERROR else s1
    (if failed.isNone then s2.raise p MSC.S_AUTH_FAIL else s2).zeroise id

/-- Rows 7 to 9 of R285: replay first; then the plaintext is written into buffers of SEC_POOL as it is decrypted, and the frame is
discarded whole where they are exhausted (R296, R462). -/
def State.secVerify (s : State) (id n sa : Nat) (t : SecTag) (truncated : Bool) : State :=
  let x := s.pkt id
  let c := s.chan n
  let a := s.assoc sa
  let pn := if isXpn c.suite then recoverPn a.nextPn t.pn else t.pn
  if pn < lowestPn c a ∧ c.replay then (s.chanCount n 0x10 1).dropPkt id
  else match s.secGrant id (x.bytes.length - t.len - 16) with
    | none => (s.count Page.bpm BPM.C_DROP_SEC_NO_BUFFER).dropPkt id
    | some s1 => s1.secOpen id n sa t truncated

/-- The rows of R285 in order, under VALIDATE (`check`: Check, else Strict). -/
def State.secJudge (s : State) (id : Nat) (check truncated : Bool) : State :=
  let x := s.pkt id
  let lp := x.lp
  let p := mscPage lp
  let et := beAt x.bytes 12 2
  match secTag x.bytes with
  | none =>
    let by_ := et == 0x888E || (List.range 4).any (fun i => s.flag p MSC.BYPASS_ET_EN i && s.fld p MSC.BYPASS_ET_ETHERTYPE i == et)
    if by_ then (s.mscCount lp MSC.C_BYPASS).secPass id x.bytes
    else if check then (s.mscCount lp MSC.C_NO_TAG).secPass id x.bytes
    else (s.mscCount lp MSC.C_NO_TAG).dropPkt id
  | some t =>
    let enc := Nat.bitAt t.tci 1
    if tagInvalid t x.bytes.length then (s.mscCount lp MSC.C_BAD_TAG).dropPkt id
    else match s.rxChannel lp t with
    | none =>
      let s1 := s.mscCount lp MSC.C_UNKNOWN_SCI
      if check && !enc then s1.secPass id x.bytes else s1.dropPkt id
    | some n =>
      let sa := 4 * n + t.an
      if (s.assoc sa).inUse then s.secVerify id n sa t truncated
      else if check && !enc then (s.chanCount n 0x28 1).secPass id x.bytes
      else (s.chanCount n 0x20 1).dropPkt id

/-- Core pairs of cluster `g` in a state: 0 ACTIVE, 1 SPARE, 2 SELFTEST, 3 RETIRED. -/
def State.pairState (s : State) (g i : Nat) : Nat := s.fld (Page.msc g) MSC.MSC_STATUS_PAIR_STATE / 8 ^ i % 8
def State.pairsIn (s : State) (g st : Nat) : List Nat := (List.range 5).filter (fun i => s.pairState g i == st)

/-- A frame of a port that PROTECT_RX protects (R285). An overrun needs fewer than four ACTIVE pairs (R294). -/
def execMacsecRxFrame (id : Nat) (truncated overrun : Bool) (s : State) : Result :=
  answer (
    let x := s.pkt id
    let p := mscPage x.lp
    let v := s.secFld x.lp MSC.LP_SEC_VALIDATE
    if x.stage = .secRx then
      if overrun && decide ((s.pairsIn (x.lp / 32) 0).length < 4) then
        ((s.count p MSC.C_CIPHER_OVERRUN).raise p MSC.S_CIPHER_OVERRUN).dropPkt id
      else if !s.inService p then s
      else if v = 0 then (s.mscCount x.lp MSC.C_BYPASS).secPass id x.bytes
      else s.secJudge id (v == 1) truncated
    else s)

/-! ## Transmit (R283, R287 to R289) -/

/-- An event joins the PN_EVENT FIFO, or is lost (R304). -/
def State.pnEvent (s : State) (kind sa : Nat) : State :=
  if s.pnEvents.length < 256 then { s with pnEvents := s.pnEvents ++ [(kind, sa)] }.raise Page.msg MSG.S_PN_EVENT
  else (s.count Page.msg MSG.PN_EVENT_LOST).raise Page.msg MSG.S_PN_EVENT_LOST

/-- The switch threshold of a channel as a packet number: at or above it the channel switches. -/
def switchAt (c : Chan) : Nat :=
  if c.switchPn = 0 ∨ (¬ isXpn c.suite ∧ 0xFFFF < c.switchPn) then lastPn c.suite + 1 else c.switchPn * 2 ^ 16

/-- The association that the channel's next frame leaves on, after a switch where one is due (R289). -/
def State.switchSa (s : State) (n : Nat) : State × Nat :=
  let c := s.chan n
  let sa := 4 * n + c.activeAn
  if (s.assoc sa).nextPn < switchAt c then (s, sa)
  else
    let nx := 4 * n + c.nextAn
    if c.nextValid && (s.assoc nx).inUse then
      let s1 := (s.setChan n { c with activeAn := c.nextAn, nextValid := false }).pnEvent 1 sa
      ({ s1 with retire := s1.retire.filter (fun x => x / 4 != n) ++ [sa] }, nx)
    else if (s.assoc sa).noNext then (s, sa)
    else ((s.setAssoc sa { s.assoc sa with noNext := true }).pnEvent 3 sa, sa)

/-- The protected frame (R277): SecTAG, then the data sealed, then the ICV. -/
def sealFrame (c : Chan) (a : Assoc) (an pn : Nat) (l : List Byte) : List Byte :=
  let data := l.drop 12
  let sc := if c.includeSci then 8 else 0
  let tci := sc + (if c.encrypt then 3 else 0)
  let sl := if data.length < 48 then data.length else 0
  let tag := beBytes 2 0x88E5 ++ [BitVec.ofNat 8 (tci * 4 + an), BitVec.ofNat 8 sl] ++ beBytes 4 (pn % 2 ^ 32)
    ++ (if c.includeSci then beBytes 8 c.sci else [])
  let head := l.take 12 ++ tag
  let clear := if c.encrypt then data.take (confBytes c.confOffset) else data
  let rest := if c.encrypt then data.drop (confBytes c.confOffset) else []
  head ++ clear ++ Config.gcmSeal (keyBits c.suite) a.key (secIv c a pn) (head ++ clear) rest

/-- The frame leaves on association `sa` at its NEXT_PN (R287, R288). -/
def State.protect (s : State) (id n sa : Nat) : State :=
  let c := s.chan n
  let a := s.assoc sa
  let x := s.pkt id
  let pn := a.nextPn
  if lastPn c.suite < pn then
    let s1 := (s.chanCount n 0x10 1).dropPkt id
    if a.exhausted then s1 else (s1.setAssoc sa { a with exhausted := true }).pnEvent 2 sa
  else
    let tell := c.notifyPn != 0 && decide (c.notifyPn * 2 ^ 16 ≤ pn) && !a.notified && sa == 4 * n + c.activeAn
    let s1 := s.setAssoc sa { a with nextPn := pn + 1, notified := a.notified || tell }
    let s2 := if tell then s1.pnEvent 0 sa else s1
    let s3 := (s2.chanCount n (if c.encrypt then 0x08 else 0x00) 1).chanCount n (if c.encrypt then 0x38 else 0x30)
      (x.bytes.length - 12)
    s3.setPkt id { x with bytes := sealFrame c a (sa % 4) pn x.bytes, stage := .transmit }

def execMacsecTxFrame (id : Nat) (s : State) : Result :=
  answer (
    let x := s.pkt id
    let p := mscPage x.outLp
    if x.stage = .secTx ∧ s.inService p then
      let n := x.sc.getD (s.secFld x.outLp MSC.LP_SEC_TX_SC)
      let c := s.chan n
      if c.valid && !c.suspended && c.tx && c.lp == x.outLp && (s.assoc (4 * n + c.activeAn)).inUse then
        let r := s.switchSa n
        r.1.protect id n r.2
      else ((s.count p MSC.C_TX_SC_MISMATCH).raise p MSC.S_TX_SC_MISMATCH).dropPkt id
    else s)

/-! ## Key lock (R299 to R303) -/

/-- HOLDER: 0 free, 1 HA, 2 HB, 3 the rekey agent. -/
def State.holder (s : State) : Nat := s.fld Page.msg MSG.KEY_LOCK_HOLDER

/-- The holder code of a physical function; a virtual one has none. -/
def holderCode (fn : Nat) : Nat := if fn = 0 then 1 else if fn = 128 then 2 else 0

def State.holds (s : State) (fn : Nat) : Bool := holderCode fn != 0 && s.holder == holderCode fn

/-- The lock is broken (R302). -/
def State.breakLock (s : State) : State :=
  let s1 := { s with staging := {} }.setFld Page.msg MSG.KEY_LOCK_HOLDER 0
  (s1.setFlag Page.msg MSG.KEY_LOCK_LOCK_BROKEN true).raise Page.msg MSG.S_LOCK_BROKEN

/-- The lock of a physical function is broken where it is the holder. -/
def State.breakLockOf (s : State) (fn : Nat) : State := if s.holds fn then s.breakLock else s

def State.acquire (s : State) (fn : Nat) : State :=
  if s.holder = 0 then
    let b := s.flag Page.msg MSG.KEY_LOCK_LOCK_BROKEN
    ((s.setFld Page.msg MSG.KEY_LOCK_HOLDER (holderCode fn)).setFlag Page.msg MSG.KEY_LOCK_BROKEN_SEEN b).setFlag Page.msg
      MSG.KEY_LOCK_LOCK_BROKEN false
  else if s.holds fn then s
  else s.raise Page.msg MSG.S_LOCK_REFUSED

def State.release (s : State) (fn : Nat) : State :=
  if s.holds fn then { s with staging := {} }.setFld Page.msg MSG.KEY_LOCK_HOLDER 0 else s

/-- BREAK by the other physical function. -/
def State.breakBy (s : State) (fn : Nat) : State :=
  if (s.holder = 1 ∨ s.holder = 2) ∧ ¬ s.holds fn ∧ holderCode fn ≠ 0 then s.breakLock else s

/-- A write of KEY_LOCK: the bits it carries act in the order BREAK, RELEASE, ACQUIRE. -/
def State.keyLockWrite (s : State) (r : Req) (data : Word) : State :=
  s.hostWrite r Page.msg MSG.KEY_LOCK 0 true fun s =>
    let s1 := if Word.bit data 2 then s.breakBy r.fn else s
    let s2 := if Word.bit data 1 then s1.release r.fn else s1
    if Word.bit data 0 then s2.acquire r.fn else s2

def execKeyLockAcquire (r : Req) (data : Word) (s : State) : Result := answer (s.keyLockWrite r data)
def execKeyLockRelease (r : Req) (data : Word) (s : State) : Result := answer (s.keyLockWrite r data)
def execKeyLockBreak (r : Req) (data : Word) (s : State) : Result := answer (s.keyLockWrite r data)

/-- One staging register written: KEY_DATA0–5, SALT0–1, SSCI. -/
def Staging.put (g : Staging) (i : Nat) (size : AccSize) (v : Word) : Staging :=
  let word (n j : Nat) : Word := BitVec.ofNat 48 (n / 2 ^ (48 * j))
  let into (n j : Nat) : Nat := n - (word n j).toNat * 2 ^ (48 * j) + (mergeHalf size (word n j) v).toNat * 2 ^ (48 * j)
  if i < 6 then { g with key := into g.key i }
  else if i < 8 then { g with salt := into g.salt (i - 6) }
  else { g with ssci := (mergeHalf size (word g.ssci 0) v).toNat % 2 ^ 32 }

/-- A staging register's name. -/
def stagingFld (i : Nat) : Fld × Nat := if i < 6 then (MSG.KEY_DATA, i) else if i < 8 then (MSG.SALT, i - 6) else (MSG.SSCI, 0)

def execKeyStagingWrite (r : Req) (reg : Fin 9) (data : Word) (s : State) : Result :=
  answer (s.hostWrite r Page.msg (stagingFld reg).1 (stagingFld reg).2 false fun s =>
    if s.holds r.fn then { s with staging := s.staging.put reg r.size data } else s.raise Page.msg MSG.S_KEY_NO_LOCK)

/-! ## Channel and association commands (R281, R298, R300) -/

/-- The command completes with ERROR `e`. -/
def State.msgDone (s : State) (e : Nat) : State :=
  (s.setFld Page.msg MSG.CMD_STATUS_ERROR e).setFlag Page.msg MSG.CMD_STATUS_DONE true

/-- The channel that SC_DATA0–4 give. -/
def State.stagedChan (s : State) : Chan :=
  let d (i : Nat) : Word := s.slot (slotAddr Page.msg MSG.SC_DATA0 0 + 8 * i)
  { sci := (d 0).toNat * 2 ^ 16 + Word.bits (d 1) 32 16, lp := Word.bits (d 1) 22 10, parcel := Word.bits (d 1) 10 12,
    tx := Word.bit (d 1) 9, suite := Word.bits (d 1) 7 2, valid := Word.bit (d 1) 6, replay := Word.bit (d 1) 5,
    encrypt := Word.bit (d 1) 4, includeSci := Word.bit (d 1) 3, confOffset := Word.bits (d 1) 1 2,
    window := Word.bits (d 2) 16 32, activeAn := Word.bits (d 2) 14 2, nextAn := Word.bits (d 2) 12 2,
    nextValid := Word.bit (d 2) 11, switchPn := (d 3).toNat, notifyPn := (d 4).toNat }

/-- Why a channel write is refused (R281), as CMD_STATUS.ERROR; 0: it is stored. -/
def State.chanError (s : State) (n : Nat) (c : Chan) : Nat :=
  let old := s.chan n
  let others (q : Chan → Bool) : Nat := (s.channels.filter (fun (e : Nat × Chan) => e.1 != n && e.2.valid && q e.2)).length
  let used := (List.range 4).any (fun i => (s.assoc (4 * n + i)).inUse)
  if c.valid && !(old.valid && old.parcel == c.parcel) && decide (s.pclFld c.parcel PCL.RES_QUOTA_CHANNELS < others (fun x => x.parcel == c.parcel) + 1) then 2
  else if c.valid && !c.tx && decide (2048 < others (fun x => !x.tx && x.lp / 32 == c.lp / 32) + 1) then 3
  else if c.valid && !c.tx && decide (0 < others (fun x => !x.tx && x.lp == c.lp && x.sci == c.sci)) then 4
  else if !isXpn c.suite && s.tooFast c.lp then 5
  else if used && (c.suite != old.suite || c.lp != old.lp || c.tx != old.tx) then 6
  else if c.confOffset = 3 then 7
  else 0

def State.scWriteCmd (s : State) (n : Nat) : State :=
  let c := s.stagedChan
  let e := s.chanError n c
  if e = 0 then (s.setChan n { c with suspended := (s.chan n).valid && (s.chan n).suspended }).msgDone 0
  else
    let s1 := if e = 2 then s.quotaHit c.parcel else s
    (s1.raise Page.msg MSG.S_SC_REFUSED).msgDone e

def State.scDeleteCmd (s : State) (n : Nat) : State :=
  let s1 := (List.range 4).foldl (fun s i =>
    s.setAssoc (4 * n + i) { s.assoc (4 * n + i) with inUse := false, key := 0, salt := 0, ssci := 0 }) s
  (s1.setChan n { s1.chan n with valid := false, suspended := false }).msgDone 0

/-- SC_DATA0–4 as a READ returns them. -/
def State.scReadCmd (s : State) (n : Nat) : State :=
  let c := s.chan n
  let w1 := c.sci % 2 ^ 16 * 2 ^ 32 + c.lp * 2 ^ 22 + c.parcel * 2 ^ 10 + b2n c.tx * 512 + c.suite * 128 + b2n c.valid * 64
    + b2n c.replay * 32 + b2n c.encrypt * 16 + b2n c.includeSci * 8 + c.confOffset * 2 + b2n c.suspended
  let w2 := c.window * 2 ^ 16 + c.activeAn * 2 ^ 14 + c.nextAn * 2 ^ 12 + b2n c.nextValid * 2 ^ 11
  let put (s : State) (f : Fld) (v : Nat) : State := s.setReg Page.msg f (BitVec.ofNat 48 v)
  (put (put (put (put (put s MSG.SC_DATA0 (c.sci / 2 ^ 16)) MSG.SC_DATA1 w1) MSG.SC_DATA2 w2) MSG.SC_DATA3 c.switchPn)
    MSG.SC_DATA4 c.notifyPn).msgDone 0

/-- A write of SC_CMD, by its OP (R300). -/
def State.scCommand (s : State) (r : Req) (data : Word) : State :=
  s.hostWrite r Page.msg MSG.SC_CMD 0 true fun s =>
    let n := Word.bits data 0 14
    let op := Word.bits data 46 2
    if s.flag Page.msg MSG.CMD_STATUS_BUSY then s.setFld Page.msg MSG.CMD_STATUS_ERROR 7
    else if op = 0 then s.scReadCmd n
    else if op = 3 then s.msgDone 7
    else if ¬ s.holds r.fn then (s.raise Page.msg MSG.S_KEY_NO_LOCK).msgDone 1
    else if op = 1 then s.scWriteCmd n
    else s.scDeleteCmd n

def execScRead (r : Req) (data : Word) (s : State) : Result := answer (s.scCommand r data)
def execScWrite (r : Req) (data : Word) (s : State) : Result := answer (s.scCommand r data)
def execScDelete (r : Req) (data : Word) (s : State) : Result := answer (s.scCommand r data)

/-- SA_DATA as a READ returns it: no key material. -/
def State.saReadCmd (s : State) (sa : Nat) : State :=
  let a := s.assoc sa
  let c := s.chan (sa / 4)
  let put (s : State) (f : Fld) (v : Nat) : State := s.setReg Page.msg f (BitVec.ofNat 48 v)
  let s1 := put (put s MSG.SA_DATA0 a.nextPn) MSG.SA_DATA1 (b2n a.inUse * 2 ^ 16 + a.nextPn / 2 ^ 48 % 2 ^ 16)
  let s2 := if c.tx then s1 else put (put s1 MSG.SA_DATA2 (lowestPn c a)) MSG.SA_DATA3 (lowestPn c a / 2 ^ 48 % 2 ^ 16)
  s2.msgDone 0

/-- INSTALL: the staged material, NEXT_PN and the channel changes commit together; the staging registers are zeroed. -/
def State.saInstallCmd (s : State) (sa : Nat) (activate asNext : Bool) : State :=
  let n := sa / 4
  let c := s.chan n
  let g := s.staging
  let lo := s.fld Page.msg MSG.SA_DATA0_NEXT_PN_LO
  let hi := if isXpn c.suite then s.fld Page.msg MSG.SA_DATA1_NEXT_PN_HI else 0
  let pn := Nat.max 1 (lo + hi * 2 ^ 48)
  if ¬ c.valid ∨ (activate ∧ asNext) then s.msgDone 6
  else if keyBits c.suite = 128 ∧ 2 ^ 128 ≤ g.key then s.msgDone 7
  else
    let s1 := { s with staging := {} }.setAssoc sa
      { inUse := true, nextPn := pn, key := g.key, salt := if isXpn c.suite then g.salt else 0,
        ssci := if isXpn c.suite then g.ssci else 0 }
    let c1 := if activate && c.tx then { c with activeAn := sa % 4 } else c
    let c2 := if asNext && c.tx then { c1 with nextAn := sa % 4, nextValid := true } else c1
    (s1.setChan n c2).msgDone 0

def State.saDeleteCmd (s : State) (sa : Nat) : State :=
  if (s.chan (sa / 4)).valid then
    (s.setAssoc sa { s.assoc sa with inUse := false, key := 0, salt := 0, ssci := 0 }).msgDone 0
  else s.msgDone 6

def State.saSetNextCmd (s : State) (sa : Nat) : State :=
  let c := s.chan (sa / 4)
  if c.valid && (s.assoc sa).inUse then
    (if c.tx then s.setChan (sa / 4) { c with nextAn := sa % 4, nextValid := true } else s).msgDone 0
  else s.msgDone 6

/-- A write of SA_CMD, by its OP (R300). -/
def State.saCommand (s : State) (r : Req) (data : Word) : State :=
  s.hostWrite r Page.msg MSG.SA_CMD 0 true fun s =>
    let sa := Word.bits data 0 16
    let op := Word.bits data 45 3
    if s.flag Page.msg MSG.CMD_STATUS_BUSY then s.setFld Page.msg MSG.CMD_STATUS_ERROR 7
    else if op = 0 then s.saReadCmd sa
    else if 4 ≤ op then s.msgDone 7
    else if ¬ s.holds r.fn then (s.raise Page.msg MSG.S_KEY_NO_LOCK).msgDone 1
    else if op = 1 then s.saInstallCmd sa (Word.bit data 44) (Word.bit data 43)
    else if op = 2 then s.saDeleteCmd sa
    else s.saSetNextCmd sa

def execSaRead (r : Req) (data : Word) (s : State) : Result := answer (s.saCommand r data)
def execSaInstall (r : Req) (data : Word) (s : State) : Result := answer (s.saCommand r data)
def execSaDelete (r : Req) (data : Word) (s : State) : Result := answer (s.saCommand r data)
def execSaSetNext (r : Req) (data : Word) (s : State) : Result := answer (s.saCommand r data)

/-- A read of PN_EVENT removes the oldest entry. -/
def execPnEventRead (r : Req) (s : State) : Result :=
  answer (
    let value (s : State) : Word := match s.pnEvents with
      | e :: _ => BitVec.ofNat 48 (2 ^ 47 + e.1 * 2 ^ 45 + e.2)
      | [] => 0
    s.hostRead r Page.msg MSG.PN_EVENT 0 true value fun s => { s with pnEvents := s.pnEvents.drop 1 })

/-- The rekey agent retires the oldest pending association once the lock is free (R290, R303). -/
def execRekeyRetire (s : State) : Result :=
  answer (match s.retire with
    | [] => s
    | sa :: rest =>
      if s.holder = 0 then
        { s with retire := rest }.setAssoc sa { s.assoc sa with inUse := false, key := 0, salt := 0, ssci := 0 }
      else s)

/-! ## Core pairs (R292 to R295) -/

/-- A pair goes to a state. -/
def State.setPair (s : State) (g i st : Nat) : State :=
  let p := Page.msc g
  let v := s.fld p MSC.MSC_STATUS_PAIR_STATE
  s.setFld p MSC.MSC_STATUS_PAIR_STATE (v - s.pairState g i * 8 ^ i + st * 8 ^ i)

/-- The cluster after its pairs changed: a SPARE pair works where fewer than four do; WORKING, the sources and the degrading
condition follow (R293, R294). -/
def State.pairsFollow (s : State) (g : Nat) : State :=
  let p := Page.msc g
  let s1 := match s.pairsIn g 1 with
    | i :: _ => if (s.pairsIn g 0).length < 4 then s.setPair g i 0 else s
    | [] => s
  let n := (s1.pairsIn g 0).length
  let s2 := (s1.setFld p MSC.MSC_STATUS_WORKING n).setDegrading p (decide (n < 4))
  let s3 := if n < 4 then s2.raise p MSC.S_NO_SPARE_PAIR else s2.clearCause p MSC.S_NO_SPARE_PAIR
  if n = 0 then s3.raise p MSC.S_CIPHER_LOST else s3.clearCause p MSC.S_CIPHER_LOST

/-- A pair's comparison fails on packet `id`, with `others` in flight in the pair (R293). -/
def execDualRailMismatch (g : Fin 24) (pair : Fin 5) (id : Nat) (others : List Nat) (s : State) : Result :=
  answer (if s.pairState g pair = 0 then
      let p := Page.msc g
      let x := s.pkt id
      let s1 := if x.stage = .secRx then
          let s0 := match (secTag x.bytes).bind (fun t => s.rxChannel x.lp t) with
            | some n => s.chanCount n 0x18 1
            | none => s
          (s0.count p MSC.C_CIPHER_DROPS).zeroise id
        else if x.stage = .gone then s
        else s.setPkt id { x with tagBad := true, stage := .transmit }
      let s2 := (others.take 16).foldl (fun s o => (s.count p MSC.C_CIPHER_DROPS).dropPkt o) s1
      ((s2.setPair g pair 2).raise p MSC.S_DUAL_RAIL).pairsFollow g
    else s)

/-- A pair fails its test for good: it is RETIRED (R293, R295). -/
def State.retirePair (s : State) (g i : Nat) : State :=
  let p := Page.msc g
  (((s.setPair g i 3).count p MSC.C_KAT_FAILS).raise p MSC.S_KAT_FAIL).clearCause p MSC.S_KAT_FAIL

def execKatComplete (g : Fin 24) (pair : Fin 5) (pass : Bool) (s : State) : Result :=
  answer (if s.pairState g pair = 2 then
      let s1 := (s.count (Page.msc g) MSC.C_KAT_RUNS).clearCause (Page.msc g) MSC.S_DUAL_RAIL
      (if pass then s1.setPair g pair 1 else s1.retirePair g pair).pairsFollow g
    else s)

def execSparePairKat (g : Fin 24) (first second : Bool) (s : State) : Result :=
  answer (match s.pairsIn g 1 with
    | i :: _ =>
      let s1 := s.count (Page.msc g) MSC.C_KAT_RUNS (if first then 1 else 2)
      if first || second then s1 else (s1.retirePair g i).pairsFollow g
    | [] => s)

/-- READMIT tests each RETIRED pair it names; `pass` says which tests pass. -/
def execPairReadmit (r : Req) (g : Fin 24) (data : Word) (pass : Fin 32) (s : State) : Result :=
  answer (s.hostWrite r (Page.msc g) MSC.PAIR_CMD 0 true fun s =>
    let one (s : State) (i : Nat) : State :=
      if Word.bit data i && s.pairState g i == 3 then
        let s1 := s.count (Page.msc g) MSC.C_KAT_RUNS
        if Nat.bitAt pass i then s1.setPair g i 1 else s1.count (Page.msc g) MSC.C_KAT_FAILS
      else s
    ((List.range 5).foldl one s).pairsFollow g)

end Sys2Proof.Machine
end

