-- ==== Sys2Proof/Machine/Parser.lean ====
section
/-!
DEFINITION. Sys2Proof/Machine/Parser.lean: the parser of a traverse: parse graph, classification, flow hash, rule banks, flips and
the parser's indirect commands (10_parser.md).
Readings and choices (notes/assumptions): DEDUCED 44, 45.
-/
namespace Sys2Proof.Machine

/-! ## Banks and their entries (R324, R337) -/

/-- The bank that is active in traverse `t`, if one is. -/
def State.activeBank (s : State) (t : Nat) : Option Nat :=
  if s.flag (Page.prs t) PRS.BANK_STATUS_ACTIVE_VALID then some (s.fld (Page.prs t) PRS.BANK_STATUS_ACTIVE_BANK) else none

def validFld (bank : Nat) : Fld := if bank = 0 then PRS.BANK_STATUS_VALID_A else PRS.BANK_STATUS_VALID_B
def genFld (bank : Nat) : Fld := if bank = 0 then PRS.BANK_STATUS_GEN_A else PRS.BANK_STATUS_GEN_B
def State.bankValid (s : State) (t bank : Nat) : Bool := s.flag (Page.prs t) (validFld bank)

/-- The instance that holds target `tgt` of traverse `t`: banked targets have one a bank. -/
def bankInst (t bank tgt : Nat) : Nat := if tgt < 6 then 2 * t + bank else 2 * t

/-- Where LP_CLASS entry `i` of traverse `t` lies: T24 holds one set of entries 0 to 31 for each group (R379). -/
def lpClassIdx (t set i : Nat) : Nat := if t = 24 ∧ i < 32 then 64 * (set + 1) + i else i

/-- The set of LP_CLASS entries that a direct access to T24 addresses (R379). -/
def State.shadowSet (s : State) : Nat :=
  if s.role 24 = roleStandingIn then s.serves else s.fld (Page.trv 24) TRV.TRV_CTL_SHADOW_SEL

/-- Word `i` of an entry of the bank. -/
def State.prsWord (s : State) (t bank tgt idx i : Nat) : Word := s.entWord tgt (bankInst t bank tgt) idx i

/-! ## The parse (R305 to R314) -/

/-- A parse under way: cursor, state, user flags, steps, header instances, bytes for the flow hash, classification key, PHV so far,
status bits, dropped, ended. -/
structure Parse where
  cursor : Nat := 0
  state  : Nat := 0
  flags  : Nat := 0
  steps  : Nat := 0
  hdrs   : List (Nat × Nat) := []
  hash   : List Byte := []
  ckey   : Option (Nat × Nat) := none
  phv    : Tab Word := []
  miss   : Bool := false
  trunc  : Bool := false
  la     : Bool := false
  limit  : Bool := false
  ovf    : Bool := false
  drop   : Bool := false
  ended  : Bool := false
deriving DecidableEq, Repr

/-- Window byte `i` (R306). -/
def winByte (l : List Byte) (i : Nat) : Nat := if i < 512 then byteAt l i else 0

/-- `n` window bytes from `i`, first byte uppermost. -/
def winBytes (l : List Byte) (i n : Nat) : Nat := (List.range n).foldl (fun v j => v * 256 + winByte l (i + j)) 0

/-- Window bytes `i` to `i + n − 1` have been read: TRUNC and LA_LIMIT follow (R306). -/
def Parse.reads (q : Parse) (l : List Byte) (i n : Nat) : Parse :=
  if n = 0 then q
  else { q with trunc := q.trunc || decide (l.length < i + n), la := q.la || decide (512 < i + n) }

/-- A step's lookup key (R309). -/
def parseKey (q : Parse) (l : List Byte) (st : Word) : Nat :=
  let o (k : Nat) : Nat := q.cursor + Word.bits st (12 - 6 * k) 6
  let w (k : Nat) : Nat := winBytes l (o k) 2
  let b512 := decide (512 < o 0 + 2) || decide (512 < o 1 + 2) || decide (512 < o 2 + 2)
  let bend := decide (l.length < o 0 + 2) || decide (l.length < o 1 + 2) || decide (l.length < o 2 + 2)
  q.state * 2 ^ 56 + w 0 * 2 ^ 40 + w 1 * 2 ^ 24 + w 2 * 2 ^ 8 + q.flags * 4 + (if b512 then 2 else 0) + (if bend then 1 else 0)

/-- TCAM entry `e` matches the key (R310). -/
def tcamMatches (e : List Word) (key : Nat) : Bool :=
  let value := (e.getD 0 0).toNat * 2 ^ 16 + Word.bits (e.getD 1 0) 0 16
  let mask := (e.getD 2 0).toNat * 2 ^ 16 + Word.bits (e.getD 3 0) 0 16
  Word.bit (e.getD 1 0) 47 && Nat.land (Nat.xor key value) mask == 0

/-- The lowest-numbered TCAM entry of a bank that matches. -/
def State.tcamHit (s : State) (t bank key : Nat) : Option Nat :=
  (s.ents.find? (fun e => e.1 / 2 ^ 32 == spTcam * 2 ^ 16 + (2 * t + bank) && tcamMatches e.2 key)).map (fun e => e.1 % 2 ^ 32)

/-- Extract field `k` of an action entry. -/
def extract (a : List Word) (k : Nat) : Nat := Word.bits (a.getD (2 + k / 2) 0) (if k % 2 = 0 then 20 else 0) 20
def extOff (e : Nat) : Nat := e / 2 ^ 14 % 64
def extLen (e : Nat) : Nat := e / 2 ^ 11 % 8
def extWord (e : Nat) : Nat := e / 8 % 256
def extShift (e : Nat) : Nat := e % 8

/-- Extract `k` is carried out (R312); `hash`: it feeds the flow hash. -/
def Parse.extractOne (q : Parse) (l : List Byte) (e : Nat) (hash : Bool) : Parse :=
  let n := extLen e
  if n = 0 then q
  else
    let at_ := q.cursor + extOff e
    let v := winBytes l at_ n
    let q1 := q.reads l at_ n
    let bytes := (List.range n).map (fun j => BitVec.ofNat 8 (winByte l (at_ + j)))
    { q1 with phv := q1.phv.set (extWord e) (Word.setBits (q1.phv.get (extWord e) 0) (8 * extShift e) (8 * n) v) 0,
              hash := if hash then q1.hash ++ bytes else q1.hash }

/-- The key VALUE of kind `kind` from an extract's value (R316). -/
def ckeyValue (kind v : Nat) : Nat :=
  match kind with
  | 1 => v % 2 ^ 12
  | 2 => v % 2 ^ 24
  | _ => v / 16 % 2 ^ 20

/-- How far the cursor advances (R313). -/
def advance (q : Parse) (l : List Byte) (d : Word) : Nat :=
  let base := Word.bits d 39 8
  if Word.bit d 47 then
    let b := winByte l (q.cursor + Word.bits d 33 6)
    base + b / 2 ^ Word.bits d 30 3 % 2 ^ Word.bits d 26 4 * 2 ^ Word.bits d 23 3
  else base

/-- The action of the matching entry, in the order of R311. -/
def Parse.act (q : Parse) (l : List Byte) (a : List Word) : Parse :=
  let d := a.getD 0 0
  let type := Word.bits d 32 6
  let q1 := if type = 63 then q
    else if q.hdrs.length < 32 then { q with hdrs := q.hdrs ++ [(type, q.cursor)] } else { q with ovf := true }
  let q2 := (List.range 8).foldl (fun q k => q.extractOne l (extract a k) (Word.bit d (12 + k))) q1
  let set := Word.bits d 26 6
  let clr := Word.bits d 20 6
  let q3 := { q2 with flags := Nat.lor (q2.flags - Nat.land q2.flags clr) set }
  let kind := Word.bits d 10 2
  let e := extract a (Word.bits d 7 3)
  let q4 := if kind = 0 then q3
    else { q3 with ckey := some (kind, ckeyValue kind (winBytes l (q.cursor + extOff e) (extLen e))) }
  let q5 := if Word.bit (a.getD 1 0) 47 then q4.reads l (q.cursor + Word.bits (a.getD 1 0) 33 6) 1 else q4
  let q6 := { q5 with cursor := Nat.min 1023 (q.cursor + advance q l (a.getD 1 0)) }
  if Word.bit d 38 then { q6 with drop := true, ended := true }
  else if Word.bit d 39 then { q6 with ended := true }
  else { q6 with state := Word.bits d 40 8 }

/-- One step of the parse (R309 to R311, R314). -/
def State.parseStep (s : State) (t bank : Nat) (l : List Byte) (q : Parse) : Parse :=
  if q.ended then q
  else if 512 ≤ q.cursor then { q with la := true, ended := true }
  else
    let st := s.prsWord t bank spState q.state 0
    let o (k : Nat) : Nat := q.cursor + Word.bits st (12 - 6 * k) 6
    let q1 := { ((q.reads l (o 0) 2).reads l (o 1) 2).reads l (o 2) 2 with steps := q.steps + 1 }
    match s.tcamHit t bank (parseKey q l st) with
    | some n => q1.act l (s.ent spAction (2 * t + bank) n)
    | none => if Word.bit st 18 then { q1 with drop := true, ended := true } else { q1 with miss := true, ended := true }

/-- The whole parse from a start state: at most 48 steps (R314). -/
def State.parse (s : State) (t bank start : Nat) (l : List Byte) : Parse :=
  let q := (List.range 48).foldl (fun q _ => s.parseStep t bank l q) { state := start }
  if q.ended then q else { q with limit := true, ended := true }

/-! ## Classification (R316 to R320) -/

/-- Fields of a class entry. -/
def classKey (d : Word) : Nat := Word.bits d 15 32
def classBytes (kind : Nat) (lpMatch : Bool) (sel value : Nat) : List Byte :=
  leBytes 1 (kind * 64 + b2n lpMatch * 32 + (if lpMatch then sel else 0)) ++ beBytes 3 value

/-- The set of a key (R317). -/
def classSet (kind : Nat) (lpMatch : Bool) (sel value : Nat) : Nat := crc16 (classBytes kind lpMatch sel value) % 4096

/-- A valid entry that holds the key. -/
def classIs (d : Word) (kind : Nat) (lpMatch : Bool) (sel value : Nat) : Bool :=
  Word.bit d 47 && Word.bits d 45 2 == kind && Word.bit d 44 == lpMatch && (!lpMatch || Word.bits d 39 5 == sel)
    && Word.bits d 15 24 == value

/-- The index of the class entry that holds the key. -/
def State.classFind (s : State) (t bank kind : Nat) (lpMatch : Bool) (sel value : Nat) : Option Nat :=
  let b := 4 * classSet kind lpMatch sel value
  ((List.range 4).map (fun w => b + w)).find? (fun i => classIs (s.prsWord t bank spClass i 0) kind lpMatch sel value)

/-- Parcel, class entry and CLASS_DEFAULT of a packet from a port (R318): none in row 3. -/
def State.classify (s : State) (t bank lp : Nat) (cls : Word) (ckey : Option (Nat × Nat)) : Option (Nat × Option Word × Bool) :=
  match ckey with
  | none => some (Word.bits cls 36 12, none, false)
  | some (kind, value) =>
    let hit (m : Bool) : Option Nat := s.classFind t bank kind m (lp % 32) value
    match hit true, hit false with
    | some i, _ => some (Word.bits (s.prsWord t bank spClass i 0) 3 12, some (s.prsWord t bank spClass i 1), false)
    | none, some i => some (Word.bits (s.prsWord t bank spClass i 0) 3 12, some (s.prsWord t bank spClass i 1), false)
    | none, none => if Word.bit cls 29 then none else some (Word.bits cls 36 12, none, true)

/-- The first recorded instance that satisfies `q`, as type and offset; the last one with `last`. -/
def hdrWhere (q : Nat → Bool) (last : Bool) (h : List (Nat × Nat)) : Option (Nat × Nat) :=
  let l := h.filter (fun e => e.1 != 63 && q e.1)
  if last then l.getLast? else l.head?

/-- TC by the 802.1Q priority, where a VLAN instance was recorded (R319, R320). -/
def State.tcByPcp (s : State) (t bank : Nat) (l : List Byte) (h : List (Nat × Nat)) : Option Nat :=
  let ht := Word.bits (s.prsWord t bank spQosMap 0 1) 12 6
  (hdrWhere (fun x => x == ht) false h).map (fun e =>
    Word.bits (s.prsWord t bank spQosMap 0 0) (4 * (winByte l (e.2 + 2) / 32)) 4)

/-- TC by the DSCP, where an IP instance was recorded. -/
def State.tcByDscp (s : State) (t bank : Nat) (l : List Byte) (h : List (Nat × Nat)) : Option Nat :=
  let m := s.prsWord t bank spQosMap 0 1
  let v4 := Word.bits m 6 6
  let v6 := Word.bits m 0 6
  (hdrWhere (fun x => x == v4 || x == v6) (Word.bit m 18) h).map (fun e =>
    let d := if e.1 = v4 then winByte l (e.2 + 1) / 4 else winByte l e.2 % 16 * 4 + winByte l (e.2 + 1) / 64
    Word.bits (s.prsWord t bank spQosMap 1 (d / 12)) (4 * (d % 12)) 4)

/-- The traffic class (R319). -/
def State.trafficClass (s : State) (t bank : Nat) (cls : Word) (entry : Option Word) (l : List Byte) (h : List (Nat × Nat)) : Nat :=
  let dflt := Word.bits cls 32 4
  match entry.filter (fun e => Word.bit e 4) with
  | some e => Word.bits e 0 4
  | none =>
    match Word.bits cls 30 2 with
    | 0 => dflt
    | 1 => (s.tcByPcp t bank l h).getD dflt
    | 2 => (s.tcByDscp t bank l h).getD dflt
    | _ => ((s.tcByDscp t bank l h).orElse (fun _ => s.tcByPcp t bank l h)).getD dflt

/-- FLOW_HASH (R322). -/
def State.flowHashOf (s : State) (t : Nat) (bytes : List Byte) (lp parcel : Nat) : Nat :=
  let p := Page.prs t
  crcMsb 0x04C11DB7 (s.fld p PRS.HASH_CFG_SEED)
    (bytes ++ (if s.flag p PRS.HASH_CFG_USE_LP then beBytes 2 lp else [])
      ++ (if s.flag p PRS.HASH_CFG_USE_PARCEL then beBytes 2 parcel else []))

/-- Words 168 to 182 of the PHV (R307). -/
def headWords (q : Parse) (dfl : Bool) (parcel tc lp bank hash : Nat) : Tab Word :=
  let hdr (v : Tab Word) (e : Nat × (Nat × Nat)) : Tab Word :=
    v.set (hdrWord e.1) (Word.setBits (v.get (hdrWord e.1) 0) (hdrLsb e.1) 16 (e.2.1 * 2 ^ 10 + e.2.2)) 0
  let h := ((List.range q.hdrs.length).zip q.hdrs).foldl hdr q.phv
  let st := b2n q.miss + 2 * b2n q.trunc + 4 * b2n q.la + 8 * b2n q.limit + 16 * b2n q.ovf + 32 * b2n dfl
  let w179 := q.hdrs.length * 2 ^ 42 + q.flags * 2 ^ 36 + q.steps * 2 ^ 30 + q.cursor * 2 ^ 20 + q.state * 2 ^ 12 + st
  let k := q.ckey.getD (0, 0)
  let w180 := parcel * 2 ^ 36 + tc * 2 ^ 32 + lp * 2 ^ 22 + k.1 * 2 ^ 20 + bank * 2 ^ 19
  let w (v : Tab Word) (i n : Nat) : Tab Word := v.set i (BitVec.ofNat 48 n) 0
  w (w (w (w h 179 w179) 180 w180) 181 (hash * 2 ^ 16)) 182 k.2

/-- The counters of R314, once a packet. -/
def State.parseCounts (s : State) (p : Page) (q : Parse) : State :=
  let c (s : State) (b : Bool) (f : Fld) : State := if b then s.count p f else s
  c (c (c (c (c s q.miss PRS.C_PARSE_MISS) q.trunc PRS.C_TRUNC) q.la PRS.C_LA_LIMIT) q.limit PRS.C_STEP_LIMIT) q.ovf
    PRS.C_HDR_OVERFLOW

/-- What the memory check of a lookup does (R336). -/
def State.parserEcc (s : State) (t : Nat) (ecc : EccFound) : State :=
  let p := Page.prs t
  match ecc with
  | .clean => s
  | .fixed => (s.count p PRS.C_SCRUB_FIXED).raise p PRS.S_SCRUB_FIXED
  | .lost => s.raise p PRS.S_PRS_MEM_FAIL

/-- The parcel is assigned: its packets and bytes are counted, and a packet of an invalid parcel is dropped before any station
(R94); otherwise it goes on to station 0. -/
def State.assign (s : State) (id : Nat) (x : Pkt) (parcel : Nat) : State :=
  let s1 := (s.parcelCount parcel 0 1).parcelCount parcel 8 x.frameLen
  if s1.parcelValid parcel then (s1.setPkt id { x with parcel := parcel, stage := .station 0, ord := s1.nextPkt }).tick
  else (s1.parcelCount parcel 0x020 1).dropPkt id

/-- The packet parsed under bank `bank` of traverse `t`. -/
def State.parseUnder (s : State) (id t bank : Nat) : State :=
  let x := s.pkt id
  let p := Page.prs t
  let fromRing := x.ring.isSome
  let idx := if fromRing then 32 else lpClassIdx t (if t = 24 then s.serves else 0) (x.lp % 32)
  let cls := s.prsWord t bank spLpClass idx 0
  let q := s.parse t bank (Word.bits cls 21 8) x.bytes
  let s1 := s.parseCounts p q
  if q.drop then ((s1.count p PRS.C_PARSE_DROPS).raise p PRS.S_PARSE_DROP).dropPkt id
  else
    let s2 := s1.count p PRS.C_PARSED
    let lp := if fromRing then 0x3FF else x.lp
    let c := if fromRing then some (x.parcel, none, false) else s2.classify t bank x.lp cls q.ckey
    match c with
    | none => ((s2.count p PRS.C_UNCLASSIFIED).raise p PRS.S_UNCLASSIFIED).dropPkt id
    | some (parcel, entry, dfl) =>
      let tc := s2.trafficClass t bank cls entry x.bytes q.hdrs
      let hash := s2.flowHashOf t q.hash lp parcel
      s2.assign id { x with trav := t, phv := headWords q dfl parcel tc lp bank hash } parcel

/-- No packet of the same origin waits before `x`. -/
def State.headOfLine (s : State) (id : Nat) (x : Pkt) : Bool :=
  s.pkts.all (fun e => !(e.2.stage == .parse && e.2.lp == x.lp && e.2.ring == x.ring && decide (e.1 < id)))

/-- A packet enters the traverse that serves its group (R308); it waits while no traverse does. -/
def execParsePacket (id : Nat) (ecc : EccFound) (s : State) : Result :=
  answer (
    let x := s.pkt id
    if x.stage = .parse ∧ s.headOfLine id x then
      match s.servedBy x.grp with
      | none => s
      | some t =>
        let s1 := s.parserEcc t ecc
        match s1.activeBank t with
        | none => ((s1.count (Page.prs t) PRS.C_NOT_READY).raise (Page.prs t) PRS.S_NOT_READY).dropPkt id
        | some bank => if s1.travIssues t then s1.parseUnder id t bank else s1
    else s)

/-! ## Indirect commands (R317, R325, R335, R337) -/

/-- Entries of each target. -/
def prsSize (tgt : Nat) : Nat :=
  match tgt with
  | 0 => 256
  | 1 => 1024
  | 2 => 1024
  | 3 => 16384
  | 4 => 34
  | 5 => 2
  | 6 => 1024
  | 7 => 16384
  | 8 => 256
  | 9 => 16384
  | _ => 0

/-- The words of target `tgt`, index `idx`, as a write stores them: reserved bits zero. -/
def prsStored (tgt idx : Nat) (d : List Word) : List Word :=
  let w (i : Nat) : Word := d.getD i 0
  match tgt with
  | 0 => [keep 0x7FFFF (w 0)]
  | 1 => [w 0, keep 0x80000000FFFF (w 1), w 2, keep 0xFFFF (w 3)]
  | 2 => [keep 0xFFFFFFFFFF80 (w 0), keep 0xFFFFFF800000 (w 1)] ++ (List.range 4).map (fun j => keep 0xFFFFFFFFFF (w (2 + j)))
  | 3 => [keep 0xFFFFFFFFFFF8 (w 0), keep 0x1F (w 1)]
  | 4 => [keep 0xFFFFFFE00000 (w 0)]
  | 5 => if idx = 0 then [keep 0xFFFFFFFF (w 0), keep 0x7FFFF (w 1)] else [w 0, w 1, w 2, w 3, w 4, keep 0xFFFF (w 5)]
  | 6 => [keep 0xFFFFFFF00000 (w 0)]
  | 7 => [keep 0xFFF000000000 (w 0)]
  | 8 => [keep 0xFF0000000000 (w 0)]
  | _ => [keep 0xBFF000000000 (w 0)]

/-- A format error of an action entry (R312, R313). -/
def actionBad (d : List Word) : Bool :=
  let bad (k : Nat) : Bool :=
    let e := extract d k
    extLen e == 7 || decide (167 < extWord e) || decide (6 < extShift e + extLen e)
  let d0 := d.getD 0 0
  (List.range 8).any bad || decide (8 < Word.bits (d.getD 1 0) 26 4)
    || (Word.bits d0 10 2 != 0 && extLen (extract d (Word.bits d0 7 3)) == 0)

/-- A write with code 6 (R337). -/
def prsBad (tgt : Nat) (d : List Word) : Bool :=
  let w := d.getD 0 0
  match tgt with
  | 2 => actionBad d
  | 3 => Word.bit w 47 && Word.bits w 45 2 == 0
  | 6 => Word.bits w 20 9 == 0 || decide (256 < Word.bits w 20 9) || decide (16384 < Word.bits w 29 14 + Word.bits w 20 9)
  | 7 => if Word.bit w 46 then decide (256 ≤ Word.bits w 36 10) else decide (768 ≤ Word.bits w 36 10)
  | 8 => decide (64 < Word.bits w 40 7)
  | 9 => decide (768 ≤ Word.bits w 36 10)
  | _ => false

/-- A command's fields (IND_CMD). -/
structure PrsCmd where
  tgt   : Nat
  op    : Nat
  bank  : Nat
  bcast : Bool
  idx   : Nat
deriving DecidableEq, Repr

def prsCmdOf (w : Word) : PrsCmd :=
  ⟨Word.bits w 44 4, Word.bits w 41 3, Word.bits w 40 1, Word.bit w 39, Word.bits w 0 16⟩

/-- An entry of a bank is stored, and the bank's VALID goes (R325). -/
def State.prsPut (s : State) (t bank tgt idx : Nat) (d : List Word) : State :=
  let s1 := s.setEnt tgt (bankInst t bank tgt) idx d
  if tgt < 6 then s1.setFlag (Page.prs t) (validFld bank) false else s1

/-- The copy of an LP_CLASS write of group `g` in T24's set `g` (R379). -/
def State.shadowPut (s : State) (g bank idx : Nat) (d : List Word) : State :=
  if ¬ s.powered (Page.trv 24) then s
  else if s.activeBank 24 = some bank then
    (s.setFld (Page.trv 24) TRV.TRV_STATUS_SHADOW_GROUP g).raise (Page.trv 24) TRV.S_SHADOW_STALE
  else s.prsPut 24 bank spLpClass (lpClassIdx 24 g idx) d

/-- WRITE in traverse `t`; `direct`: not by broadcast. -/
def State.prsWriteIn (s : State) (c : PrsCmd) (d : List Word) (direct : Bool) (t : Nat) : State × Nat :=
  if c.tgt = 3 ∨ prsSize c.tgt = 0 then (s, 1)
  else if prsSize c.tgt ≤ c.idx then (s, 2)
  else if c.tgt < 6 ∧ s.activeBank t = some c.bank then (s, 3)
  else if prsBad c.tgt (prsStored c.tgt c.idx d) then (s, 6)
  else
    let w := prsStored c.tgt c.idx d
    if c.tgt = 4 ∧ c.idx < 32 then
      if t = 24 then (if direct then (s.prsPut 24 c.bank 4 (lpClassIdx 24 s.shadowSet c.idx) w, 0) else (s, 0))
      else ((s.prsPut t c.bank 4 c.idx w).shadowPut t c.bank c.idx w, 0)
    else (s.prsPut t c.bank c.tgt c.idx w, 0)

/-- The way that an INSERT takes: that of the same key, else the lowest free one. -/
def State.insertWay (s : State) (t bank : Nat) (d : Word) : Option Nat :=
  let kind := Word.bits d 45 2
  let m := Word.bit d 44
  let sel := Word.bits d 39 5
  let v := Word.bits d 15 24
  let b := 4 * classSet kind m sel v
  (s.classFind t bank kind m sel v).orElse
    (fun _ => ((List.range 4).map (fun w => b + w)).find? (fun i => !Word.bit (s.prsWord t bank spClass i 0) 47))

def State.prsInsertIn (s : State) (c : PrsCmd) (d : List Word) (t : Nat) : State × Nat :=
  let w := prsStored 3 0 d
  if c.tgt ≠ 3 then (s, 1)
  else if s.activeBank t = some c.bank then (s, 3)
  else if prsBad 3 w then (s, 6)
  else match s.insertWay t c.bank (w.getD 0 0) with
    | some i => (s.prsPut t c.bank 3 i w, 0)
    | none => (s, 4)

def State.prsDeleteIn (s : State) (c : PrsCmd) (d : List Word) (t : Nat) : State × Nat :=
  let w := d.getD 0 0
  if c.tgt ≠ 3 then (s, 1)
  else if s.activeBank t = some c.bank then (s, 3)
  else match s.classFind t c.bank (Word.bits w 45 2) (Word.bit w 44) (Word.bits w 39 5) (Word.bits w 15 24) with
    | some i => (s.prsPut t c.bank 3 i [], 0)
    | none => (s, 5)

def State.prsValidateIn (s : State) (c : PrsCmd) (t : Nat) : State × Nat :=
  ((s.setFlag (Page.prs t) (validFld c.bank) true).setFld (Page.prs t) (genFld c.bank) c.idx, 0)

/-- The entries of a bank of traverse `t` go (R325, R326). -/
def State.emptyBank (s : State) (t bank : Nat) : State :=
  let s1 := { s with ents := s.ents.clear (fun k => decide (k / 2 ^ 48 < 6) && k / 2 ^ 32 % 2 ^ 16 == 2 * t + bank) }
  s1.setFlag (Page.prs t) (validFld bank) false

def State.prsClearIn (s : State) (c : PrsCmd) (t : Nat) : State × Nat :=
  if s.activeBank t = some c.bank then (s, 3) else (s.emptyBank t c.bank, 0)

/-- Active members of a LAG (R333): entries in order. -/
def State.lagActive (s : State) (t lag : Nat) (up : Nat → Bool) : List Nat :=
  let n := Word.bits (s.prsWord t 0 spLagGroup lag 0) 40 7
  (List.range n).filter (fun m =>
    let e := s.prsWord t 0 spLagMember (64 * lag + m) 0
    Word.bit e 47 && up (Word.bits e 36 10))

/-- The logical port is UP or REDUCED (R256). -/
def State.lpIsUp (s : State) (lp : Nat) : Bool :=
  let v := s.fld (Page.pen (lp / 4)) PEN.LP_STATUS_LSTATE (lp % 4)
  v == 2 || v == 3

/-- READ fills the data words of the issuing page; a LAG group shows ACTIVE (R337). -/
def State.prsReadIn (s : State) (c : PrsCmd) (t : Nat) : State × Nat :=
  if prsSize c.tgt = 0 then (s, 1)
  else if prsSize c.tgt ≤ c.idx then (s, 2)
  else
    let idx := if c.tgt = 4 then lpClassIdx t s.shadowSet c.idx else c.idx
    let e := s.ent c.tgt (bankInst t c.bank c.tgt) idx
    let l := if c.tgt = 8 then [Word.setBits (e.getD 0 0) 33 7 (s.lagActive t c.idx s.lpIsUp).length] else e
    (s.fillData (Page.prs t) PRS.IND_DATA 6 l, 0)

/-- A write of PRS.IND_CMD, by its OP. -/
def State.prsCommand (s : State) (r : Req) (t : Nat) (data : Word) : State :=
  let p := Page.prs t
  s.indCommand r p PRS.IND_CMD prsInd fun s =>
    let c := prsCmdOf data
    let d := s.indData p PRS.IND_DATA 6
    match c.op with
    | 0 => let y := s.prsReadIn c t; (y.1, y.2, false)
    | 1 => s.forTraverses t c.bcast (fun s u => s.prsWriteIn c d (!c.bcast) u)
    | 2 => s.forTraverses t c.bcast (fun s u => s.prsInsertIn c d u)
    | 3 => s.forTraverses t c.bcast (fun s u => s.prsDeleteIn c d u)
    | 4 => s.forTraverses t c.bcast (fun s u => s.prsValidateIn c u)
    | 5 => s.forTraverses t c.bcast (fun s u => s.prsClearIn c u)
    | _ => (s, 1, false)

def execPrsIndRead (r : Req) (t : Fin 25) (data : Word) (s : State) : Result := answer (s.prsCommand r t data)
def execPrsIndWrite (r : Req) (t : Fin 25) (data : Word) (s : State) : Result := answer (s.prsCommand r t data)
def execPrsIndInsert (r : Req) (t : Fin 25) (data : Word) (s : State) : Result := answer (s.prsCommand r t data)
def execPrsIndDelete (r : Req) (t : Fin 25) (data : Word) (s : State) : Result := answer (s.prsCommand r t data)
def execPrsIndValidate (r : Req) (t : Fin 25) (data : Word) (s : State) : Result := answer (s.prsCommand r t data)
def execPrsIndClear (r : Req) (t : Fin 25) (data : Word) (s : State) : Result := answer (s.prsCommand r t data)

/-! ## Flips (R327 to R330) -/

/-- A scheduled flip is no longer armed. -/
def State.disarm (s : State) (t : Nat) : State :=
  (s.setFlag (Page.prs t) PRS.FLIP_CTL_ARM false).setFlag (Page.prs t) PRS.BANK_STATUS_ARMED false

/-- The bank that a flip would make active. -/
def State.flipTo (s : State) (t : Nat) : Nat :=
  match s.activeBank t with
  | some b => 1 - b
  | none => if s.bankValid t 0 then 0 else 1

/-- The other bank becomes active, or the flip is refused. -/
def State.flip (s : State) (t : Nat) : State :=
  let p := Page.prs t
  let b := s.flipTo t
  if s.bankValid t b then
    let s1 := ((s.disarm t).setFld p PRS.BANK_STATUS_ACTIVE_BANK b).setFlag p PRS.BANK_STATUS_ACTIVE_VALID true
    ((s1.count p PRS.C_FLIPS).raise p PRS.S_FLIP_DONE).setFld p PRS.FLIP_STAMP_TIME s1.stamp32
  else s.raise p PRS.S_FLIP_REFUSED

/-- The armed instant, in nanoseconds of W. -/
def State.flipAt (s : State) (t : Nat) : Nat :=
  s.fld (Page.prs t) PRS.FLIP_SEC_SECONDS * 1000000000 + s.fld (Page.prs t) PRS.FLIP_NS_NS

/-- ARM: refused for an impossible NS; late flips at once (R328, R329). -/
def State.armFlip (s : State) (t : Nat) : State :=
  let p := Page.prs t
  if 999999999 < s.fld p PRS.FLIP_NS_NS then s.raise p PRS.S_FLIP_REFUSED
  else if s.wOn ∧ s.flipAt t < s.wNs + 1000 then ((s.flip t).disarm t).raise p PRS.S_FLIP_LATE
  else (s.setFlag p PRS.FLIP_CTL_ARM true).setFlag p PRS.BANK_STATUS_ARMED true

/-- A write of FLIP_CTL: the bits it carries act in the order DISARM, ARM, FLIP_NOW; a 32-bit write carries ARM alone. -/
def State.flipCtl (s : State) (r : Req) (t : Nat) (data : Word) : State :=
  s.hostWriteParts r (Page.prs t) PRS.FLIP_CTL 5 data fun s =>
    let whole := r.size == .w64
    let s1 := if whole && Word.bit data 2 then s.disarm t else s
    let s2 := if r.size != .hi && Word.bit data 1 then s1.armFlip t else s1
    if whole && Word.bit data 0 then s2.flip t else s2

def execFlipNow (r : Req) (t : Fin 25) (data : Word) (s : State) : Result := answer (s.flipCtl r t data)
def execFlipArm (r : Req) (t : Fin 25) (data : Word) (s : State) : Result := answer (s.flipCtl r t data)
def execFlipDisarm (r : Req) (t : Fin 25) (data : Word) (s : State) : Result := answer (s.flipCtl r t data)

/-- The armed flip at its instant; with W out of service it never fires (R329). -/
def execScheduledFlip (t : Fin 25) (s : State) : Result :=
  answer (if s.flag (Page.prs t) PRS.BANK_STATUS_ARMED && s.wOn && decide (s.flipAt t ≤ s.wNs) && s.reached t then
      (s.flip t).disarm t
    else s)

/-! ## Memory protection (R336) -/

/-- A scrub finds an error in bank A or B, or in a spreading table (`bank` 2). -/
def execPrsScrub (t : Fin 25) (ecc : EccFound) (bank : Fin 3) (s : State) : Result :=
  answer (match ecc with
    | .lost =>
      if bank.val < 2 ∧ s.activeBank t ≠ some bank.val then
        (s.setFlag (Page.prs t) (validFld bank) false).raise (Page.prs t) PRS.S_BANK_LOST
      else s.raise (Page.prs t) PRS.S_PRS_MEM_FAIL
    | e => s.parserEcc t e)

end Sys2Proof.Machine
end

