-- ==== Sys2Proof/Machine/Stations.lean ====
section
/-!
DEFINITION. Sys2Proof/Machine/Stations.lean: the stations of a traverse: logical tables, stateful elements, action instructions, and
the station's registers (11_traverses.md).
Readings and choices (notes/assumptions): DEDUCED 24, 48, 49.
-/
namespace Sys2Proof.Machine

/-- The instance that holds the memories of station `k` of traverse `t`. -/
def stnInst (t k : Nat) : Nat := 20 * t + k

/-! ## Stateful elements (R354 to R358) -/

/-- SE_CFG of element `e` of a station. -/
def State.seCfg (s : State) (t k e : Nat) : Word := s.reg (Page.stn t k) STN.SE_CFG e

/-- Entries of an element: 2,048 meters, 4,096 counters or 8,192 cells a block. -/
def seCapacity (c : Word) : Nat :=
  match Word.bits c 46 2 with
  | 1 => Word.bits c 30 8 * 2048
  | 2 => Word.bits c 30 8 * 4096
  | 3 => Word.bits c 30 8 * 8192
  | _ => 0

def seKey (t k e i : Nat) : Nat := ((t * 20 + k) * 8 + e) * 2 ^ 21 + i
def State.se (s : State) (t k e i : Nat) : SeEntry := s.seEnts.get (seKey t k e i) dflt.seEntry
def State.setSe (s : State) (t k e i : Nat) (x : SeEntry) : State := { s with seEnts := s.seEnts.set (seKey t k e i) x dflt.seEntry }

/-- One byte or packet in the unit that buckets are held in, and what one unit of rate adds in 1 µs: 1 kb/s, or 1 packet/s. -/
def meterUnit : Nat := 1000000
def rateStep (pkt : Bool) : Nat := if pkt then 1 else 125

/-- The buckets of a meter at `now` (R355): RFC 2697 fills the second from what the first cannot hold; RFC 2698 fills each at its
rate. -/
def meterFill (x : SeEntry) (pkt : Bool) (now : Nat) : SeEntry :=
  let cb := x.cbs * meterUnit
  let eb := x.ebs * meterUnit
  if x.fresh then { x with fresh := false, tc := cb, te := eb, upto := now }
  else
    let dt := now - x.upto
    let add := x.cir * rateStep pkt * dt
    let te := if x.mode = 0 then x.te + (x.tc + add - cb) else x.te + x.pir * rateStep pkt * dt
    { x with tc := Nat.min cb (x.tc + add), te := Nat.min eb te, upto := now }

/-- RFC 2697 and RFC 2698 on `b` units under input colour `col` (0 green, 1 yellow, 2 or 3 red): the entry and the colour. -/
def meterMark (x : SeEntry) (b col : Nat) : SeEntry × Nat :=
  if x.mode = 0 then
    if col = 0 ∧ b ≤ x.tc then ({ x with tc := x.tc - b }, 0)
    else if col ≤ 1 ∧ b ≤ x.te then ({ x with te := x.te - b }, 1)
    else (x, 2)
  else
    if 2 ≤ col ∨ x.te < b then (x, 2)
    else if col = 1 ∨ x.tc < b then ({ x with te := x.te - b }, 1)
    else ({ x with tc := x.tc - b, te := x.te - b }, 0)

/-- The update of a cell `v` by operand `x` (R357). -/
def cellOp (op v x : Nat) : Nat :=
  match op with
  | 1 => x
  | 2 => Nat.min (v + x) (2 ^ 48 - 1)
  | 3 => v - x
  | 4 => Nat.max v x
  | 5 => Nat.min v x
  | 6 => Nat.lor v x
  | 7 => v - Nat.land v x
  | 8 => if v = 0 then x else v
  | 9 => if v < x then v + 1 else 0
  | _ => v

/-! ## Operands (R350) -/

/-- What the operands of a station's instructions draw on: its number, the input PHV, action data, results of the elements. -/
structure Src where
  station : Nat
  phv     : Pkt
  act     : Nat
  results : List Nat

/-- A signed 9-bit immediate in `w` bits. -/
def immediate (v w : Nat) : Nat := if v < 256 then v % 2 ^ w else (2 ^ 64 - 512 + v) % 2 ^ w

/-- The value of operand `o` in `w` bits, at destination bit `lsb`; `rnd`: the random bits drawn for this instruction. -/
def operand (q : Src) (rnd o lsb w : Nat) : Nat :=
  let v := o % 512
  match o / 512 with
  | 0 => q.phv.bits (v % 256) lsb w
  | 1 => q.act / 2 ^ (v % 256) % 2 ^ w
  | 2 => immediate v w
  | _ =>
    (if v < 8 then q.results.getD v 0
     else if v = 8 then q.phv.frameLen
     else if v = 9 then rnd
     else if v = 10 then q.station
     else 0) % 2 ^ w

/-- The operand of a CELL element (R357). A result of an element, and a reserved operand, are values that the spec does not give
here: free. -/
def State.cellOperand (s : State) (q : Src) (o : Nat) : State × Nat :=
  let v := o % 512
  if o / 512 = 3 ∧ (v < 8 ∨ v = 9 ∨ 10 < v) then (s.drawn, if v = 9 then s.free % 2 ^ 32 else s.free)
  else (s, operand q 0 o 0 48)

/-- A hit that names element `e` at index `i` updates the entry: the state and the element's result. -/
def State.updateElement (s : State) (t k : Nat) (q : Src) (e i : Nat) : State × Nat :=
  let c := s.seCfg t k e
  if seCapacity c ≤ i then
    if Word.bits c 46 2 = 0 then (s, 0)
    else ((s.count (Page.stn t k) STN.C_SE_RANGE).raise (Page.stn t k) STN.S_SE_RANGE, 0)
  else
    let x := s.se t k e i
    match Word.bits c 46 2 with
    | 1 =>
      let pkt := Word.bit c 28
      let col := if Word.bit c 29 then q.phv.bits (Word.bits c 20 8) (Word.bits c 14 6) 2 else 0
      let b := if pkt then meterUnit else q.phv.frameLen * meterUnit
      let y := meterMark (meterFill x pkt s.time.us) b col
      (s.setSe t k e i y.1, y.2)
    | 2 =>
      let n := x.pkts + 1
      let m := x.byts + q.phv.frameLen
      (s.setSe t k e i { x with
        pkts := n % 2 ^ 48, byts := m % 2 ^ 48, wrapP := x.wrapP || decide (2 ^ 48 ≤ n), wrapB := x.wrapB || decide (2 ^ 48 ≤ m) },
        x.pkts)
    | _ =>
      let o := s.cellOperand q (Word.bits c 14 11)
      let v := cellOp (Word.bits c 26 4) x.cell o.2 % 2 ^ 48
      (o.1.setSe t k e i { x with cell := v }, if Word.bit c 25 then v else x.cell)

/-! ## Match units (R346, R347) -/

/-- LT_CFG of logical table `i`. -/
def State.ltCfg (s : State) (t k i : Nat) : Word := s.reg (Page.stn t k) STN.LT_CFG i

/-- LT `i` takes part and its gate applies it. -/
def State.ltApplies (s : State) (t k i : Nat) (x : Pkt) : Bool :=
  let c := s.ltCfg t k i
  Nat.bitAt (s.fld (Page.stn t k) STN.STN_CFG_LT_EN) i
    && (!Word.bit c 28 || x.bit (Word.bits c 19 8) (Word.bits c 13 6) == Word.bit c 27)

/-- The key of LT `i`: its valid fields, field 0 the most significant (R346, R393). -/
def State.ltKey (s : State) (t k i : Nat) (x : Pkt) : Nat :=
  (List.range 8).foldl (fun v f =>
    let w := s.reg (Page.stn t k) STN.KEYF (8 * i + f)
    if Word.bit w 47 then v * 2 ^ (Word.bits w 24 6 + 1) + x.bits (Word.bits w 36 8) (Word.bits w 30 6) (Word.bits w 24 6 + 1)
    else v) 0

/-- The match phase so far: tables that hit and that were applied, programs to run (table, program, action data), results of the
elements, learn requests, and the flood group of a miss. -/
structure Match where
  st      : State
  hits    : Nat := 0
  applied : Nat := 0
  progs   : List (Nat × Nat × Nat) := []
  results : List Nat := List.replicate 8 0
  learns  : List Learn := []
  flood   : Option Nat := none

/-- The learn request that a lookup raises (R413). -/
def learnOf (d : Desc) (tb key : Nat) (x : Pkt) (hit : Option TEntry) : List Learn :=
  let v := x.bits d.learnWord d.learnLsb d.learnW
  if d.type = 1 ∧ d.learn then
    match hit with
    | none => [⟨tb, x.phvParcel, key, v, false⟩]
    | some e => if e.learned && d.move && e.act % 2 ^ d.learnW != v then [⟨tb, x.phvParcel, key, v, true⟩] else []
  else []

/-- One logical table of the match phase. -/
def Match.table (m : Match) (t k : Nat) (x : Pkt) (i : Nat) : Match :=
  if m.st.ltApplies t k i x then
    let c := m.st.ltCfg t k i
    let tb := Word.bits c 38 10
    let d := m.st.desc t tb
    let key := m.st.ltKey t k i x % 2 ^ d.keyBits
    let par := x.phvParcel
    let a : EvAttr := { parcel := some par, tc := some x.phvTc, addr := some tb }
    let y := m.st.look t tb par key
    let m1 := { m with applied := m.applied + 2 ^ i }
    let learn (hit : Option TEntry) : List Learn := if k < 12 then learnOf d tb key x hit else []
    match y.2 with
    | .hit _ e =>
      let s1 := y.1.survey 13 a
      let m2 := { m1 with hits := m1.hits + 2 ^ i, progs := m1.progs ++ [(i, e.prog, e.act)], learns := m1.learns ++ learn (some e) }
      match e.se with
      | none => { m2 with st := s1 }
      | some (el, ix) =>
        let z := s1.updateElement t k ⟨k, x, e.act, m2.results⟩ el ix
        { m2 with st := z.1, results := m2.results.set el z.2 }
    | l =>
      let s1 := y.1.survey 14 a
      let pend := l == .pend && d.pend
      let prog := if pend then some d.pendProg else if Word.bit c 3 then some (Word.bits c 4 9) else none
      { m1 with
        st := s1, learns := m1.learns ++ learn none,
        progs := m1.progs ++ (prog.map (fun p => (i, p, 0))).toList,
        flood := if d.flood then (s1.floodGroup t par).orElse (fun _ => m1.flood) else m1.flood }
  else m

/-! ## Action instructions (R348 to R352) -/

/-- The fields of an instruction (R349). -/
def insOp (w : Word) : Nat := Word.bits w 42 6
def insDst (w : Word) : Nat := Word.bits w 34 8
def insLsb (w : Word) : Nat := Word.bits w 28 6
def insW (w : Word) : Nat := Word.bits w 22 6 + 1
def insA (w : Word) : Nat := Word.bits w 11 11
def insB (w : Word) : Nat := Word.bits w 0 11

/-- The opcodes that write `a op b` in `w` bits, by OP. -/
def aluOp (op a b w : Nat) : Nat :=
  let top := 2 ^ w
  match op with
  | 0x02 => (a + b) % top
  | 0x03 => (a + top - b) % top
  | 0x04 => Nat.min (a + b) (top - 1)
  | 0x05 => a - b
  | 0x06 => Nat.land a b
  | 0x07 => Nat.lor a b
  | 0x08 => Nat.xor a b
  | 0x09 => a - Nat.land a b
  | 0x0A => Nat.min a b
  | 0x0B => Nat.max a b
  | 0x0C => a * 2 ^ (b % 64) % top
  | 0x0D => a / 2 ^ (b % 64)
  | 0x0F => (a + b) % 65536 + (a + b) / 65536
  | _ => a

/-- DROP and DROP_CODE set in the disposition word of the path (R351). -/
def Pkt.setDrop (x : Pkt) (egress : Bool) (code : Nat) : Pkt :=
  let w := if egress then 186 else 183
  (x.setBits w 47 1 1).setBits w 40 7 code

/-- A PUSH fills the first free record of word 191; `none` where both are taken. -/
def Pkt.push (x : Pkt) (at_ tpl : Nat) : Option Pkt :=
  let v := 2 ^ 23 + at_ * 2 ^ 17 + tpl * 2 ^ 11
  if !x.bit 191 47 then some (x.setBits 191 24 24 v)
  else if !x.bit 191 23 then some (x.setBits 191 0 24 v)
  else none

/-- One instruction: it reads the input (`q`) and writes into the output. -/
def State.instruction (s : State) (t k : Nat) (q : Src) (w : Word) (out : Pkt) : State × Pkt :=
  let op := insOp w
  let lsb := insLsb w
  let wd := insW w
  let a := insA w
  let b := insB w
  let draws := a == 3 * 512 + 9 || b == 3 * 512 + 9
  let rnd := if draws then s.free % 2 ^ 32 else 0
  let s1 := if draws then s.drawn else s
  let va := operand q rnd a lsb wd
  let vb := operand q rnd b lsb wd
  let put (v : Nat) : Pkt := out.setBits (insDst w) lsb wd v
  match op with
  | 0x00 => (s, out)
  | 0x0E => (s1, if vb = 0 then out else put va)
  | 0x10 => (s, put (q.phv.bits (a % 256) (b % 512) wd))
  | 0x11 => (s1, if 2 ≤ va then put (va - 1) else (put 0).setDrop (decide (12 ≤ k)) (b % 128))
  | 0x20 =>
    match out.push (Word.bits w 36 6) (Word.bits w 30 6) with
    | some y => (s, y)
    | none => ((s.count (Page.stn t k) STN.C_PUSH_OVERFLOW).raise (Page.stn t k) STN.S_PUSH_OVERFLOW, out)
  | 0x21 =>
    let i := Word.bits w 37 5
    (s, if i < q.phv.hdrCount then out.setBits 190 (16 + i) 1 1 else out)
  | 0x22 =>
    let type := Word.bits w 36 6
    match (List.range q.phv.hdrCount).find? (fun i => q.phv.hdrType i == type && !q.phv.bit 190 (16 + i)) with
    | some i => (s, out.setBits 190 (16 + i) 1 1)
    | none => (s, out)
  | _ => (s1, put (aluOp op va vb wd))

/-- The slots that LT `i` fills with program `p` (R348): slot, instruction, action data; and the instructions cut off. -/
def State.slotsOf (s : State) (t k i p act : Nat) : List (Nat × Word × Nat) × Nat :=
  let e := s.entWord spProgram (stnInst t k) p 0
  let start := Word.bits e 0 12
  let len := Word.bits e 12 4 + 1
  let c := s.ltCfg t k i
  let n := Nat.min len (Word.bits c 29 5)
  ((List.range n).map (fun j => (Word.bits c 34 4 + j, s.entWord spCode (stnInst t k) (start + j) 0, act)), len - n)

/-- The action phase: slots in ascending order, all reading the input; a flood group is written below slot 0 (R418). -/
def Match.act (m : Match) (t k : Nat) (x : Pkt) : State × Pkt :=
  let l := m.progs.map (fun p => m.st.slotsOf t k p.1 p.2.1 p.2.2)
  let slots := (l.flatMap (·.1)).mergeSort (fun a b => decide (a.1 ≤ b.1))
  let cut := (l.map (·.2)).foldl (· + ·) 0
  let s1 := if cut = 0 then m.st else (m.st.count (Page.stn t k) STN.C_SLOT_TRUNC cut).raise (Page.stn t k) STN.S_SLOT_TRUNC
  let out := match m.flood with
    | some g => ((x.setBits 183 39 1 1).setBits 183 36 3 1).setBits 183 16 20 g
    | none => x
  slots.foldl (fun y sl => y.1.instruction t k ⟨k, x, sl.2.2, m.results⟩ sl.2.1 y.2) (s1, out)

/-! ## A packet passes a station -/

/-- A sprayed packet is dropped before it leaves (R433). -/
def State.sentDropped (s : State) (x : Pkt) : State :=
  match x.outShim with
  | some _ => s.count Page.spr SPR.C_SENT_DROPPED
  | none => s

/-- A checking drop (codes 120 to 122) at a station or deparser, counted with the drops of its path. -/
def State.checkDrop (s : State) (t id code : Nat) (egress : Bool) : State :=
  let s1 := s.count (Page.res t) (if egress then RES.C_DROPS_EG else RES.C_DROPS_IN) 1 code
  (if egress then s1.sentDropped (s1.pkt id) else s1).dropPkt id

/-- The point of the trace record of station `k`. -/
def Match.point (m : Match) (k : Nat) (x : Pkt) (dropped : Bool) : Point :=
  let prog (i : Nat) : Nat := match m.progs.find? (fun p => p.1 == i) with
    | some p => 2 ^ 15 + p.2.1
    | none => 0
  { point := k, copy := if k < 12 then 0 else x.copyIx, lp := if k < 12 then x.ingressLp else x.outLp, hits := m.hits,
    applied := m.applied, progs := (List.range 8).map prog, disp := (x.word (if k < 12 then 183 else 186)).toNat, dropped := dropped }

/-- Entry into the path: counted; staking is decided at station 0 (R580). -/
def State.enterPath (s : State) (t k id : Nat) : State :=
  if k = 0 then (s.count (Page.trv t) TRV.C_ING_PACKETS).stakeSelect t id
  else if k = 12 then s.count (Page.trv t) TRV.C_EGR_PACKETS
  else s

def nextStage (k : Nat) : Stage := if k = 11 then .resolve else .station (k + 1)

/-- What an error that the station finds as it works does; the checking code of the drop that follows. -/
def State.stnError (s : State) (t k : Nat) (u : StnUpset) : State × Option Nat :=
  let p := Page.stn t k
  match u with
  | .none => (s, none)
  | .parity => ((s.count p STN.C_PHV_PARITY).raise p STN.S_PHV_PARITY, some 120)
  | .alu => ((s.count p STN.C_ALU_CHECK).raise p STN.S_ALU_CHECK, some 121)
  | .codeFixed => ((s.count p STN.C_SCRUB_FIXED).raise p STN.S_SCRUB_FIXED, none)
  | .codeLost => (s.raise p STN.S_STN_MEM_FAIL, some 122)
  | .entryLost tb i => (s.entryLost t tb i, some 122)
  | .elementLost => (s.raise (Page.tbc t) TBC.S_TBL_MEM_FAIL, some 122)

/-- The end of station 19 (R363): a packet with DROP is dropped, any other passes to the deparser. -/
def State.egressEnd (s : State) (t id : Nat) : State :=
  let x := s.pkt id
  if x.bit 186 47 then
    let code := x.bits 186 40 7
    let s1 := (s.count (Page.res t) RES.C_DROPS_EG 1 code).survey 5
      { parcel := some x.phvParcel, tc := some x.phvTc, addr := some code }
    (s1.sentDropped x).dropPkt id
  else s.setPkt id { x with stage := .deparse }

/-- Packet `id` passes station `k` of traverse `t`. -/
def State.station (s : State) (t k id : Nat) (u : StnUpset) : State :=
  let s0 := (s.enterPath t k id).count (Page.stn t k) STN.C_PACKETS
  let x := s0.pkt id
  let m : Match := if u = .parity then { st := s0 } else (List.range 8).foldl (fun m i => m.table t k x i) { st := s0 }
  let e := m.st.stnError t k u
  match e.2 with
  | some code => (e.1.trace t x (m.point k x true)).checkDrop t id code (decide (12 ≤ k))
  | none =>
    let y := ({ m with st := e.1 } : Match).act t k x
    let x1 := { y.2 with learns := y.2.learns ++ m.learns }
    let gone := k == 19 && x1.bit 186 47
    let s1 := (y.1.setPkt id x1).trace t x1 (m.point k x1 gone)
    if k = 19 then s1.egressEnd t id else s1.setPkt id { s1.pkt id with stage := nextStage k }

/-- A packet passes the station that it stands at, in the order of its path (R339), while its traverse issues packets. -/
def execStationProcess (id : Nat) (upset : StnUpset) (s : State) : Result :=
  answer (
    let x := s.pkt id
    match x.stage with
    | .station k => if s.isFirst x && s.travIssues x.trav && decide (k < 20) then s.station x.trav k id upset else s
    | _ => s)

/-! ## Scrub (R371) -/

/-- The scrub of a station, or of the deparser as unit 20. -/
def execStnScrub (t : Fin 25) (unit : Fin 21) (ecc : EccFound) (s : State) : Result :=
  answer (
    let p := if unit.val = 20 then Page.dpr t else Page.stn t unit
    match ecc with
    | .clean => s
    | .fixed =>
      if unit.val = 20 then (s.count p DPR.C_SCRUB_FIXED).raise p DPR.S_SCRUB_FIXED
      else (s.count p STN.C_SCRUB_FIXED).raise p STN.S_SCRUB_FIXED
    | .lost => s.raise p (if unit.val = 20 then DPR.S_DPR_MEM_FAIL else STN.S_STN_MEM_FAIL))

/-! ## Configuration writes (R348, R391) -/

/-- The slots of an LT_CFG value. -/
def ltSlots (c : Word) : Nat × Nat := (Word.bits c 34 4, Word.bits c 29 5)

/-- Slot ranges overlap. -/
def slotsMeet (a b : Nat × Nat) : Bool := meet a.1 a.2 b.1 b.2

/-- Two enabled tables of a station have slots in common. -/
def State.enClash (s : State) (t k en : Nat) : Bool :=
  let c (i : Nat) : Nat × Nat := ltSlots (s.ltCfg t k i)
  (List.range 8).any (fun i => (List.range 8).any (fun j =>
    decide (i < j) && Nat.bitAt en i && Nat.bitAt en j && slotsMeet (c i) (c j)))

/-- A write of LT_CFG `lt`, or of STN_CFG (LT_EN). -/
def execLtCfgWrite (r : Req) (t : Fin 25) (k : Fin 20) (lt : Option (Fin 8)) (data : Word) (s : State) : Result :=
  answer (
    let p := Page.stn t k
    match lt with
    | none => s.hostWrite r p STN.STN_CFG 0 false fun s =>
      let en := Word.bits (mergeHalf r.size (s.reg p STN.STN_CFG) data) 0 8
      if s.enClash t k en then s.raise p STN.S_LT_INVALID else s.setFld p STN.STN_CFG_LT_EN en
    | some i => s.hostWrite r p STN.LT_CFG i false fun s =>
      let c := keep 0xFFFFFFFFFFF8 (mergeHalf r.size (s.ltCfg t k i) data)
      let q := ltSlots c
      let others := (List.range 8).any (fun j =>
        j != i.val && Nat.bitAt (s.fld p STN.STN_CFG_LT_EN) j && slotsMeet q (ltSlots (s.ltCfg t k j)))
      if decide (16 < q.1 + q.2) || others then s.raise p STN.S_LT_INVALID else s.setReg p STN.LT_CFG c i)

/-- A write of SE_CFG: refused where its blocks pass the end of the memory or belong to a table or another element. -/
def execSeCfgWrite (r : Req) (t : Fin 25) (k : Fin 20) (e : Fin 8) (data : Word) (s : State) : Result :=
  answer (
    let p := Page.stn t k
    s.hostWrite r p STN.SE_CFG e false fun s =>
      let c := keep 0xFFFFFFFFC000 (mergeHalf r.size (s.seCfg t k e) data)
      let base := Word.bits c 38 8
      let n := Word.bits c 30 8
      let bad := Word.bits c 46 2 != 0
        && (n == 0 || decide (160 < base + n) || s.tableMeets t 1024 base n 0 0 || s.elementMeets t (8 * k.val + e.val) base n)
      if bad then s.raise p STN.S_LT_INVALID else s.setReg p STN.SE_CFG c e)

/-! ## Indirect commands (R353, R388) -/

/-- An operand that R350 allows, used at width `w`. -/
def operandGood (o w : Nat) : Bool :=
  let v := o % 512
  match o / 512 with
  | 0 => decide (v < 192)
  | 1 => decide (v + w ≤ 256)
  | 2 => true
  | _ => decide (v ≤ 10)

/-- An instruction that R353 lets in. -/
def instrGood (w : Word) : Bool :=
  let op := insOp w
  let dst := insDst w
  let wd := insW w
  let a := insA w
  let b := insB w
  if op = 0x00 then w == 0
  else if op = 0x20 then Word.bits w 0 30 == 0 && decide (Word.bits w 36 6 ≤ 32)
  else if op = 0x21 then Word.bits w 0 37 == 0
  else if op = 0x22 then Word.bits w 0 36 == 0
  else
    decide (op ≤ 0x11) && decide (insLsb w + wd ≤ 48) && (decide (dst < 168) || (decide (183 ≤ dst) && decide (dst ≤ 189)))
      && operandGood a wd && operandGood b wd
      && (op != 0x0F || wd == 16)
      && (op != 0x10 || (decide (a < 512) && b / 512 == 2 && decide (b % 512 + wd ≤ 48)))
      && (op != 0x11 || (b / 512 == 2 && decide (b % 512 ≤ 119)))

/-- An element entry as data words, and as they write it: a write fills a meter's buckets; a wrap bit is cleared by a 1 (R562). -/
def seWords (kind : Nat) (x : SeEntry) : List Word :=
  match kind with
  | 1 => [BitVec.ofNat 48 (x.mode * 2 ^ 47 + x.cir), BitVec.ofNat 48 x.pir, BitVec.ofNat 48 x.cbs, BitVec.ofNat 48 x.ebs]
  | 2 => [BitVec.ofNat 48 x.pkts, BitVec.ofNat 48 x.byts, BitVec.ofNat 48 (2 * b2n x.wrapB + b2n x.wrapP)]
  | _ => [BitVec.ofNat 48 x.cell]

def seWrite (kind : Nat) (x : SeEntry) (d : List Word) : SeEntry :=
  let w (i : Nat) : Word := d.getD i 0
  match kind with
  | 1 => { x with mode := Word.bits (w 0) 47 1, cir := Word.bits (w 0) 0 32, pir := Word.bits (w 1) 0 32, cbs := Word.bits (w 2) 0 28,
                  ebs := Word.bits (w 3) 0 28, fresh := true, tc := 0, te := 0, upto := 0 }
  | 2 => { x with pkts := (w 0).toNat, byts := (w 1).toNat, wrapP := x.wrapP && !Word.bit (w 2) 0,
                  wrapB := x.wrapB && !Word.bit (w 2) 1 }
  | _ => { x with cell := (w 0).toNat }

/-- A station command: target, operation, element, index. -/
structure StnCmd where
  tgt : Nat
  op  : Nat
  el  : Nat
  idx : Nat

def stnCmdOf (data : Word) : StnCmd := ⟨Word.bits data 45 3, Word.bits data 43 2, Word.bits data 39 3, Word.bits data 0 21⟩

/-- The code that refuses a command in traverse `t`; 0: none. -/
def State.stnRefused (s : State) (t k : Nat) (c : StnCmd) : Nat :=
  let kind := Word.bits (s.seCfg t k c.el) 46 2
  if 2 < c.tgt ∨ c.op = 3 then 1
  else if c.op = 2 ∧ (c.tgt ≠ 2 ∨ (kind ≠ 2 ∧ kind ≠ 0)) then 1
  else if c.tgt = 0 then (if c.idx < 4096 then 0 else 2)
  else if c.tgt = 1 then (if c.idx < 512 then 0 else 2)
  else if kind = 0 then 5
  else if c.idx < seCapacity (s.seCfg t k c.el) then 0
  else 2

/-- READ and READ_CLEAR fill the data words of the issuing page. -/
def State.stnReadIn (s : State) (t k : Nat) (c : StnCmd) : State × Nat :=
  let p := Page.stn t k
  let bad := s.stnRefused t k c
  if bad ≠ 0 then (s, bad)
  else if c.tgt = 0 then (s.fillData p STN.IND_DATA 4 (s.ent spCode (stnInst t k) c.idx), 0)
  else if c.tgt = 1 then (s.fillData p STN.IND_DATA 4 (s.ent spProgram (stnInst t k) c.idx), 0)
  else
    let x := s.se t k c.el c.idx
    let s1 := s.fillData p STN.IND_DATA 4 (seWords (Word.bits (s.seCfg t k c.el) 46 2) x)
    (if c.op = 2 then s1.setSe t k c.el c.idx { x with pkts := 0, byts := 0, wrapP := false, wrapB := false } else s1, 0)

/-- WRITE in traverse `t`. -/
def State.stnWriteIn (s : State) (k : Nat) (c : StnCmd) (d : List Word) (t : Nat) : State × Nat :=
  let bad := s.stnRefused t k c
  let w := d.getD 0 0
  if bad ≠ 0 then (s, bad)
  else if c.tgt = 0 then (if instrGood w then (s.setEnt spCode (stnInst t k) c.idx [w], 0) else (s, 6))
  else if c.tgt = 1 then
    if Word.bits w 0 12 + Word.bits w 12 4 + 1 ≤ 4096 then (s.setEnt spProgram (stnInst t k) c.idx [keep 0xFFFF w], 0) else (s, 6)
  else
    let kind := Word.bits (s.seCfg t k c.el) 46 2
    (s.setSe t k c.el c.idx (seWrite kind (s.se t k c.el c.idx) d), 0)

/-- READ_CLEAR in traverse `t`, whose issuing page takes the data. -/
def State.stnClearIn (s : State) (k : Nat) (c : StnCmd) (home : Nat) (t : Nat) : State × Nat :=
  if t = home then s.stnReadIn t k c
  else
    let bad := s.stnRefused t k c
    if bad ≠ 0 then (s, bad)
    else (s.setSe t k c.el c.idx { s.se t k c.el c.idx with pkts := 0, byts := 0, wrapP := false, wrapB := false }, 0)

/-- A write of a station's IND_CMD, by its OP. -/
def State.stnCommand (s : State) (r : Req) (t k : Nat) (data : Word) : State :=
  let p := Page.stn t k
  s.indCommand r p STN.IND_CMD stnInd fun s =>
    let c := stnCmdOf data
    let d := s.indData p STN.IND_DATA 4
    let all := Word.bit data 42
    match c.op with
    | 0 => let y := s.stnReadIn t k c; (y.1, y.2, false)
    | 2 => s.forTraverses t all (fun s u => s.stnClearIn k c t u)
    | _ => s.forTraverses t all (fun s u => s.stnWriteIn k c d u)

def execStnIndRead (r : Req) (t : Fin 25) (k : Fin 20) (data : Word) (s : State) : Result := answer (s.stnCommand r t k data)
def execStnIndWrite (r : Req) (t : Fin 25) (k : Fin 20) (data : Word) (s : State) : Result := answer (s.stnCommand r t k data)
def execStnIndReadClear (r : Req) (t : Fin 25) (k : Fin 20) (data : Word) (s : State) : Result := answer (s.stnCommand r t k data)

end Sys2Proof.Machine
end

