-- ==== Sys2Proof/Machine/Resolve.lean ====
section
/-!
DEFINITION. Sys2Proof/Machine/Resolve.lean: the spreading unit, resolution, and the copies to hosts and mirror sessions
(10_parser.md, 11_traverses.md).
Readings and choices (notes/assumptions): DEDUCED 46, 49.
-/
namespace Sys2Proof.Machine

/-! ## Spreading (R331 to R333) -/

/-- What the spreading unit makes of a target. -/
inductive Spread where
  | lp (n : Nat)
  | ecmpEmpty
  | lagEmpty
deriving DecidableEq, Repr

/-- A LAG resolves to one of its active members (R333). -/
def State.spreadLag (s : State) (t lag h : Nat) : Spread :=
  let act := s.lagActive t lag s.lpIsUp
  if Word.bit (s.prsWord t 0 spLagGroup lag 0) 47 && !act.isEmpty then
    .lp (Word.bits (s.prsWord t 0 spLagMember (64 * lag + act.getD (h % 2 ^ 16 * act.length / 2 ^ 16) 0) 0) 36 10)
  else .lagEmpty

/-- What ECMP member entry `i` leads to, where it is usable. -/
def State.ecmpMember (s : State) (t i h : Nat) : Option Nat :=
  let e := s.prsWord t 0 spEcmpMember i 0
  let n := Word.bits e 36 10
  if !Word.bit e 47 then none
  else if Word.bit e 46 then
    match s.spreadLag t n h with
    | .lp l => some l
    | _ => none
  else if s.lpIsUp n then some n
  else none

/-- A 16-bit value rotated left. -/
def rotl16 (v r : Nat) : Nat := (v * 2 ^ r % 2 ^ 16) + v / 2 ^ (16 - r)

/-- An ECMP group resolves to the first usable member from the one that the hash names (R332). -/
def State.spreadEcmp (s : State) (t g h : Nat) : Spread :=
  let e := s.prsWord t 0 spEcmpGroup g 0
  let n := Word.bits e 20 9
  let base := Word.bits e 29 14
  let first := rotl16 (h / 2 ^ 16) (Word.bits e 43 4) * n / 2 ^ 16
  if Word.bit e 47 then
    match (List.range n).findSome? (fun j => s.ecmpMember t (base + (first + j) % n) h) with
    | some l => .lp l
    | none => .ecmpEmpty
  else .ecmpEmpty

/-! ## Copies to hosts (R361) -/

/-- Page and slot of DMA ring `ring` of port `h` (R83), and the function that owns it. -/
def ringPage (h ring : Nat) : Page := Page.dmq (18 * h + ring / 32)
def ringSlot (ring : Nat) : Nat := ring % 32
def ringFn (h ring : Nat) : Nat := if ring < 64 then 128 * h else 128 * h + (ring - 64) / 4 + 1
def State.ringFld (s : State) (h ring : Nat) (f : Fld) : Nat := s.fld (ringPage h ring) f (ringSlot ring)

/-- A drop at a ring (R87, R89). -/
def State.ringDrop (s : State) (h ring : Nat) : State := s.count (ringPage h ring) DMQ.RING_DROP 1 (ringSlot ring)

/-- A copy of packet `id` with these bytes for a ring: judged under R106 and R103, dropped where the ring is disabled or transmits
(R89), else on its way; its trace record is that of point 21 (R582). -/
def State.hostCopy (s : State) (t id h ring reason trunc : Nat) (bytes : List Byte) : State :=
  let x := s.pkt id
  let rec21 (s : State) (out : Nat) : State := s.trace t x { point := 21, info := out * 2 ^ 14, dropped := out == 3 }
  if 572 ≤ ring then s
  else
    let u := s.useResource x.phvParcel (s.ringFld h ring DMQ.RING_CFG_PARCEL) .copyHost
    match u.1 with
    | none => rec21 u.2 3
    | some p =>
      match u.2.takeCopyToken p with
      | none => rec21 ((u.2.parcelCount p 0x038 1).quotaHit p) 3
      | some s1 =>
        if s1.ringFld h ring DMQ.RING_CFG_ENABLE = 0 ∨ s1.ringFld h ring DMQ.RING_CFG_DIR = 1 then rec21 (s1.ringDrop h ring) 3
        else
          let c : HostCopy :=
            { ring := 1024 * h + ring, reason := reason, bytes := if trunc = 0 then bytes else bytes.take (trunc * 64),
              lp := x.ingressLp, parcel := p, tc := x.effTc, ts := x.ts, src := id + 1, chain := x.chain }
          let s2 : State := { s1 with hostCopies := s1.hostCopies ++ [c] }
          let s3 := if x.chain = 0 then s2
            else s2.setChain (x.chain - 1) { s2.chainOf (x.chain - 1) with dma := (s2.chainOf (x.chain - 1)).dma + 1 }
          rec21 (s3.survey 11 { parcel := some p, fn := some (ringFn h ring), tc := some x.effTc, addr := some ring }) 0

/-- The copy that word 184 asks for. -/
def State.copyToHost (s : State) (t id : Nat) : State :=
  let x := s.pkt id
  if x.bit 184 47 then
    (s.count (Page.res t) RES.C_COPIES).hostCopy t id (x.bits 184 38 1) (x.bits 184 28 10) (x.bits 184 39 8) (x.bits 184 16 12)
      x.bytes
  else s

/-! ## Mirror copies -/

/-- The sessions of word 185, each once, in slot order. -/
def Pkt.sessions (x : Pkt) : List Nat :=
  ((List.range 4).filterMap (fun j => if x.bit 185 (44 + j) then some (x.bits 185 (36 - 8 * j) 8) else none)).eraseDups

/-- The words that the bridge carries on (R343): 168 to 191, and those of the traverse's mask. -/
def State.bridgeMask (s : State) (t : Nat) : Nat :=
  ((List.range 4).foldl (fun v i => v + (s.reg (Page.trv t) TRV.BRIDGE_MASK i).toNat * 2 ^ (48 * i)) 0) % 2 ^ 168

def keepBridged (mask : Nat) (w : Tab Word) : Tab Word := w.filter (fun e => decide (168 ≤ e.1) || Nat.bitAt mask e.1)

/-- One copy for each session goes to admission; `place`: its place in replication order. -/
def State.mirrorCopies (s : State) (t id : Nat) : State :=
  let x := s.pkt id
  x.sessions.foldl (fun s n =>
    let y := { x with stage := .admission, kind := 2, fwdKind := 0, fwdIndex := n, copyIx := 1, src := id + 1, learns := [], shim := none, chain := 0,
                      desc := false, tc := x.effTc, parcel := x.phvParcel, mask := s.bridgeMask t,
                      phv := keepBridged (s.bridgeMask t) x.phv }
    ((s.newPkt y).count (Page.res t) RES.C_MIRRORS).survey 12 { parcel := some x.phvParcel, tc := some x.effTc, addr := some n }) s

/-! ## Resolution (R359, R360) -/

/-- The disposition of a packet: forwarded, or dropped with a code. -/
def Pkt.disposition (x : Pkt) : Option Nat :=
  let kind := x.bits 183 36 3
  let i := x.bits 183 16 20
  if x.bit 183 47 then some (x.bits 183 40 7)
  else if !x.bit 183 39 then some 125
  else if 5 ≤ kind then some 124
  else if (kind = 0 ∧ 768 ≤ i) ∨ (kind = 1 ∧ 16384 ≤ i) ∨ (kind = 2 ∧ 1024 ≤ i) ∨ (kind = 3 ∧ 1024 ≤ i) ∨ (kind = 4 ∧ 256 ≤ i) then
    some 123
  else none

/-- The original's way on after its disposition `drop`: a sequenced frame is recorded in its restore context, dropped or not
(R437); any other is dropped or goes to admission. -/
def State.sendOn (s : State) (t id : Nat) (drop : Option Nat) : State :=
  let x := s.pkt id
  let mask := s.bridgeMask t
  let y := { x with
    fwdKind := x.bits 183 36 3, fwdIndex := x.bits 183 16 20, tc := x.effTc, parcel := x.phvParcel, src := id + 1, learns := [],
    mask := mask, phv := keepBridged mask x.phv, dead := drop.isSome, kind := if x.bits 183 36 3 = 1 then 1 else 0 }
  match x.shim with
  | some _ => s.tick.setPkt id { y with stage := .restore, ord := s.nextPkt }
  | none => if drop.isSome then s.dropPkt id else s.setPkt id { y with stage := .admission }

/-- The packet's learn requests leave (R413). -/
def State.submitLearns (s : State) (t : Nat) (x : Pkt) : State := x.learns.foldl (fun s l => s.learnRequest t l) s

/-- A packet at resolution. -/
def State.resolve (s : State) (t id : Nat) (flowBad : Bool) : State :=
  let x := s.pkt id
  let p := Page.res t
  let a : EvAttr := { parcel := some x.phvParcel, tc := some x.effTc, addr := some x.ingressLp }
  let drop := x.disposition
  let s1 := (s.survey 1 a).survey 2 a x.frameLen
  let s2 := match drop with
    | none => s1.count p RES.C_FORWARDED
    | some c =>
      let s2 := (s1.count p RES.C_DROPS_IN 1 c).survey 5 { a with addr := some c }
      if x.bit 183 47 then s2
      else if c = 125 then s2.raise p RES.S_NO_DISPOSITION
      else s2.raise p RES.S_BAD_TARGET
  let s3 := s2.submitLearns t x
  let s4 := (s3.flowUpdate t x drop flowBad).trace t x
    { point := 20, lp := x.ingressLp, disp := (x.word 183).toNat, dropped := drop.isSome }
  ((s4.copyToHost t id).mirrorCopies t id).sendOn t id drop

/-- The spreading unit replaces an ECMP or LAG target; a group without a usable member drops the packet, which still learns (R413). -/
def State.spread (s : State) (t id : Nat) (flowBad : Bool) : State :=
  let x := s.pkt id
  let kind := x.bits 183 36 3
  if x.disposition.isNone && (kind == 3 || kind == 4) then
    let i := x.bits 183 16 20
    match if kind = 3 then s.spreadEcmp t i x.flowHash else s.spreadLag t i x.flowHash with
    | .lp n => (s.setPkt id ((x.setBits 183 36 3 0).setBits 183 16 20 n)).resolve t id flowBad
    | .ecmpEmpty => (((s.submitLearns t x).count (Page.prs t) PRS.C_ECMP_DROPS).raise (Page.prs t) PRS.S_ECMP_EMPTY).dropPkt id
    | .lagEmpty => (((s.submitLearns t x).count (Page.prs t) PRS.C_LAG_DROPS).raise (Page.prs t) PRS.S_LAG_EMPTY).dropPkt id
  else s.resolve t id flowBad

/-- RESOLUTION of the oldest packet of its traverse; `parity`: the PHV fails its check (R369); `flowBad`: its cached flow record has
an uncorrectable error (R576). -/
def execResolution (id : Nat) (parity flowBad : Bool) (s : State) : Result :=
  answer (
    let x := s.pkt id
    let t := x.trav
    if x.stage = .resolve ∧ s.isFirst x ∧ s.travIssues t then
      if parity then
        (((s.count (Page.res t) RES.C_PHV_PARITY).raise (Page.res t) RES.S_PHV_PARITY).trace t x
          { point := 20, lp := x.ingressLp, disp := (x.word 183).toNat, dropped := true }).checkDrop t id 120 false
      else s.spread t id flowBad
    else s)

end Sys2Proof.Machine
end

