-- ==== Sys2Proof/Machine/Deparse.lean ====
section
/-!
DEFINITION. Sys2Proof/Machine/Deparse.lean: the deparser: instances, pushes, pops, field map, checksums and the ECN mark, and its
indirect commands (11_traverses.md, R493).
Readings and choices (notes/assumptions): DEDUCED 50.
-/
namespace Sys2Proof.Machine

/-! ## The frame as segments (R364) -/

/-- A header of the frame under edit: its type, the template it was inserted from, its place among the instances recorded, its bytes,
and whether the deparser inserted or changed it. -/
structure Seg where
  type    : Nat
  tpl     : Option Nat
  index   : Nat
  bytes   : List Byte
  touched : Bool

/-- The bytes of template `n` of traverse `t`: its chunks hold six bytes in the first word and two in the second. -/
def State.templateBytes (s : State) (t n : Nat) : List Byte :=
  let chunk (c : Nat) : List Byte :=
    beBytes 6 (s.entWord spTplBytes t (8 * n + c) 0).toNat ++ (beBytes 6 (s.entWord spTplBytes t (8 * n + c) 1).toNat).take 2
  ((List.range 8).flatMap chunk).take (Word.bits (s.entWord spTemplate t n 0) 36 6 + 1)

def State.templateSeg (s : State) (t n : Nat) : Seg :=
  ⟨Word.bits (s.entWord spTemplate t n 0) 42 6, some n, 0, s.templateBytes t n, true⟩

/-- PUSH records that are valid, in order, as AT and TEMPLATE. -/
def Pkt.pushes (x : Pkt) : List (Nat × Nat) :=
  (if x.bit 191 47 then [(x.bits 191 41 6, x.bits 191 35 6)] else [])
    ++ (if x.bit 191 23 then [(x.bits 191 17 6, x.bits 191 11 6)] else [])

/-- Instance `i` of the frame: from its offset to the next one's, or to END_OFFSET. -/
def Pkt.instance_ (x : Pkt) (i : Nat) : Seg :=
  let off := x.hdrOff i
  let stop := if i + 1 < x.hdrCount then x.hdrOff (i + 1) else x.endOffset
  ⟨x.hdrType i, none, i, (x.bytes.take stop).drop off, false⟩

/-- The headers of the frame it emits: popped instances left out, templates inserted. -/
def State.segments (s : State) (t : Nat) (x : Pkt) : List Seg :=
  let n := x.hdrCount
  let at_ (q : Nat → Bool) : List Seg := (x.pushes.filter (fun p => q p.1)).map (fun p => s.templateSeg t p.2)
  ((List.range n).flatMap (fun i =>
    at_ (fun a => a == i) ++ (if x.bit 190 (16 + i) then [] else [x.instance_ i]))) ++ at_ (fun a => decide (n ≤ a))

/-! ## The field map (R365) -/

/-- A word reaches the egress path. -/
def Pkt.carries (x : Pkt) (w : Nat) : Bool := Nat.bitAt x.mask w

/-- The instance that an entry with PUSHED = 0 names: the OCCURRENCE-th of the type, popped ones counted. -/
def Pkt.occurrence (x : Pkt) (type n : Nat) : Option Nat := ((List.range x.hdrCount).filter (fun i => x.hdrType i == type))[n]?

/-- One entry of the field map written into a header. -/
def mapInto (e : Word) (x : Pkt) (h : Seg) : Seg :=
  let len := Word.bits e 29 3
  let off := Word.bits e 32 6
  let mine := if Word.bit e 46 then h.tpl == some (Word.bits e 40 6)
    else h.tpl.isNone && x.occurrence (Word.bits e 40 6) (Word.bits e 38 2) == some h.index
  if mine ∧ off + len ≤ h.bytes.length then
    let new := overwrite h.bytes off (beBytes len (x.bits (Word.bits e 21 8) (8 * Word.bits e 18 3) (8 * len)))
    { h with bytes := new, touched := h.touched || new != h.bytes }
  else h

/-- The whole map, in ascending order. -/
def State.applyMap (s : State) (t : Nat) (x : Pkt) (l : List Seg) : List Seg :=
  (List.range 256).foldl (fun l i =>
    let e := s.entWord spFieldMap t i 0
    if Word.bit e 47 && x.carries (Word.bits e 21 8) then l.map (mapInto e x) else l) l

/-! ## The ECN mark and checksums (R367, R493) -/

/-- The instance type of the first IP instance recorded, with whether it is of IPv4. -/
def State.ecnType (s : State) (x : Pkt) : Option (Nat × Bool) :=
  let four := s.fld Page.tmc TMC.ECN_CFG_HT_IPV4
  let six := s.fld Page.tmc TMC.ECN_CFG_HT_IPV6
  match x.firstHdr four, x.firstHdr six with
  | some a, some b => if a ≤ b then some (four, true) else some (six, false)
  | some _, none => some (four, true)
  | none, some _ => some (six, false)
  | none, none => none

/-- CE in the ECN field of an IP header. -/
def markCe (v4 : Bool) (l : List Byte) : List Byte :=
  let b := byteAt l 1
  overwrite l 1 [BitVec.ofNat 8 (Nat.lor b (if v4 then 3 else 0x30))]

/-- The first header of a type marked. -/
def markFirst (type : Nat) (v4 : Bool) (l : List Seg) : List Seg :=
  match l with
  | [] => []
  | h :: r =>
    if h.type = type then { h with bytes := markCe v4 h.bytes, touched := h.touched || v4 } :: r else h :: markFirst type v4 r

/-- An IPv4 header with its checksum computed anew. -/
def ipChecksum (l : List Byte) : List Byte :=
  let n := Nat.min l.length (byteAt l 0 % 16 * 4)
  let z := overwrite l 10 [0, 0]
  let sum := (List.range (n / 2)).foldl (fun v i => v + beAt z (2 * i) 2) 0
  let f1 := sum % 65536 + sum / 65536
  let f2 := f1 % 65536 + f1 / 65536
  overwrite l 10 (beBytes 2 (65535 - f2))

/-- Checksums of the headers of the IPv4 types (`types`) that were inserted or changed; how many. -/
def checksums (types : List Nat) (l : List Seg) : List Seg × Nat :=
  l.foldr (fun h r =>
    if h.touched && types.contains h.type && decide (12 ≤ h.bytes.length) then ({ h with bytes := ipChecksum h.bytes } :: r.1, r.2 + 1)
    else (h :: r.1, r.2)) ([], 0)

/-- The frame that the deparser emits, and the checksums it recomputed. -/
def State.rebuilt (s : State) (t : Nat) (x : Pkt) : List Byte × Nat :=
  let head := x.bytes.take (if x.hdrCount = 0 then x.endOffset else x.hdrOff 0)
  let tail := x.bytes.drop x.endOffset
  let l1 := s.applyMap t x (s.segments t x)
  let dpr := s.fld (Page.dpr t) DPR.DPR_CFG_HT_IPV4
  let own := if dpr = 63 then [] else [dpr]
  let mark := if x.ecn then s.ecnType x else none
  let l2 := match mark with
    | some m => markFirst m.1 m.2 l1
    | none => l1
  let types := match mark with
    | some (m, true) => m :: own
    | _ => own
  let l3 := checksums types l2
  (head ++ l3.1.flatMap (·.bytes) ++ tail, l3.2)

/-! ## DEPARSE -/

/-- The frame leaves the traverse, to its cluster where the port is protected (R283), else to the port engine. -/
def State.toPort (s : State) (id : Nat) : State :=
  let x := s.pkt id
  let sc := if x.bit 188 47 then some (x.bits 188 33 14) else none
  s.tick.setPkt id { x with stage := if s.secFld x.outLp MSC.LP_SEC_PROTECT_TX = 1 then .secTx else .transmit, sc := sc, ord := s.nextPkt }

/-- A deparsed frame: too long, it is dropped; else a copy goes to the host where word 186 asks for one, and it goes on. -/
def State.emitFrame (s : State) (t id : Nat) : State :=
  let x := s.pkt id
  let p := Page.dpr t
  let y := s.rebuilt t x
  let n := y.1.length + 4
  let info (drop : Bool) : Point :=
    { point := 22, copy := x.copyIx, lp := x.outLp, disp := (x.word 186).toNat, info := n % 2 ^ 16, dropped := drop }
  let s1 := (s.count p DPR.C_FRAMES).count p DPR.C_CSUM_UPDATES y.2
  if 16383 < n then (((((s1.count p DPR.C_EDIT_DROPS).raise p DPR.S_EDIT_DROP).trace t x (info true)).sentDropped x).dropPkt id)
  else
    let s2 := s1.setPkt id { x with bytes := y.1 }
    let s3 := if x.bit 186 39 then
        (s2.count (Page.res t) RES.C_COPIES).hostCopy t id (x.bits 186 30 1) (x.bits 186 20 10) (x.bits 186 31 8) 0 y.1
      else s2
    (s3.trace t x (info false)).toPort id

/-- DEPARSE of the oldest packet of its traverse (R364). A tag marked bad fails the check, but for a frame that was cut through,
which the port engine ends (R274). -/
def execDeparse (id : Nat) (upset : DprUpset) (s : State) : Result :=
  answer (
    let x := s.pkt id
    let t := x.trav
    let p := Page.dpr t
    let gone (s : State) : State :=
      s.trace t x { point := 22, copy := x.copyIx, lp := x.outLp, disp := (x.word 186).toNat, info := x.frameLen % 2 ^ 16,
                    dropped := true }
    if x.stage = .deparse ∧ s.isFirst x ∧ s.travIssues t then
      match upset with
      | .parity => (gone (s.raise p DPR.S_PHV_PARITY)).checkDrop t id 120 true
      | .lost => (gone (s.raise p DPR.S_DPR_MEM_FAIL)).checkDrop t id 122 true
      | .tag => ((gone ((s.count p DPR.C_TAG_ERRORS).raise p DPR.S_TAG_ERROR)).sentDropped x).dropPkt id
      | .fixed => ((s.count p DPR.C_SCRUB_FIXED).raise p DPR.S_SCRUB_FIXED).emitFrame t id
      | .none =>
        if x.tagBad && !x.cut then ((gone ((s.count p DPR.C_TAG_ERRORS).raise p DPR.S_TAG_ERROR)).sentDropped x).dropPkt id
        else s.emitFrame t id
    else s)

/-! ## Indirect commands (R365, R388) -/

/-- A deparser command: target, index; entries of a target. -/
def dprSize (tgt : Nat) : Nat := match tgt with | 0 => 256 | 1 => 64 | 2 => 512 | _ => 0
def dprSpace (tgt : Nat) : Nat := match tgt with | 0 => spFieldMap | 1 => spTemplate | _ => spTplBytes

/-- An entry as stored, or none for one that R365 refuses. -/
def dprEntry (tgt : Nat) (d : List Word) : Option (List Word) :=
  let w := d.getD 0 0
  match tgt with
  | 0 => if 6 < Word.bits w 29 3 + Word.bits w 18 3 ∨ 167 < Word.bits w 21 8 ∨ (Word.bit w 47 ∧ Word.bits w 29 3 = 0) then none
    else some [keep 0xFFFFFFFC0000 w]
  | 1 => some [keep 0xFFF000000000 w]
  | _ => some [w, keep 0xFFFF00000000 (d.getD 1 0)]

def State.dprWriteIn (s : State) (tgt i : Nat) (d : List Word) (t : Nat) : State × Nat :=
  if dprSize tgt = 0 then (s, 1)
  else if dprSize tgt ≤ i then (s, 2)
  else match dprEntry tgt d with
    | none => (s, 6)
    | some l => (s.setEnt (dprSpace tgt) t i l, 0)

def State.dprReadIn (s : State) (t tgt i : Nat) : State × Nat :=
  if dprSize tgt = 0 then (s, 1)
  else if dprSize tgt ≤ i then (s, 2)
  else (s.fillData (Page.dpr t) DPR.IND_DATA 2 (s.ent (dprSpace tgt) t i), 0)

/-- A write of DPR.IND_CMD: a read or a write, as its bit 45 says. -/
def State.dprCommand (s : State) (r : Req) (t : Nat) (data : Word) : State :=
  let p := Page.dpr t
  s.indCommand r p DPR.IND_CMD dprInd fun s =>
    let tgt := Word.bits data 46 2
    let i := Word.bits data 0 9
    if Word.bit data 45 then s.forTraverses t (Word.bit data 44) (fun s u => s.dprWriteIn tgt i (s.indData p DPR.IND_DATA 2) u)
    else let y := s.dprReadIn t tgt i; (y.1, y.2, false)

def execDprIndRead (r : Req) (t : Fin 25) (data : Word) (s : State) : Result := answer (s.dprCommand r t data)
def execDprIndWrite (r : Req) (t : Fin 25) (data : Word) (s : State) : Result := answer (s.dprCommand r t data)

end Sys2Proof.Machine
end

