-- ==== Sys2Proof/Machine/Ports.lean ====
section
/-!
DEFINITION. Sys2Proof/Machine/Ports.lean: port engines: breakout, tie-in, lane moves, link state, flow control timers and the
timestamp FIFO (08_port_engines.md).
Readings and choices (notes/assumptions): DEDUCED 34, 36; DESIGN CHOICE 35.
-/
namespace Sys2Proof.Machine

/-! ## Fabric-mode control messages (R251 to R255) -/

/-- The message is whole, of type `type`, and its CRC matches. -/
def msgGood (msg : List Byte) (type : Nat) : Bool :=
  msg.length == 31 && byteAt msg 0 == type && beAt msg 29 2 == crc16 (msg.take 29)

/-- The flags that this end sends in TIE_IN (R252), without ACK. -/
def State.ownFlags (s : State) (lp : Nat) : Nat :=
  let offer := (Config.tieInOffer lp).toNat
  (if s.profile (lp / 4) = 2 then 2 else 0) + (if Nat.bitAt offer 2 then 4 else 0)
    + (if Word.bit (s.lane lp).sampled 14 then 8 else 0) + (if Nat.bitAt offer 4 then 16 else 0)

/-- The width code of a lane set. -/
def widthCode (mask : Nat) : Nat :=
  match popCount4 mask with
  | 1 => 0
  | 2 => 1
  | _ => 2

/-- The index of lane `l` within its port. -/
def State.laneIndex (s : State) (l : Nat) : Nat := l - s.portOfLane l

def State.deviceId (s : State) : Nat :=
  s.fld Page.dev DEV.DEVICE_ID_HI_ID * 2 ^ 48 + s.fld Page.dev DEV.DEVICE_ID_LO_ID

/-- The TIE_IN message of lane `l` (R252). -/
def State.tieInMsg (s : State) (l : Nat) : List Byte :=
  let lp := s.portOfLane l
  let x := s.lane l
  let ack := if x.peerId.isSome then 1 else 0
  let body := [1, 1].map (BitVec.ofNat 8) ++ leBytes 1 (ack + s.ownFlags lp)
    ++ leBytes 1 (s.laneIndex l % 4 * 64 + widthCode (s.laneSet lp) * 16) ++ leBytes 1 (Word.bits x.sampled 0 3)
    ++ beBytes 8 s.deviceId ++ leBytes 1 (lp / 4) ++ leBytes 1 (lp % 4) ++ beBytes 4 x.session ++ beBytes 4 x.peerSess ++ zeros 6
  body ++ beBytes 2 (crc16 body)

def execTieinSend (l : Fin 768) (s : State) : Result :=
  answer (if s.lstate l = lsTieIn ∧ s.fabricPort (s.portOfLane l) then s.emit (.tieIn l (s.tieInMsg l)) else s)

/-- The exchange of a port fails: its lanes return to DETECT, and the reason is stored (R254). -/
def State.tieRefuse (s : State) (lp reason : Nat) : State :=
  let p := lpPage lp
  let s1 := (lanesOf lp (s.laneSet lp)).foldl
    (fun s m => if s.laneTrying m then s.failOne m (some LN.S_TIEIN_FAIL) else s) s
  let s2 := (s1.setLpFld lp PEN.TIEIN_STATUS_REASON reason).setLpFld lp PEN.TIEIN_STATUS_VALID 0
  ((s2.raise p PEN.S_TIEIN_REFUSED).count p PEN.C_TIEIN_FAILS).portsFollow (lp / 4)

/-- Why a valid TIE_IN disagrees (R254), as TIEIN_STATUS.REASON; 0: it agrees. -/
def State.tieReason (s : State) (l : Nat) (msg : List Byte) : Nat :=
  let lp := s.portOfLane l
  let id := beAt msg 5 10
  if byteAt msg 1 ≠ 1 then 1
  else if byteAt msg 4 ≠ Word.bits (s.lane l).sampled 0 3 then 2
  else if byteAt msg 3 / 16 % 4 ≠ widthCode (s.laneSet lp) then 3
  else if byteAt msg 3 / 64 ≠ s.laneIndex l then 4
  else if (lanesOf lp (s.laneSet lp)).any
      (fun m => m != l && (match (s.lane m).peerId with | some v => v != id | none => false)) then 6
  else 0

/-- The exchange completes (R253): features that both ends sent are agreed, and the peer is stored. -/
def State.tieDone (s : State) (lp : Nat) : State :=
  let lanes := lanesOf lp (s.laneSet lp)
  let peer := lanes.foldl (fun v m => Nat.land v (s.lane m).peerFlags) 30
  let id := ((lanes.head?.bind (fun m => (s.lane m).peerId)).getD 0)
  let s1 := s.setLpFld lp PEN.TIEIN_STATUS_AGREED (Nat.land peer (s.ownFlags lp) / 2)
  let s2 := (s1.setLpFld lp PEN.TIEIN_STATUS_PEER_DEV_HI (id / 2 ^ 64)).setLpFld lp PEN.PEER_DEV_ID (id / 2 ^ 16)
  let s3 := (s2.setLpFld lp PEN.TIEIN_STATUS_PEER_PE (id / 2 ^ 8)).setLpFld lp PEN.TIEIN_STATUS_PEER_SUB id
  let s4 := s3.setLpFld lp PEN.TIEIN_STATUS_VALID 1
  (lanes.foldl (fun s m => s.enterActive m) s4).portsFollow (lp / 4)

/-- A message received in TIE-IN (R253): a bad CRC ends the lane's run of good messages. -/
def execTieIn (l : Fin 768) (msg : List Byte) (s : State) : Result :=
  answer (
    let lp := s.portOfLane l
    let x := s.lane l
    if s.lstate l = lsTieIn ∧ s.fabricPort lp then
      if ¬ msgGood msg 1 then
        (if msg.length = 31 ∧ beAt msg 29 2 = crc16 (msg.take 29) then s else s.setLane l { x with tieRun := 0 })
      else if s.tieReason l msg ≠ 0 then s.tieRefuse lp (s.tieReason l msg)
      else
        let good := Nat.bitAt (byteAt msg 2) 0 && beAt msg 19 4 == x.session
        let s1 := s.setLane l { x with peerSess := beAt msg 15 4, peerId := some (beAt msg 5 10),
                                       peerFlags := byteAt msg 2 / 2 * 2, tieRun := if good then x.tieRun + 1 else 0 }
        if (lanesOf lp (s.laneSet lp)).all (fun m => s1.lstate m == lsTieIn && decide (3 ≤ (s1.lane m).tieRun)) then s1.tieDone lp
        else s1
    else s)

/-- TIE-IN does not complete in time (R194, R254). -/
def execTieinTimeout (lp : Fin 768) (s : State) : Result :=
  answer (if (lanesOf lp (s.laneSet lp)).any (fun m => s.lstate m == lsTieIn) then s.tieRefuse lp 5 else s)

def execMoveReqRepeat (lp : Fin 768) (s : State) : Result :=
  answer (match (s.port lp).move with
    | some m => s.sendRequest lp m
    | none => s)

/-- An acknowledgement of the request `msg` with mask `mask`, and the change of lane set. -/
def State.answerMove (s : State) (lp type mask : Nat) (msg : List Byte) : State :=
  (s.emit (.control lp mask (moveMsg type (byteAt msg 1) mask (byteAt msg 3 % 16)))).changeSet lp mask

/-- A MOVE_REQ: answered where sparing was agreed and the mask lies in the present set; crossing requests meet in the
intersection of their masks (R255). -/
def execMoveReq (lp : Fin 768) (msg : List Byte) (s : State) : Result :=
  answer (
    let mask := byteAt msg 2 % 16
    let both := match (s.port lp).move with
      | some m => if m.restore then mask else Nat.land mask m.mask
      | none => mask
    if msgGood msg 2 && s.linkUp lp && s.spareAgreed lp && Nat.land mask (s.laneSet lp) == mask && both != 0 then
      s.answerMove lp 3 both msg
    else s)

/-- A RESTORE_REQ: answered where a SPARED lane in the mask has passed its test (R255). -/
def execRestoreReq (lp : Fin 768) (msg : List Byte) (s : State) : Result :=
  answer (
    let mask := Nat.land (byteAt msg 2 % 16) (s.configured lp)
    let tested := (List.range 4).any (fun i =>
      Nat.bitAt mask i && s.lstate (lp.val / 4 * 4 + i) == lsSpared && (s.lane (lp.val / 4 * 4 + i)).testOk)
    if msgGood msg 4 && s.linkUp lp && tested then s.answerMove lp 5 (Nat.lor mask (s.laneSet lp)) msg else s)

/-! ## Breakout and enabling (R241, R242, R695) -/

/-- A write of PE_CFG: BREAKOUT is stored only while every logical port is disabled. -/
def execBreakoutWrite (r : Req) (pe : Fin 192) (data : Word) (s : State) : Result :=
  answer (
    let p := Page.pen pe
    s.hostWrite r p PEN.PE_CFG 0 false fun s =>
      if r.size = .hi then s
      else
        let s1 := if 144 ≤ pe.val then s.setFld p PEN.PE_CFG_SPARE_PROFILE (Word.bits data 2 2) else s
        let b := Word.bits data 0 2
        if b = 3 ∨ (List.range 4).any (fun i => s.flag p PEN.LP_CTL_ENABLE i) then s1.raise p PEN.S_BREAKOUT_INVALID
        else
          let s2 := (List.range 4).foldl (fun s i => s.setFld p PEN.LP_STATUS_LANES 0 i) (s1.setFld p PEN.PE_CFG_BREAKOUT b)
          (List.range 4).foldl (fun s i => s.judgeSuites (4 * pe + i)) (s2.portsFollow pe))

/-- The port becomes enabled: its set is the configured one, or the reduced one it was left on. -/
def State.enablePort (s : State) (lp : Nat) : State :=
  if s.created lp then
    let keep := (s.port lp).width == 1 || (s.port lp).width == 2
    let s1 := if keep && s.laneSet lp != 0 then s else s.setLpFld lp PEN.LP_STATUS_LANES (s.configured lp)
    ((((s1.setLpFld lp PEN.LP_STATUS_LSTATE lpDown).portReport lp false).portsFollow (lp / 4)).restartMeters (fun m => m / 2 == lp)).judgeSuites lp
  else s

/-- The port becomes DISABLED. -/
def State.disablePort (s : State) (lp : Nat) : State :=
  (((s.linkDown lp).setLpFld lp PEN.LP_STATUS_LSTATE lpDisabled).portReport lp false).portsFollow (lp / 4)

/-- A write of LP_CTL. -/
def execLpEnableWrite (r : Req) (lp : Fin 768) (data : Word) (s : State) : Result :=
  answer (s.hostWrite r (lpPage lp) PEN.LP_CTL (lp % 4) false fun s =>
    let old := s.reg (lpPage lp) PEN.LP_CTL (lp % 4)
    let new := BitVec.ofNat 48 ((mergeHalf r.size old data).toNat % 2 ^ 33)
    let s1 := s.setReg (lpPage lp) PEN.LP_CTL new (lp % 4)
    if Word.bit new 0 && !Word.bit old 0 then s1.enablePort lp
    else if !Word.bit new 0 && Word.bit old 0 then s1.disablePort lp
    else s1)

/-! ## Link state (R256) -/

/-- Every lane of the set is up and no fault has been received for 1 ms. -/
def execLinkUp (lp : Fin 768) (s : State) : Result :=
  answer (if s.lpEnabled lp && s.linkState lp == lpDown && s.setUp lp then (s.enterUp lp).showSpare (lp / 4) else s)

def execLinkFaultTimeout (lp : Fin 768) (remote : Bool) (s : State) : Result :=
  answer (if s.lpEnabled lp then
      ((s.setLpFld lp (if remote then PEN.LP_STATUS_REMOTE_FAULT else PEN.LP_STATUS_LOCAL_FAULT) 1).linkDown lp).portsFollow
        (lp / 4)
    else s)

/-! ## Flow control timers (R261, R263, R264) -/

def execPauseTimerExpiry (lp : Fin 768) (c : Fin 8) (s : State) : Result :=
  answer ((s.setPort lp { s.port lp with quanta := (s.port lp).quanta.set c 0 }).setPausedBit lp c false)

def execXoffRefresh (lp : Fin 768) (s : State) : Result :=
  answer (
    let m := Nat.land (s.lpFld lp PEN.LP_STATUS_XOFF_SENT) (s.xoffAllowed lp)
    if m = 0 then s else s.sendPause lp m (s.fld (lpPage lp) PEN.PFC_TX_CFG_QUANTA))

/-- A class paused for more than WD_MS is in a storm: received pause of it is ignored. -/
def execPfcStorm (lp : Fin 768) (c : Fin 8) (s : State) : Result :=
  answer (
    let p := lpPage lp
    if s.fld p PEN.PFC_TX_CFG_WD_MS ≠ 0 ∧ Nat.bitAt (s.lpFld lp PEN.LP_STATUS_PAUSED) c then
      let s1 := s.setPort lp { s.port lp with storm := setBitN (s.port lp).storm c true }
      ((s1.setPausedBit lp c false).raise p PEN.S_PFC_STORM).count p PEN.C_PFC_STORMS
    else s)

def execPfcStormEnd (lp : Fin 768) (c : Fin 8) (s : State) : Result :=
  answer (if Nat.bitAt (s.port lp).storm c then
      (s.setPort lp { s.port lp with storm := setBitN (s.port lp).storm c false }).clearCause (lpPage lp) PEN.S_PFC_STORM
    else s)

/-! ## Timestamp FIFO (R270) -/

def State.tsEntries (s : State) (pe : Nat) : List TsEntry := s.tsFifo.get pe []

/-- A capture: an entry joins the FIFO, or is discarded where it is full. -/
def State.tsCapture (s : State) (pe : Nat) (e : TsEntry) : State :=
  let l := s.tsEntries pe
  if l.length < 64 then { s with tsFifo := s.tsFifo.set pe (l ++ [e]) [] }
  else (s.count (Page.pen pe) PEN.C_TS_FIFO_LOST).raise (Page.pen pe) PEN.S_TS_FIFO_FULL

/-- TS_META as a read of it returns the entry. -/
def tsMetaWord (e : TsEntry) : Word := BitVec.ofNat 48 (2 ^ 47 + e.datum * 2 ^ 36 + e.lp * 2 ^ 26 + e.cookie)

/-- A read of TS_META removes the oldest entry and latches its time. -/
def execTsMetaRead (r : Req) (pe : Fin 192) (s : State) : Result :=
  answer (
    let p := Page.pen pe
    let value (s : State) : Word := match s.tsEntries pe with
      | e :: _ => tsMetaWord e
      | [] => 0
    s.hostRead r p PEN.TS_META 0 true value fun s =>
      match s.tsEntries pe with
      | e :: t =>
        let s1 := { s with tsFifo := s.tsFifo.set pe.val t [] }
        let s2 := s1.setReg p PEN.TS_SEC (BitVec.ofNat 48 (datumSec e.time))
        s2.setReg p PEN.TS_NS (BitVec.ofNat 48 (datumNs e.time * 2 ^ 16 + datumFrac e.time))
      | [] => s)

end Sys2Proof.Machine
end

