-- ==== Sys2Proof/Machine/Traffic.lean ====
section
/-!
DEFINITION. Sys2Proof/Machine/Traffic.lean: the traffic manager: admission, spray of admitted packets, replication and mirroring,
ECN, cut-through and spilling (13_spray_and_restore.md, 14_buffer_pools.md, 15_traffic_manager.md).
Readings and choices (notes/assumptions): DEDUCED 20, 49, 56, 58, 59, 60, 63; DESIGN CHOICE 61, 67.
-/
namespace Sys2Proof.Machine

/-- The traffic manager and the buffer pool manager carry traffic (R45, R606, R608). -/
def State.tmRuns (s : State) : Bool := s.inService Page.tmc && s.inService Page.bpm

def execLaunchEligible (n : Fin 16384) (s : State) : Result := answer (s.qFollow n)

/-! ## What a packet takes (R455 to R458, R463 to R466) -/

/-- How a packet comes by its buffers: a chain that it holds; the chain of another copy; a chain of its own, from a pool; or
none: its parcel's pool set is not valid, or the walk is exhausted (`met`: a pool without sharing was met). -/
inductive Buffers where
  | own (cells : Nat)
  | shared (chain cells : Nat)
  | fresh (pool cells : Nat)
  | noSet
  | exhausted (met : Bool)
deriving DecidableEq, Repr

/-- The cells by which a packet of `size` bytes is judged. -/
def Buffers.cells (b : Buffers) (size : Nat) : Nat :=
  match b with
  | .own c => c
  | .shared _ c => c
  | .fresh _ c => c
  | _ => (size + 255) / 256

/-- The chain of another copy of packet `id`, in a pool with sharing, charged to the packet's parcel `p`. -/
def State.siblingChain (s : State) (id p : Nat) : Option Nat :=
  let x := s.pkt id
  if x.src = 0 then none
  else (s.pkts.find? (fun (e : Nat × Pkt) => e.1 != id && e.2.src == x.src && e.2.chain != 0 && (
      let c := s.chainOf (e.2.chain - 1)
      c.parcel == some p && (match s.pool c.pool with
        | some q => q.share
        | none => false)))).map (fun e => e.2.chain - 1)

/-- Entries of the deferred-free queue (R464). -/
def State.dfqFull (s : State) : Bool := decide (131072 ≤ (s.chains.filter (fun (e : Nat × Chain) => e.2.entry)).length)

/-- A copy takes a reference to chain `c`, unless the chain needs an entry of the deferred-free queue that is full. -/
def State.mayShare (s : State) (c : Nat) : Bool := (s.chainOf c).entry || !s.dfqFull

/-- A walk of parcel `p` for `size` bytes, banded by `band` bytes (R456, R458). -/
def State.pick (s : State) (p size band : Nat) : Buffers :=
  match s.carve.sets.getD (s.psets.get p 0) none with
  | none => .noSet
  | some l =>
    match s.walk 4 (l.getD (bandOf band) 0) size (s.pclFld p PCL.PARCEL_CFG_STRICT == 1) false with
    | (some pn, _) =>
      let k := match s.pool pn with
        | some q => (size + classBytes_ q.cls - 1) / classBytes_ q.cls * classCells q.cls
        | none => 0
      .fresh pn k
    | (none, met) => .exhausted met

/-- How packet `id` comes by its buffers, once it belongs to parcel `p`: a copy that crossed an easement and a copy of a STRICT
parcel take chains of their own (R466). -/
def State.buffersFor (s : State) (id p size band : Nat) : Buffers :=
  let x := s.pkt id
  if x.chain ≠ 0 then .own (s.chainOf (x.chain - 1)).cells
  else
    match if p ≠ x.parcel ∨ s.pclFld p PCL.PARCEL_CFG_STRICT = 1 then none else s.siblingChain id p with
    | some c => if s.mayShare c then .shared c (s.chainOf c).cells else s.pick p size band
    | none => s.pick p size band

/-- The copies of a packet that find the deferred-free queue full are counted (R464), the first with the second: the state, and whether
packet `id` is such a copy. -/
def State.dfqJudge (s : State) (id p : Nat) : State × Bool :=
  let x := s.pkt id
  if x.chain ≠ 0 ∨ p ≠ x.parcel ∨ s.pclFld p PCL.PARCEL_CFG_STRICT = 1 then (s, false)
  else match s.siblingChain id p with
    | some c =>
      if s.mayShare c then (s, false)
      else
        let y := s.chainOf c
        (((s.setChain c { y with alone := true }).count Page.bpm BPM.C_DFQ_FULL_COPIES (if y.alone then 1 else 2)).raise Page.bpm
          BPM.S_DFQ_FULL, true)
    | none => (s, false)

/-- Whether the cells of packet `x` count in the classes of its ingress port (R490). -/
def Pkt.fromPort (x : Pkt) : Bool := decide (x.lp < 768) && x.ring.isNone

/-- The ingress class of a packet. -/
def State.ingressClass (s : State) (x : Pkt) : Nat := s.pfcClass x.lp x.tc

/-- The cells of chain `c` count in the class of the port that packet `id` came from (R490). -/
def State.pgCount (s : State) (id c : Nat) : State :=
  let x := s.pkt id
  let k := s.ingressClass x
  let y := s.chainOf c
  if x.fromPort && y.cls.isNone then
    ((s.setChain c { y with cls := some (x.lp, k) }).setPgCells x.lp k (s.pgCells x.lp k + y.cells)).pgAssert x.lp k
  else s

/-- Copies to hosts of packet `id` that hold no chain yet hold `c` (R466). -/
def State.adoptDma (s : State) (id c : Nat) : State :=
  let x := s.pkt id
  let own (h : HostCopy) : Bool := h.src == x.src && h.chain == 0 && x.src != 0
  let n := (s.hostCopies.filter own).length
  if n = 0 then s
  else
    let s1 : State := { s with hostCopies := s.hostCopies.map (fun h => if own h then { h with chain := c + 1 } else h) }
    s1.setChain c { s1.chainOf c with dma := (s1.chainOf c).dma + n }

/-- Packet `id` of parcel `p` takes its own chain from a pool, charged to `p` (R456, R459). -/
def State.grantFresh (s : State) (id p pn size : Nat) : State :=
  let x := s.pkt id
  let y := s.newChain pn size { parcel := some p, refs := [id] }
  let c := y.2 - 1
  let k := (y.1.chainOf c).cells
  let s1 := (y.1.setPkt id { y.1.pkt id with chain := y.2 }).setCharge p (y.1.charge p + k)
  let s2 := (if p = x.parcel then s1.adoptDma id c else s1).survey 23 { parcel := some p, addr := some pn } k
  s2.bpmFollow

/-- The chain that packet `id` holds is charged to parcel `p`, and counts in its ingress class. -/
def State.chargeOwn (s : State) (id p : Nat) : State :=
  let c := (s.pkt id).chain - 1
  let x := s.chainOf c
  if x.parcel.isSome then s
  else ((s.setChain c { x with parcel := some p }).setCharge p (s.charge p + x.cells)).bpmFollow.pgCount id c

/-- Packet `id` takes a reference to chain `c` of another copy. -/
def State.shareChain (s : State) (id c : Nat) : State :=
  let x := s.chainOf c
  (s.setPkt id { s.pkt id with chain := c + 1 }).setChain c { x with refs := x.refs ++ [id], entry := true }

/-- Packet `id` of parcel `p` takes its buffers; the last answer is whether the check of the share admits it (R459). -/
def State.takeBuffers (s : State) (id p size : Nat) (b : Buffers) : State × Bool :=
  match b with
  | .own n =>
    if (s.chainOf ((s.pkt id).chain - 1)).parcel.isSome then (s, true)
    else
      let why := s.shareCheck p n n
      if why = 0 then (s.chargeOwn id p, true) else (s.shareDrop p why, false)
  | .shared c _ => (s.shareChain id c, true)
  | .fresh pn n =>
    let why := s.shareCheck p n 0
    if why = 0 then
      let s1 := s.grantFresh id p pn size
      (s1.pgCount id ((s1.pkt id).chain - 1), true)
    else (s.shareDrop p why, false)
  | _ => (s, false)

/-- The drop of a packet that finds no pool (R455, R457). -/
def State.noBuffers (s : State) (p : Nat) (b : Buffers) : State :=
  match b with
  | .noSet => s.count Page.bpm BPM.C_DROP_NO_SET
  | .exhausted met =>
    s.count Page.bpm (if s.pclFld p PCL.PARCEL_CFG_STRICT = 1 ∧ !met then BPM.C_DROP_STRICT_POOL else BPM.C_DROP_NO_BUFFER)
  | _ => s

/-! ## Drops and trace of admission -/

/-- The trace record of point 21 (R582): `out` 0 admitted, 1 cut through, 2 to overflow, 3 dropped. -/
def State.point21 (s : State) (x : Pkt) (n out : Nat) : State :=
  s.trace x.trav x { point := 21, copy := x.copyIx, lp := s.qLp n, disp := (x.word 183).toNat, info := n + out * 2 ^ 14,
                     dropped := out == 3 }

/-- Packet `id` is dropped at admission to queue `n`. -/
def State.tmDrop (s : State) (id n : Nat) : State :=
  let x := s.pkt id
  ((s.survey 6 { parcel := some x.parcel, tc := some x.tc, addr := some n }).point21 x n 3).dropPkt id

/-! ## Queue limits (R480, R491) -/

/-- The packet is lossless: its ingress port runs PAUSE, or PFC for its class. -/
def State.lossless (s : State) (x : Pkt) : Bool :=
  x.fromPort && (s.fcMode x.lp == 1 || (s.fcMode x.lp == 2 && Nat.bitAt (s.lpFld x.lp PEN.LP_CTL_PFC_TX_EN) (s.ingressClass x)))

/-- What the queue's limits answer. -/
inductive Limit where
  | ok | refused | headroom
deriving DecidableEq, Repr

/-- Queue `n` judges `k` cells of packet `x`, of which `adds` are new in the class of its port. -/
def State.queueLimit (s : State) (n : Nat) (x : Pkt) (k adds : Nat) : Limit :=
  let w := s.qWord n 1
  let q := (s.queue n).cells
  let c := s.pgClass x.lp (s.ingressClass x)
  let bound := s.fld (Page.tmw x.lp) TMW.PG_CFG_XOFF_CELLS c + s.fld (Page.tmw x.lp) TMW.PG_HEAD_HEADROOM c
  if Word.bits w 27 21 < q + k then .refused
  else if s.lossless x then
    (if s.pgJudged x.lp (s.ingressClass x) + adds ≤ bound then .ok else .headroom)
  else if q + k ≤ Word.bits w 2 21 ∨ (q + k) * 256 ≤ 2 ^ Word.bits w 23 4 * (s.freeCells - k) then .ok
  else .refused

/-! ## ECN (R492) -/

/-- The ECN field of the packet and whether it is of IPv4; none where no IP instance is recorded. -/
def State.ecnField (s : State) (x : Pkt) : Option Nat :=
  match s.ecnType x with
  | none => none
  | some (type, v4) => (x.firstHdr type).map (fun i =>
      let b := byteAt x.bytes (x.hdrOff i + 1)
      if v4 then b % 4 else b / 16 % 4)

/-- ⌊p × 65,536⌋ for a queue of `l` cells; 65,536 where p is 1. -/
def ecnChance (w : Word) (l : Nat) : Nat :=
  let lo := Word.bits w 28 18
  let hi := Nat.max (lo + 1) (Word.bits w 10 18)
  if l < 8 * lo then 0
  else if 8 * hi ≤ l then 65536
  else Word.bits w 2 8 * 256 * (l - 8 * lo) / (8 * (hi - lo))

/-- The marking decision for packet `id` in queue `n` holding `l` cells with it: the state, and whether the packet is dropped.
The LFSR's draw is a free value. -/
def State.ecnDecide (s : State) (id n l : Nat) : State × Bool :=
  let w := s.qWord n 3
  let x := s.pkt id
  if Word.bit w 47 then
    let p := ecnChance w l
    let hit := p == 65536 || decide (s.free % 65536 < p)
    let s1 := s.drawn
    match if hit then s.ecnField x else none with
    | none => (s1, false)
    | some 0 => if Word.bit w 46 then (s1.qCount n 2 1, true) else (s1, false)
    | some 3 => (s1, false)
    | some _ =>
      (((s1.setPkt id { x with ecn := true }).qCount n 4 1).survey 8 { parcel := some x.parcel, tc := some x.tc, addr := some n }, false)
  else (s, false)

/-! ## Launch time (R555) -/

/-- The launch time that a launch word gives while W reads `w` (R555). -/
def launchOf (w : Nat) (v : Word) : Int :=
  let ns := Word.bits v 0 30
  let sec : Int := (datumSec w : Nat)
  let unit : Int := (nsUnits : Nat)
  let half : Int := 65536 * 1000000000 * unit
  let base : Int := sec - sec % 131072 + (Word.bits v 30 17 : Nat)
  let at_ (k : Int) : Int := ((base + k) * 1000000000 + (ns : Nat)) * unit
  if (w : Int) - half ≤ at_ (-131072) then at_ (-131072)
  else if (w : Int) - half ≤ at_ 0 then at_ 0
  else at_ 131072

/-- The packet takes its launch time. -/
def State.takeLaunch (s : State) (id : Nat) : State :=
  let x := s.pkt id
  let p := Page.dtm
  if s.flag p DTM.LAUNCH_CFG_EN && x.ring.isNone then
    let v := x.word (s.fld p DTM.LAUNCH_CFG_WORD)
    if !Word.bit v 47 then s
    else if 999999999 < Word.bits v 0 30 then (s.count p DTM.C_LAUNCH_BAD).raise p DTM.S_LAUNCH_BAD
    else s.setPkt id { x with launch := some (launchOf s.wNow v) }
  else s

/-! ## Overflow (R499, R500) -/

/-- Bits that the write staging still takes while OVF_WR is cut (R530): at the effective rate, up to 10 µs of it. -/
def State.wrAllowance (s : State) : Nat :=
  let rate := s.fld Page.ovm OVM.RES_EFFECTIVE 0 * 1000
  Nat.min (rate * 10) (s.wrTokens.1 + rate * (s.time.us - s.wrTokens.2))

def State.wrCut (s : State) : Bool := decide (s.fld Page.ovm OVM.RES_EFFECTIVE 0 < s.reserved.getD 0 0)

/-- The write staging has room for a record of `n` bytes in `k` new chunks. -/
def State.stagingRoom (s : State) (n k : Nat) : Bool :=
  s.hbmUp && decide (s.writeFill + k ≤ 2048) && decide (k ≤ s.chunksFree) && (!s.wrCut || decide (n * 8 ≤ s.wrAllowance))

/-- What a packet carries behind its admission: PARCEL of word 180 (R344), and the bytes that a mirror copy keeps (`trunc` times 64;
0: all). -/
def Pkt.forQueue (x : Pkt) (n lp p trunc : Nat) : Pkt :=
  { x with
    queue := n, parcel := p, outLp := lp, phv := if p = x.phvParcel then x.phv else (x.setBits 180 36 12 p).phv,
    bytes := if trunc = 0 then x.bytes else x.bytes.take (64 * trunc) }

/-- Packet `id` of parcel `p` goes to overflow memory behind queue `n` (R500), with the buffers of `b` until it is written. -/
def State.toOverflow (s : State) (id n p size trunc : Nat) (b : Buffers) : State :=
  let x := s.pkt id
  let q := s.queue n
  let bytes := recordBytes (x.forQueue n 0 p trunc)
  let k := s.chunksNeeded n bytes
  if 0 < k ∧ s.pclFld p PCL.HBM_QUOTA_MAX_CHUNKS < s.hbmUse p + k then
    ((s.parcelCount p 0x030 1).quotaHit p).tmDrop id n
  else if 0 < k ∧ Word.bits (s.qWord n 5) 0 26 < q.chunks.length + k then (s.qCount n 2 1).tmDrop id n
  else if !s.stagingRoom bytes k then (s.qCount n 2 1).tmDrop id n
  else
    let s1 := match b with
      | .fresh pn _ =>
        let s1 := s.grantFresh id p pn size
        s1.pgCount id ((s1.pkt id).chain - 1)
      | .shared c _ => s.shareChain id c
      | .own _ => s.chargeOwn id p
      | _ => s
    let e := s1.ecnDecide id n (q.cells + 8 * (q.chunks.length + k))
    if e.2 then e.1.tmDrop id n
    else
      let s2 := if (e.1.pkt id).chain = 0 then e.1.freeDesc id else e.1
      let y := { (s2.pkt id).forQueue n (s.qLp n) p trunc with stage := .spilled, viaHbm := true }
      let s3 := s2.setPkt id y
      let s4 := if s.wrCut then { s3 with wrTokens := (s.wrAllowance - bytes * 8, s.time.us) } else s3
      let s5 := if q.spilling then s4
        else (s4.setQueue n { s4.queue n with spilling := true }).raise (Page.tmw (s.qLp n)) TMW.S_SPILL_START
      let s6 := ((s5.appendRecord n id).qCount n 7 1).survey 9 { parcel := some p, tc := some x.tc, addr := some n }
      ((s6.point21 y n 2).askRefill n).qFollow n

/-! ## Cut-through (R494) -/

/-- Packet `x`, whose last byte has not arrived, may be released from queue `n` at once. -/
def State.mayCut (s : State) (n : Nat) (x : Pkt) (held : Bool) : Bool :=
  let lp := s.qLp n
  x.kind == 0 && x.fromPort && !held && !(s.queue n).busy && !s.qPaused n && decide (s.portRate lp ≤ s.portRate x.lp)
    && s.secFld x.lp MSC.LP_SEC_PROTECT_RX != 1 && s.linkUp lp && s.pstate lp == 3 && s.shaperOpen (qKey n) (s.qWord n 2)
    && s.launchOk n x && s.flag Page.tmc TMC.TM_CFG_CT_EN && s.flag (Page.tmw lp) TMW.LP_TM_CFG_CT_EN

/-! ## Admission (R479) -/

/-- Admitted packet `id` joins queue `n`; `cut`: it is released at once; `trunc`: the bytes that a mirror copy keeps (0: all). -/
def State.enterQueue (s : State) (id n p trunc : Nat) (cut : Bool) : State :=
  let x := s.pkt id
  let y := { x.forQueue n (s.qLp n) p trunc with stage := .queued, cut := cut }
  let s1 := s.setPkt id y
  let q := s1.queue n
  let s2 := s1.setQueue n { q with ready := q.ready ++ [id], cells := q.cells + s1.cellsOf id }
  let s3 := if cut then (s2.qCount n 6 1).survey 10 { parcel := some p, tc := some x.tc, addr := some n } else s2
  (s3.point21 y n (b2n cut)).qFollow n

/-- Checks 4 to 6 for packet `id` with its descriptor, of parcel `p`; `size` and `band` are the bytes by which it is judged. -/
def State.admitChecked (s : State) (id n p size band trunc : Nat) (arriving held : Bool) : State :=
  let x := s.pkt id
  let b := s.buffersFor id p size band
  let k := b.cells size
  let adds := match b with
    | .fresh _ c => c
    | .own c => if held then 0 else c
    | _ => 0
  let exhausted := match b with
    | .exhausted _ => true
    | _ => false
  let out (s : State) : State := if exhausted then s.raise Page.bpm BPM.S_CHAIN_EXHAUSTED else s
  let spill (s : State) : State :=
    (if exhausted then (out s).count Page.bpm BPM.C_TO_OVERFLOW else s).toOverflow id n p size trunc b
  let limit := s.queueLimit n x k adds
  let spillCells := Word.bits (s.qWord n 5) 27 21
  if (s.queue n).spilling then spill s
  else if s.ovfEn n && spillCells != 0 && decide (spillCells ≤ (s.queue n).cells) then spill s
  else if limit = .refused then (if s.ovfEn n then spill s else (s.qCount n 2 1).tmDrop id n)
  else if limit = .headroom then
    ((s.count (Page.tmw x.lp) TMW.C_DROP_HEADROOM).raise (Page.tmw x.lp) TMW.S_HEADROOM_DROP).tmDrop id n
  else match b with
    | .noSet => (s.noBuffers p b).tmDrop id n
    | .exhausted _ => if s.ovfEn n then spill s else ((out s).noBuffers p b).tmDrop id n
    | _ =>
      let cut := arriving && s.mayCut n x held
      let j := s.dfqJudge id p
      let h := j.1.takeBuffers id p size b
      let c := (h.1.pkt id).chain - 1
      let g := if j.2 && h.2 then (h.1.setChain c { h.1.chainOf c with alone := true }, h.2) else h
      if !g.2 then g.1.tmDrop id n
      else
        let q := g.1.queue n
        let e := g.1.ecnDecide id n (q.cells + k + 8 * q.chunks.length)
        if e.2 then e.1.tmDrop id n
        else
          let s1 := if arriving then e.1.trimChain ((e.1.pkt id).chain - 1) x.bytes.length else e.1
          s1.enterQueue id n p trunc cut

/-- Checks 2 to 6 for packet `id`, which belongs to parcel `p`. `arrived`: the bytes there so far of a frame whose end is still to
come. A packet that was held for restore has its descriptor and its buffers (R481). -/
def State.admitTo (s : State) (id n p trunc : Nat) (arrived : Option Nat) : State :=
  let x := s.pkt id
  let lp := s.qLp n
  let early := arrived.isSome && x.early && x.fromPort && x.kind == 0 && !x.desc
  let size := if early then Nat.max (arrived.getD 0) (s.maxFrame x.lp - 4) else x.bytes.length
  let band := if early then arrived.getD 0 else x.bytes.length
  if !s.qValid n then (s.qCount n 2 1).tmDrop id n
  else if s.pstate lp = 0 ∨ s.pstate lp = 1 then (s.count (Page.tmw lp) TMW.C_DROP_PORT_DOWN).tmDrop id n
  else
    let free := s.fld Page.tmc TMC.DESC_STATUS_FREE
    if x.desc then (s.takeLaunch id).admitChecked id n p size band trunc early true
    else if free = 0 then ((s.count Page.tmc TMC.C_DROP_NO_DESC).raise Page.tmc TMC.S_DESC_EXHAUSTED).tmDrop id n
    else
      let y := { x with desc := true, ts := if x.direct then s.wNow else x.ts }
      (((s.setFld Page.tmc TMC.DESC_STATUS_FREE (free - 1)).setPkt id y).takeLaunch id).admitChecked id n p size band trunc early false

/-- The packet was admitted: it stands in its queue, on chip or in overflow memory. -/
def State.admitted (s : State) (id : Nat) : Bool := (s.pkt id).stage == .queued || (s.pkt id).stage == .spilled

/-- A packet for unicast queue `n` (check 1: kind FORWARD on the node of the queue). -/
def State.unicast (s : State) (id n : Nat) (arrived : Option Nat) : State :=
  let u := s.useResource (s.pkt id).parcel (nodeParcel (s.nodeWord (s.qNode n) 0)) .forward
  match u.1 with
  | none => u.2.tmDrop id n
  | some p => u.2.admitTo id n p 0 arrived

/-- The multicast queue of a copy to port `lp` of class `tc` (R476). -/
def State.mqOf (s : State) (lp tc : Nat) : Nat :=
  12288 + Word.bits (s.entWord spMqMap 0 (8 * lp + s.pfcClass lp tc) 0) 0 12

/-- A copy of a mirror session (R484). -/
def State.mirror (s : State) (id : Nat) : State :=
  let x := s.pkt id
  let w := s.entWord spMirror 0 x.fwdIndex 0
  let n := s.mqOf (Word.bits w 25 10) (Word.bits w 21 4)
  if !Word.bit w 47 then s.tmDrop id n
  else
    let u := s.useResource x.parcel (Word.bits w 35 12) .mirror
    match u.1 with
    | none => u.2.tmDrop id n
    | some p =>
      let s1 := u.2.admitTo id n p (Word.bits w 9 12) none
      if s1.admitted id then s1.count Page.tmc TMC.C_COPIES_MADE else s1

/-! ## Spray (R334, R430 to R432) -/

/-- The present members of a group, each with its effective weight. -/
def State.groupMembers (s : State) (g : Nat) : List (Nat × Nat) :=
  let w := s.entWord spSpray 0 g 0
  ((List.range (groupCount w)).map (fun i => groupBase w + i)).filterMap (fun m =>
    let v := s.present.get m 0
    if v = 0 then none else some (m, v - 1))

/-- Smooth weighted round robin: every member adds its weight, the largest credit wins, and pays the sum (R334). -/
def State.sprayChoose (s : State) (g : Nat) (l : List (Nat × Nat)) : State × Nat :=
  let s1 := l.foldl (fun (s : State) (e : Nat × Nat) => s.setCredit g e.1 (s.credit g e.1 + (e.2 : Nat))) s
  let best := l.foldl (fun (b : Nat) (e : Nat × Nat) => if s1.credit g b < s1.credit g e.1 then e.1 else b) ((l.headD (0, 0)).1)
  let sum : Nat := (l.map (·.2)).foldl (· + ·) 0
  (s1.setCredit g best (s1.credit g best - (sum : Nat)), best)

/-- An admitted packet is stamped with its flow context and the next sequence number (R431, R432). -/
def State.stamp (s : State) (id g : Nat) : State :=
  let x := s.pkt id
  let log := Word.bits (s.entWord spSpray 0 g 0) 10 4
  let ctx := (Word.bits (s.entWord spSpray 0 g 1) 0 20 + x.flowHash % 2 ^ 16 * 2 ^ log / 2 ^ 16) % 2 ^ 20
  let i := ctx % 2 ^ 16
  let seq := Word.bits (s.entWord spSendSeq 0 i 0) 0 24
  ((s.setPkt id { x with outShim := some (ctx, seq) }).setEnt spSendSeq 0 i [BitVec.ofNat 48 ((seq + 1) % 2 ^ 24)]).count Page.spr
    SPR.C_SPRAYED

/-- A packet for spray group `g` (R430). -/
def State.spray (s : State) (id g : Nat) (arrived : Option Nat) : State :=
  let x := s.pkt id
  let w := s.entWord spSpray 0 g 0
  let l := s.groupMembers g
  if !Word.bit w 47 || l.isEmpty then
    ((s.count Page.spr SPR.C_SPRAY_EMPTY_DROPS).raise Page.spr SPR.S_SPRAY_EMPTY).dropPkt id
  else
    let u := s.useResource x.parcel (Word.bits w 14 12) .forward
    match u.1 with
    | none => u.2.dropPkt id
    | some p =>
      let c := (u.2.setPkt id { u.2.pkt id with parcel := p }).sprayChoose g l
      let s1 := c.1.unicast id (16 * memberLp (s.sprayMember c.2) + x.tc) arrived
      if s1.admitted id then s1.stamp id g else s1

/-! ## Replication (R482, R483) -/

/-- A packet for a multicast group waits for the replication engine, or finds its queue full. -/
def State.awaitCopies (s : State) (id : Nat) : State :=
  if s.replQ.length < 65536 then { s with replQ := s.replQ ++ [id] }.setPkt id { s.pkt id with stage := .repl }
  else (s.count Page.tmc TMC.C_REPL_DROPS).dropPkt id

/-- A copy of packet `id` for member `m`; `place`: its place in replication order. A chain that the packet holds from its cluster
(R462) passes to the first copy that is admitted and does not cross an easement. -/
def State.copyFor (s : State) (id m place : Nat) : State :=
  let x := s.pkt id
  let w := s.entWord spMember 0 m 0
  let lp := Word.bits w 37 10
  let n := s.mqOf lp x.tc
  let u := s.useResource x.parcel (Word.bits w 25 12) .replicate
  match u.1 with
  | none => (u.2.survey 6 { parcel := some x.parcel, tc := some x.tc, addr := some n }).point21 { x with copyIx := place } n 3
  | some p =>
    let s0 := u.2
    let takes := decide (p = x.parcel) && x.chain != 0
    let y := { x with stage := .admission, kind := 1, copyIx := place, chain := if takes then x.chain else 0, desc := false }
    let c := s0.nextPkt
    let s1 := s0.newPkt y
    let s2 := if takes then
        s1.setChain (x.chain - 1) { s1.chainOf (x.chain - 1) with refs := (s1.chainOf (x.chain - 1)).refs ++ [c] }
      else s1
    let s3 := s2.admitTo c n p 0 none
    if s3.admitted c then
      let s4 := s3.count Page.tmc TMC.C_COPIES_MADE
      if takes then
        let ch := s4.chainOf (x.chain - 1)
        (s4.setChain (x.chain - 1) { ch with refs := ch.refs.filter (fun r => r != id) }).setPkt id { s4.pkt id with chain := 0 }
      else s4
    else s3

/-- The copies of packet `id`, in member order. -/
def State.replicate (s : State) (id : Nat) : State :=
  let x := s.pkt id
  let w := s.entWord spGroup 0 x.fwdIndex 0
  if !Word.bit w 47 then (s.count Page.tmc TMC.C_MC_DROPS).dropPkt id
  else
    let u := s.useResource x.parcel (Word.bits w 34 12) .replicate
    match u.1 with
    | none => u.2.dropPkt id
    | some p =>
      let one (a : State × Nat) (i : Nat) : State × Nat :=
        let m := Word.bits w 17 17 + i
        let e := a.1.entWord spMember 0 m 0
        if !Word.bit e 47 then a
        else if Word.bit w 46 && decide (Word.bits e 37 10 = x.lp) && x.ring.isNone then (a.1.count Page.tmc TMC.C_PRUNED, a.2)
        else (a.1.copyFor id m a.2, a.2 + 1)
      ((List.range (Word.bits w 7 10)).foldl one (u.2.setPkt id { u.2.pkt id with parcel := p }, 1)).1.dropPkt id

/-- REPLICATION: the replication engine takes the oldest packet that waits. -/
def execReplication (s : State) : Result :=
  answer (match s.replQ with
    | [] => s
    | id :: l => if s.tmRuns then ({ s with replQ := l } : State).replicate id else s)

/-- PACKET_ADMISSION of packet `id`, the oldest of its traverse that awaits it; `arrived`: the bytes that have arrived, of a frame whose end is still to come (R458). -/
def execPacketAdmission (id : Nat) (arrived : Option Nat) (s : State) : Result :=
  answer (
    let x := s.pkt id
    if x.stage = .admission ∧ s.isFirst x ∧ s.tmRuns then
      if x.kind = 2 then s.mirror id
      else if x.fwdKind = 0 then s.unicast id (16 * x.fwdIndex + x.tc) arrived
      else if x.fwdKind = 1 then s.awaitCopies id
      else if s.inService Page.spr then s.spray id x.fwdIndex arrived
      else s
    else s)

end Sys2Proof.Machine
end

