-- ==== Sys2Proof/Machine/Frames.lean ====
section
/-!
DEFINITION. Sys2Proof/Machine/Frames.lean: the frames that port engines receive and transmit: MAC checks, the fabric-mode shim, the
in-band telemetry header, timestamps and the integrity tag (08_port_engines.md, R434, R435, R550, R551, R595 to R598).
Readings and choices (notes/assumptions): DEDUCED 37, 71.
-/
namespace Sys2Proof.Machine

/-! ## Counters of frames -/

/-- The SIZE bucket of a length (FCS included). -/
def sizeBucket (n : Nat) : Nat :=
  if n ≤ 64 then 0 else if n ≤ 127 then 1 else if n ≤ 255 then 2 else if n ≤ 511 then 3 else if n ≤ 1023 then 4
  else if n ≤ 1518 then 5 else if n ≤ 9216 then 6 else 7

/-- The destination address is broadcast; multicast. -/
def isBroadcast (l : List Byte) : Bool := beAt l 0 6 == 2 ^ 48 - 1
def isMulticast (l : List Byte) : Bool := byteAt l 0 % 2 == 1 && !isBroadcast l

/-- A good frame of `n` bytes counts in OCTETS_OK, FRAMES_OK, its address kind and its SIZE bucket. -/
def State.countRx (s : State) (lp : Nat) (l : List Byte) (n : Nat) : State :=
  let s1 := (s.lpCount lp PEN.C_RX_OCTETS_OK n).lpCount lp PEN.C_RX_FRAMES_OK
  let s2 := s1.lpCount lp (if isBroadcast l then PEN.C_RX_BCAST else if isMulticast l then PEN.C_RX_MCAST else PEN.C_RX_UCAST)
  (s2.lpCount lp (PEN.C_RX_SIZE0.plus (sizeBucket n))).meter lp false n

def State.countTx (s : State) (lp : Nat) (l : List Byte) (n : Nat) : State :=
  let s1 := (s.lpCount lp PEN.C_TX_OCTETS_OK n).lpCount lp PEN.C_TX_FRAMES_OK
  let s2 := s1.lpCount lp (if isBroadcast l then PEN.C_TX_BCAST else if isMulticast l then PEN.C_TX_MCAST else PEN.C_TX_UCAST)
  (s2.lpCount lp (PEN.C_TX_SIZE0.plus (sizeBucket n))).meter lp true n

/-! ## The shim (R434) -/

/-- The eight bytes of a shim. -/
def shimBytes (x : Option (Nat × Nat)) (inband : Bool) : List Byte :=
  let v := 2 ^ 50 + b2n x.isSome * 2 ^ 49 + b2n inband * 2 ^ 48 + (x.getD (0, 0)).1 * 2 ^ 24 + (x.getD (0, 0)).2
  beBytes 8 (v * 2 ^ 12 + crc12 52 v)

/-- A shim is good: VER and CHECK. -/
def shimGood (v : Nat) : Bool := v / 2 ^ 62 == 1 && v % 4096 == crc12 52 (v / 4096)

/-! ## In-band telemetry (R595 to R598) -/

/-- The base header with its CHECK recomputed. -/
def sealBase (v : Nat) : Nat := v / 4096 * 4096 + crc12 52 (v / 4096)

/-- HOPS and MAX_HOPS of a header. -/
def hopsOf (l : List Byte) : Nat := beAt l 0 8 / 2 ^ 57 % 8
def maxHopsOf (l : List Byte) : Nat := beAt l 0 8 / 2 ^ 54 % 8

/-- A received header is good. -/
def inbandGood (l : List Byte) : Bool := beAt l 0 8 / 2 ^ 60 == 1 && beAt l 0 8 % 4096 == crc12 52 (beAt l 0 8 / 4096)

/-- MAX_HOPS of a header that this device inserts. -/
def State.maxHops (s : State) : Nat := Nat.min 4 (Nat.max 1 (s.fld Page.tel TEL.INT_CFG_MAX_HOPS))

/-- This device's hop record of a frame that leaves now. -/
def State.hopRecord (s : State) (x : Pkt) : List Byte :=
  beBytes 8 s.deviceId ++ beBytes 2 (x.ingressLp * 64 + x.tc * 4) ++ beBytes 2 (x.outLp * 64 + b2n x.viaHbm * 32)
    ++ beBytes 4 (x.ts / nsUnits % 2 ^ 32) ++ beBytes 4 (Nat.min 0xFFFFFFFF ((s.wNow - x.ts) / nsUnits))
    ++ beBytes 4 (x.qCells % 2 ^ 24)

/-- The header with a hop appended, HOPS one higher. -/
def addHop (l hop : List Byte) : List Byte := beBytes 8 (sealBase (beAt l 0 8 + 2 ^ 57)) ++ l.drop 8 ++ hop

/-- The header marked OVERFLOW. -/
def markOverflow (l : List Byte) : List Byte :=
  let v := beAt l 0 8
  beBytes 8 (sealBase (if Nat.bitAt v 53 then v else v + 2 ^ 53)) ++ l.drop 8

/-- The header that a selected frame gets: base and own hop. -/
def State.newInband (s : State) (x : Pkt) : List Byte :=
  beBytes 8 (sealBase (2 ^ 60 + 2 ^ 57 + s.maxHops * 2 ^ 54 + x.bits 181 32 16 * 2 ^ 28)) ++ s.hopRecord x

/-- The frame is selected for a header. -/
def State.inbandSelected (s : State) (x : Pkt) : Bool :=
  s.flag Page.tel TEL.INT_CFG_EN && s.works Page.tel && Word.bit (x.word (s.fld Page.tel TEL.INT_CFG_WORD)) (s.fld Page.tel TEL.INT_CFG_BIT)

/-- An INT record (R598). -/
def inbandRecord (x : Pkt) (l : List Byte) : List Byte :=
  l.take 8 ++ fit 96 (l.drop 8) ++ leBytes 2 x.outLp ++ leBytes 2 x.parcel ++ leBytes 1 (b2n (Nat.bitAt (beAt l 0 8) 53)) ++ zeros 19

/-- The header that leaves with packet `x` on its port, and what it counts or exports. -/
def State.inbandOut (s : State) (x : Pkt) : State × List Byte :=
  let p := Page.tel
  let takes := s.fabricPort x.outLp && s.agreed x.outLp 3
  if x.inband.isEmpty then
    (if takes && s.inbandSelected x then (s.count p TEL.C_INT_INSERTED, s.newInband x) else (s, []))
  else
    let room := decide (hopsOf x.inband < maxHopsOf x.inband)
    if takes then
      (if room then (s, addHop x.inband (s.hopRecord x)) else (s.count p TEL.C_INT_OVERFLOW, markOverflow x.inband))
    else if s.flag p TEL.INT_CFG_SINK_EXPORT && s.works p then
      let l := if room then addHop x.inband (s.hopRecord x) else x.inband
      ((s.exportRecord 3 (inbandRecord x l)).count p TEL.C_INT_EXPORTS, [])
    else (s, [])

/-! ## RX_FRAME (R244, R245, R271) -/

/-- Bytes that wait in the ingress FIFO of the port engine of `lp`. -/
def State.ingressFill (s : State) (lp : Nat) : Nat :=
  s.pkts.foldl (fun n e =>
    if (e.2.stage == .secRx || e.2.stage == .parse) && e.2.ring.isNone && e.2.lp / 4 == lp / 4 then n + e.2.bytes.length else n) 0

/-- A frame goes on into the device with its shim and header; it carries a tag marked bad where `bad` says so. -/
def State.takeIn (s : State) (lp : Nat) (l : List Byte) (shim : Option (Nat × Nat)) (inband : List Byte) (early bad : Bool) : State :=
  if 32768 < s.ingressFill lp + l.length then s.lpCount lp PEN.C_RX_OVERRUN
  else
    s.newPkt { stage := if s.secFld lp MSC.LP_SEC_PROTECT_RX = 1 then .secRx else .parse, bytes := l, lp := lp, ts := s.wNow,
               tagBad := bad, early := early, grp := lp / 32, ord := s.nextPkt, shim := shim, inband := inband }

/-- An accepted frame of a fabric-mode port: shim and in-band header leave it (R435, R597). -/
def State.takeFabric (s : State) (lp : Nat) (head body : List Byte) (early bad : Bool) : State :=
  let v := beAt head 0 8
  if shimGood v then
    let shim := if Nat.bitAt v 61 then some (v / 2 ^ 36 % 2 ^ 20, v / 2 ^ 12 % 2 ^ 24) else none
    let h := head.drop 8
    if h.isEmpty then s.takeIn lp body shim [] early bad
    else if inbandGood h then s.takeIn lp body shim h early bad
    else ((s.count Page.tel TEL.C_INT_BAD).raise Page.tel TEL.S_INT_BAD).takeIn lp body shim [] early bad
  else (s.count Page.spr SPR.C_SHIM_BAD).raise Page.spr SPR.S_SHIM_BAD

/-- What precedes the Ethernet frame on a fabric-mode port: the shim, and the in-band header where its INT bit says so. -/
def fabricHead (l : List Byte) : Nat := if Nat.bitAt (beAt l 0 8) 60 then 16 + 24 * hopsOf (l.drop 8) else 8

/-- The frame goes on: `n` its length, `l` its bytes without FCS. -/
def State.acceptRx (s : State) (lp : Nat) (head l : List Byte) (early bad : Bool) : State :=
  if s.fabricPort lp then s.takeFabric lp head l early bad else s.takeIn lp l none [] early bad

/-- The counter of a frame of `n` bytes that the MAC discards, by its length and FCS (R244). -/
def rxError (n max : Nat) (fcsOk : Bool) : Option Fld :=
  if n < 64 then some (if fcsOk then PEN.C_RX_UNDERSIZE else PEN.C_RX_FRAGMENTS)
  else if max < n then some (if fcsOk then PEN.C_RX_OVERSIZE else PEN.C_RX_JABBER)
  else if fcsOk then none
  else some PEN.C_RX_FCS_ERRORS

/-- RX_FRAME: `bytes` from the destination address to the FCS, in fabric mode from the shim on; `early`: the traverse took the frame
before its end, so a fault found at its end marks its tag bad instead of stopping it (R274). -/
def execRxFrame (lp : Fin 768) (bytes : List Byte) (early : Bool) (fate : RxFate) (s : State) : Result :=
  answer (if s.inService (lpPage lp) && s.linkUp lp then
      let k := if s.fabricPort lp then fabricHead bytes else 0
      let head := bytes.take k
      let l := bytes.drop k
      let n := l.length
      let max := s.maxFrame lp
      let ok := decide (4 ≤ n) && leAt l (n - 4) 4 == crcFcs (l.take (n - 4))
      let body := (l.take (n - 4)).take (max - 4)
      let control := beAt l 12 2 == 0x8808
      let why := match fate with
        | .lost => some PEN.C_RX_LOST
        | .codeError => some PEN.C_RX_CODE_ERRORS
        | .abort => some PEN.C_RX_FCS_ERRORS
        | .whole => rxError n max ok
      match why with
      | some c =>
        let s1 := s.lpCount lp c
        if early && decide (64 ≤ n) && !control && decide (s.ingressFill lp + body.length ≤ 32768) then s1.acceptRx lp head body true true else s1
      | none =>
        if control then s.macControl lp l
        else if 32768 < s.ingressFill lp + body.length then s.lpCount lp PEN.C_RX_OVERRUN
        else (s.countRx lp l n).acceptRx lp head body early false
    else s)

/-! ## Timestamps (R266 to R270, R550, R551) -/

/-- The datum of a timestamp command: 0 W, 1 A, 2 B. -/
def State.tsDatum (s : State) (x : Pkt) (l : List Byte) : Nat :=
  let cmd := x.bits 187 46 2
  let off := x.bits 187 35 9
  let back := if cmd = 1 then 34 else if cmd = 2 then 8 else 0
  let dom := byteAt l (off - back + 4)
  let sdo := byteAt l (off - back) / 16
  let hit (b : Bool) : Bool :=
    s.dOn b && s.fld Page.dtm DTM.D_CTL_DOMAIN (dIx b) == dom
      && (!s.flag Page.dtm DTM.D_CTL_SDO_MATCH (dIx b) || s.fld Page.dtm DTM.D_CTL_MAJOR_SDO (dIx b) == sdo)
  match x.bits 187 44 2 with
  | 0 =>
    if off < back ∨ Nat.min 512 l.length < off - back + 5 then 0 else if hit false then 1 else if hit true then 2 else 0
  | n => n - 1

/-- A 16-bit field of a ones' complement sum replaced: the checksum afterwards. -/
def sumReplace (c old new : Nat) : Nat :=
  let v := (65535 - c) + (65535 - old) + new
  let f := v % 65536 + v / 65536
  let g := f % 65536 + f / 65536
  65535 - g

/-- The UDP checksum at `at_` follows a change of the `n` bytes at `off` (R268): a 16-bit checksum word at a time. -/
def followChecksum (old new : List Byte) (off n at_ : Nat) (v4 : Bool) : List Byte :=
  let c := beAt old at_ 2
  if at_ = 0 ∨ (v4 ∧ c = 0) ∨ new.length < at_ + 2 then new
  else
    let c1 := (List.range (n / 2)).foldl (fun c i => sumReplace c (beAt old (off + 2 * i) 2) (beAt new (off + 2 * i) 2)) c
    overwrite new at_ (beBytes 2 (if c1 = 0 then 65535 else c1))

/-- correctionField plus the residence time, in 2^-16 ns, at the ratio of the present rates of datum `d` and W. -/
def State.corrected (s : State) (x : Pkt) (d field : Nat) : Nat :=
  let gain : Int := if d = 1 then s.dGain false else if d = 2 then s.dGain true else s.datums.gain
  let res : Int := ((s.wNow : Int) - x.ts) * (usUnits + gain) / (usUnits + s.datums.gain) / (2 ^ 40)
  let v := signed 64 field + res
  unsigned 64 (if 2 ^ 63 ≤ v then 2 ^ 63 - 1 else v)

/-- The frame with its timestamp command carried out; `lost`: the frame was on a lane that was lost (R275), so no insertion is
counted. -/
def State.stampFrame (s : State) (x : Pkt) (l : List Byte) (lost : Bool) : State × List Byte :=
  let cmd := x.bits 187 46 2
  let off := x.bits 187 35 9
  let d := s.tsDatum x l
  let n := if cmd = 1 then 10 else 8
  let on := s.wOn && s.selectedOn d
  let fits := decide (off % 2 = 0) && decide (off + n ≤ Nat.min 512 l.length)
  let entry : TsEntry := { lp := x.outLp, cookie := x.bits 187 0 16, datum := d, time := s.selected d }
  if cmd = 0 then (s, l)
  else if cmd = 3 then (s.tsCapture (x.outLp / 4) entry, l)
  else if s.secFld x.outLp MSC.LP_SEC_PROTECT_TX = 1 ∨ ¬ fits ∨ ¬ on then
    ((s.tsCapture (x.outLp / 4) entry).lpCount x.outLp PEN.C_TX_TS_REFUSED, l)
  else
    let t := s.selected d
    let v4 := (x.firstHdr (s.fld (Page.dpr x.trav) DPR.DPR_CFG_HT_IPV4)).isSome
    let l1 := overwrite l off (if cmd = 1 then beBytes 6 (datumSec t) ++ beBytes 4 (datumNs t) else beBytes 8 (s.corrected x d (beAt l off 8)))
    let l2 := followChecksum l l1 off n (x.bits 187 26 9) v4
    (if lost then s else s.lpCount x.outLp PEN.C_TX_TS_INSERTED, l2)

/-! ## TX_FRAME (R243, R259, R272 to R274) -/

/-- Lane `l` is dark in a feed failover (R134): its wavelength is moving after a failure. -/
def State.laneDark (s : State) (l : Nat) : Bool :=
  decide (l < 576) && (match (s.feed (l / 32) (l % 4)).move with | some (.failure, _) => true | _ => false)

/-- ECC errors found as the frame's cells are read (R471, R472). -/
def State.cellHit (s : State) (id : Nat) (h : RowHit) : State :=
  let p := Page.bpm
  if h.bad then (s.count p BPM.C_CELL_ECC_UNCORR).setPkt id { s.pkt id with tagBad := true, early := false }
  else
    let last := s.rowFixed.get h.row 0
    let s1 : State := { s.count p BPM.C_CELL_ECC_FIXED with rowFixed := s.rowFixed.set h.row (s.time.us + 1) 0 }
    if last ≠ 0 ∧ s.time.us + 1 - last ≤ 1000000 then s1.quarantineRow h.row else s1

/-- The frame as it leaves: shim and header in fabric mode, body, FCS or what ends a frame that is abandoned. -/
def State.putFrame (s : State) (x : Pkt) (inband l : List Byte) (good : Bool) : State :=
  let head := if s.fabricPort x.outLp then shimBytes x.outShim (!inband.isEmpty) ++ inband else []
  let fcs := crcFcs l
  if good then s.emit (.frame x.outLp (head ++ l ++ leBytes 4 fcs))
  else if s.fabricPort x.outLp then (s.emit (.frame x.outLp (head ++ l))).emit (.abort x.outLp)
  else s.emit (.frame x.outLp (l ++ leBytes 4 (2 ^ 32 - 1 - fcs)))

/-- The frame is ended with a wrong FCS or an ABORT block. -/
def State.stomp (s : State) (id : Nat) (x : Pkt) (l : List Byte) : State :=
  let y := s.inbandOut x
  (((y.1.putFrame x y.2 l false).lpCount x.outLp PEN.C_TX_STOMPED).meter x.outLp true (l.length + 4)).sentPkt id

/-- The frame leaves whole. -/
def State.transmit (s : State) (id : Nat) (x : Pkt) (l : List Byte) (lost : Bool) : State :=
  let lp := x.outLp
  let y := s.stampFrame x l lost
  let z := y.1.inbandOut x
  let n := l.length + 4
  let dark := (lanesOf lp (s.laneSet lp)).any (fun m => s.laneDark m)
  let a : EvAttr := { parcel := some x.parcel, tc := some x.tc, addr := some lp }
  let s1 := (z.1.putFrame x z.2 y.2 true).countTx lp y.2 n
  let s2 := if dark then s1.lpCount lp PEN.C_TX_DARK_LOST else s1
  let s3 := if lost then s2.lpCount lp PEN.C_TX_SPARE_LOST else s2
  ((((s3.parcelCount x.parcel 0x010 1).parcelCount x.parcel 0x018 n).survey 3 a).survey 4 a n).sentPkt id

/-- No frame for the same port that reached the port engine earlier still waits there. -/
def State.nextOut (s : State) (x : Pkt) : Bool :=
  s.pkts.all (fun e => !(e.2.stage == .transmit && e.2.outLp == x.outLp && decide (e.2.ord < x.ord)))

/-- TX_FRAME. `started`: transmission had begun when the fault of `fate` was found; `laneLost`: the frame was on a lane that was lost,
or spanned a change of lane set; `rows`: ECC errors in the cells read. A frame whose port is down is lost with it. -/
def execTxFrame (id : Nat) (fate : TxFate) (started laneLost : Bool) (rows : List RowHit) (s : State) : Result :=
  answer (
    let x0 := s.pkt id
    let p := lpPage x0.outLp
    if x0.stage = .transmit ∧ s.nextOut x0 then
      let s1 := rows.foldl (fun (s : State) (h : RowHit) => s.cellHit id h) s
      let x := s1.pkt id
      let l := fit (Nat.max 60 x.bytes.length) x.bytes
      let tag (s : State) : State := (s.lpCount x.outLp PEN.C_TX_TAG_ERRORS).raise p PEN.S_TAG_ERROR
      if !s.inService p || !s.linkUp x.outLp then (s1.sentDropped x).dropPkt id
      else if x.tagBad && x.early && x.cut && fate == .sent then s1.stomp id x l
      else if x.tagBad || fate == .tagFails then
        (if started then (tag s1).stomp id x l else ((tag s1).sentDropped x).dropPkt id)
      else if fate = .underrun then ((s1.lpCount x.outLp PEN.C_TX_UNDERRUN).raise p PEN.S_TX_UNDERRUN).stomp id x l
      else s1.transmit id x l laneLost
    else s)

end Sys2Proof.Machine
end

