-- ==== Sys2Proof/Machine/Flash.lean ====
section
/-!
DEFINITION. Sys2Proof/Machine/Flash.lean: the contents of the flash devices FA and FB (R643, R645): a program clears bits, an
erase sets a 4 KiB sector to ones.
Readings and choices (notes/assumptions): DEDUCED 75; DESIGN CHOICE 6, 82.
-/
namespace Sys2Proof.Machine

/-- Key of address `a` of device `d` (0: FA, 1: FB). -/
def flashKey (d a : Nat) : Nat := d * 2 ^ 32 + a

/-- `n` bytes of device `d` from address `a`. -/
def State.flashRead (s : State) (d a n : Nat) : List Byte :=
  (List.range n).map (fun i => s.flash.get (flashKey d (a + i)) dflt.flash)

/-- One byte stored as it is. -/
def State.flashPut (s : State) (d a : Nat) (b : Byte) : State := { s with flash := s.flash.set (flashKey d a) b dflt.flash }

/-- A sector erased. -/
def State.flashErase (s : State) (d a : Nat) : State :=
  let lo := flashKey d (a / 4096 * 4096)
  { s with flash := s.flash.clear (fun k => decide (lo ≤ k) && decide (k < lo + 4096)) }

/-- Bytes programmed from address `a`: a program turns ones into zeros and never back. -/
def State.flashProgram (s : State) (d a : Nat) (l : List Byte) : State :=
  match l with
  | [] => s
  | b :: l => (s.flashPut d a (s.flash.get (flashKey d a) dflt.flash &&& b)).flashProgram d (a + 1) l

/-- `n` free bytes; the counter of free values moves on by `n`. -/
def State.freeBytes (s : State) (n : Nat) : List Byte :=
  (List.range n).map (fun i => BitVec.ofNat 8 (Config.freeValue (s.draws + i)).toNat)
def State.drawnBy (s : State) (n : Nat) : State := { s with draws := s.draws + n }

end Sys2Proof.Machine
end

