-- ==== Sys2Proof/Machine/Thermal.lean ====
section
/-!
DEFINITION. Sys2Proof/Machine/Thermal.lean: what the temperature sensors and the engines read, and the sources that follow
(05_optical_engines.md, R161; 22_package_and_electrical.md, R679, R682).
Readings and choices (notes/assumptions): DEDUCED 30; DESIGN CHOICE 47.
-/
namespace Sys2Proof.Machine

/-- The switched domain that sensor `j` lies in. -/
def sensorDomain (j : Nat) : Option Nat :=
  if j = 24 then some 28
  else if 30 ≤ j ∧ j < 34 then some (j - 6)
  else if 34 ≤ j ∧ j < 40 then some (j - 16)
  else none

/-- The field that shows sensor `j`. -/
def sensorFld (j : Nat) : Fld := if j % 3 = 0 then THM.THM_SENSOR_T0 else if j % 3 = 1 then THM.THM_SENSOR_T1 else THM.THM_SENSOR_T2

/-- A temperature as its 16-bit field shows it: 1/256 °C. From 128 °C up it does not fit, and the spec states no result: an open
value. -/
def State.shownAs (s : State) (t : Int) : Nat := if -32768 ≤ t ∧ t ≤ 32767 then unsigned 16 t else s.free % 65536

/-- The state after such a field is written. -/
def State.shownDraw (s : State) (t : Int) : State := if -32768 ≤ t ∧ t ≤ 32767 then s else s.drawn

/-- What sensor `j` reads; none for 0x8000. -/
def State.sensor (s : State) (j : Nat) : Option Int := s.sensorT.get j dflt.sensorT

def State.setSensor (s : State) (j : Nat) (t : Option Int) : State :=
  let s1 : State := { s with sensorT := s.sensorT.set j t dflt.sensorT }
  match t with
  | some i => (s1.setFld Page.thm (sensorFld j) (s.shownAs i) (j / 3)).shownDraw i
  | none => s1.setFld Page.thm (sensorFld j) 0x8000 (j / 3)

/-- Sensor `j` can be read: not reserved, and its domain is on. -/
def State.sensorOn (s : State) (j : Nat) : Bool :=
  decide (j < 42) && (match sensorDomain j with
    | some d => s.domainUp d
    | none => true)

/-- A reading within −60 °C to 200 °C, in 1/256 °C. -/
def inRange (t : Option Int) : Option Int :=
  match t with
  | some i => if -15360 ≤ i ∧ i ≤ 51200 then some i else none
  | none => none

/-- A reading goes into its field; a sensor that has failed is in the list `failed`. -/
def State.readSensor (s : State) (j : Nat) (t : Option Int) : State :=
  if !s.sensorOn j then s.setSensor j none
  else
    let s1 := s.setSensor j (inRange t)
    if (inRange t).isSome then s1 else { s1 with aon := { s1.aon with failed := s1.aon.failed ++ [j] } }

/-- The highest valid reading, with its sensor. -/
def State.hottest (s : State) : Option (Int × Nat) :=
  (List.range 48).foldl (fun (b : Option (Int × Nat)) (j : Nat) =>
    match s.sensor j, b with
    | some t, some x => if x.1 < t then some (t, j) else b
    | some t, none => some (t, j)
    | none, _ => b) none

/-- A threshold in 1/256 °C: above 150 it acts as 150. -/
def threshold (v : Nat) : Int := ((Nat.min v 150 * 256 : Nat) : Int)

/-- TEMP_WARN or TEMP_HOT at threshold `t`: set when MAX_T reaches it; again only after MAX_T has fallen strictly below it less 5 °C. -/
def State.thermSource (s : State) (max : Option Int) (t : Int) (flag : Fld) (src : Nat) : State :=
  let p := Page.thm
  let above := match max with
    | some m => decide (t ≤ m)
    | none => false
  let under := match max with
    | some m => decide (m < t - 1280)
    | none => true
  let held := Word.bit (s.reg p TB.FAULT_CAUSE) src
  let s1 := s.setFlag p flag above
  if above && !held then s1.raise p src else if under then s1.clearCause p src else s1

/-- THM_STATUS and the two thresholds follow the sensors (R682); MAX_T shows what the hottest sensor's field shows. -/
def State.thermJudge (s : State) : State :=
  let p := Page.thm
  let max := s.hottest
  let s4 := (s.setFld p THM.THM_STATUS_MAX_T (match max with
      | some x => s.fld p (sensorFld x.2) (x.2 / 3)
      | none => 0)).setFld p THM.THM_STATUS_MAX_SENSOR (match max with
      | some x => x.2
      | none => 0)
  let s5 := s4.thermSource (max.map (·.1)) (threshold (s4.fld p THM.THM_CFG_WARN_T)) THM.THM_STATUS_WARN THM.S_TEMP_WARN
  s5.thermSource (max.map (·.1)) (threshold (s5.fld p THM.THM_CFG_HOT_T)) THM.THM_STATUS_HOT THM.S_TEMP_HOT

/-- SENSOR_FAILED and SENSOR_FAIL follow the list of failed sensors, which was `was`. -/
def State.failFollow (s : State) (was : List Nat) : State :=
  let p := Page.thm
  let now := s.aon.failed
  let s2 := s.setFlag p THM.THM_STATUS_SENSOR_FAILED (!now.isEmpty)
  if now.any (fun j => !was.contains j) then s2.raise p THM.S_SENSOR_FAIL
  else if now.isEmpty then s2.clearCause p THM.S_SENSOR_FAIL else s2

/-- Domain `d` is off: its sensor reads 0x8000. -/
def State.sensorsOff (s : State) (d : Nat) : State :=
  let l := (List.range 42).filter (fun j => sensorDomain j == some d)
  if l.isEmpty then s
  else
    let was := s.aon.failed
    let s1 := l.foldl (fun (s : State) (j : Nat) => s.setSensor j none)
      ({ s with aon := { s.aon with failed := was.filter (fun j => !l.contains j) } } : State)
    (s1.failFollow was).thermJudge

/-- The temperature of engine `k`, in 1/256 °C. -/
def State.engTemp (s : State) (k : Nat) : Int := s.engineT.get k dflt.engineT

/-- The same as ENG_TEMP shows it. -/
def State.engShown (s : State) (k : Nat) : Int := signed 16 (s.fld (Page.oen k) OEN.OEN_STATUS_ENG_TEMP)

/-- Engine `k` reads `t`; strictly above 145 °C it sets ENGINE_HOT. -/
def State.readEngine (s : State) (k : Nat) (t : Int) : State :=
  let p := Page.oen k
  let s1 := (({ s with engineT := s.engineT.set k t dflt.engineT } : State).setFld p OEN.OEN_STATUS_ENG_TEMP (s.shownAs t)).shownDraw t
  if 145 * 256 < t then (if Word.bit (s1.reg p TB.FAULT_CAUSE) OEN.S_ENGINE_HOT then s1 else s1.raise p OEN.S_ENGINE_HOT)
  else s1.clearCause p OEN.S_ENGINE_HOT

end Sys2Proof.Machine
end

