-- ==== Sys2Proof/Machine/Optical.lean ====
section
/-!
DEFINITION. Sys2Proof/Machine/Optical.lean: optical engines: ring tuning, calibration slots, fibre attach units, the loop-back
tap and lane moves (05_optical_engines.md).
Readings and choices (notes/assumptions): DEDUCED 30, 31, 32.
-/
namespace Sys2Proof.Machine

/-! ## Calibration slots (R163 to R167) -/

def State.cal (s : State) (k : Nat) : Cal := s.cals.get k dflt.cal
def State.setCal (s : State) (k : Nat) (c : Cal) : State := { s with cals := s.cals.set k c dflt.cal }

/-- Address of slot A (`b` false) or B of engine `k` (R645). -/
def calAddr (k : Nat) (b : Bool) : Nat := 0x40000 + (2 * k + (if b then 1 else 0)) * 0x1000

/-- A ring record from its 16 bytes (R163). -/
def ringCalOf (l : List Byte) : RingCal :=
  { valid := byteAt l 12 % 2 == 1, code := leAt l 0 2, tRef := signed 16 (leAt l 2 2), slope := signed 16 (leAt l 4 2),
    bias := leAt l 6 2, txCal := leAt l 8 2, rxCal := leAt l 10 2 }

/-- A ring record as 16 bytes. -/
def ringCalBytes (c : RingCal) : List Byte :=
  leBytes 2 c.code ++ leBytes 2 (unsigned 16 c.tRef) ++ leBytes 2 (unsigned 16 c.slope) ++ leBytes 2 c.bias
    ++ leBytes 2 c.txCal ++ leBytes 2 c.rxCal ++ leBytes 1 (if c.valid then 1 else 0) ++ zeros 3

/-- The copy is valid for engine `k` (R164). -/
def calValid (k : Nat) (l : List Byte) : Bool :=
  leAt l 0x3FC 4 == 0x5A5AA5A5 && decide (leAt l 0x3F8 4 = crc32c (l.take 0x3F8)) && leAt l 0 4 == 0x4C43454F
    && leAt l 4 2 == 1 && byteAt l 6 == k && leAt l 8 4 != 0xFFFFFFFF

/-- The copy is erased (R164). -/
def calErased (l : List Byte) : Bool := l.all (fun b => b == 0xFF)

/-- The copies of engine `k`'s slots: device, slot B, contents; FA before FB. -/
def State.calCopies (s : State) (k : Nat) : List (Nat × Bool × List Byte) :=
  [(0, false), (0, true), (1, false), (1, true)].map (fun c => (c.1, c.2, s.flashRead c.1 (calAddr k c.2) 1024))

/-- The copy to load: the highest SEQ, and of equal ones the first. -/
def calBest (l : List (Nat × Bool × List Byte)) : Option (Nat × Bool × List Byte) :=
  l.foldl (fun best c => match best with
    | none => some c
    | some b => if leAt b.2.2 8 4 < leAt c.2.2 8 4 then some c else some b) none

/-- The calibration load of a reset that reaches engine `k` (R165). -/
def State.calLoad (s : State) (k : Nat) : State :=
  let p := Page.oen k
  let copies := s.calCopies k
  let s1 := copies.foldl
    (fun s c => s.raiseIf (!calValid k c.2.2 && !calErased c.2.2) p OEN.S_CAL_SLOT_BAD) s
  match calBest (copies.filter (fun c => calValid k c.2.2)) with
  | some (d, b, l) =>
    let rings := (List.range 32).map (fun i => ringCalOf ((l.drop (0x20 + 16 * i)).take 16))
    let s2 := (s1.setCal k { rings := rings, autoDue := false }).setReg p OEN.CAL_STATUS 0
    ((((s2.setFld p OEN.CAL_STATUS_SEQ (leAt l 8 4)).setFld p OEN.CAL_STATUS_DEVICE d).setFlag p OEN.CAL_STATUS_SLOT b).setFlag
      p OEN.CAL_STATUS_VALID true).clearCause p OEN.S_CAL_NONE
  | none => ((s1.setCal k { autoDue := true }).setReg p OEN.CAL_STATUS 0).raise p OEN.S_CAL_NONE

/-- The ring records that a save writes (R166 step 2). -/
def State.calRings (s : State) (k : Nat) : List RingCal :=
  (List.range 32).map (fun i =>
    let c := (s.cal k).rings.getD i {}
    let l := 32 * k + i
    if s.ringState l = 1 then
      { c with valid := true, code := s.fld (Page.lane l) OLN.RING_STATUS_CODE, tRef := s.engShown k }
    else c)

/-- The body of the new slot, offsets 0x000 to 0x3FB (R163). -/
def State.calBody (s : State) (k seq : Nat) : List Byte :=
  let head := leBytes 4 0x4C43454F ++ leBytes 2 1 ++ leBytes 1 k ++ zeros 1 ++ leBytes 4 seq
    ++ leBytes 2 (unsigned 16 (s.engShown k)) ++ leBytes 1 32 ++ zeros 1 ++ leBytes 4 (datumSec (if s.wOn then s.time.w else 0))
    ++ zeros 12
  let l := head ++ (s.calRings k).flatMap ringCalBytes ++ zeros 472
  l ++ leBytes 4 (crc32c l)

/-- One device of the write: erase, body, COMMIT (R166 steps 3 to 5). -/
def State.calWriteDev (s : State) (d a : Nat) (body : List Byte) : State :=
  ((s.flashErase d a).flashProgram d a body).flashProgram d (a + 0x3FC) (leBytes 4 0x5A5AA5A5)

/-- A device whose write failed: erased, its body open, COMMIT not written. -/
def State.calFailDev (s : State) (d a : Nat) : State :=
  ((s.flashErase d a).flashProgram d a (s.freeBytes 0x3FC)).drawnBy 0x3FC

/-- A calibration slot write ends (R166). -/
def State.calWrite (s : State) (k : Nat) (met : CalOutcome) : State :=
  let p := Page.oen k
  let valid := s.flag p OEN.CAL_STATUS_VALID
  let seq := if valid then s.fld p OEN.CAL_STATUS_SEQ + 1 else 1
  let b := valid && !s.flag p OEN.CAL_STATUS_SLOT
  let a := calAddr k b
  let body := s.calBody k seq
  let s0 := s.setFlag p OEN.CAL_STATUS_BUSY false
  match met with
  | .done =>
    let s1 := (s0.calWriteDev 0 a body).calWriteDev 1 a body
    let s2 := s1.setCal k { rings := s.calRings k, autoDue := false }
    ((s2.setFld p OEN.CAL_STATUS_SEQ seq).setFlag p OEN.CAL_STATUS_SLOT b).setFlag p OEN.CAL_STATUS_VALID true
  | .failA => (s0.calFailDev 0 a).raise p OEN.S_CAL_WRITE_FAIL
  | .failB => ((s0.calWriteDev 0 a body).calFailDev 1 a).raise p OEN.S_CAL_WRITE_FAIL

/-! ## Rings (R156 to R161) -/

/-- The hold code of a ring (R156); where the product is no whole code, which of its two neighbours is open. -/
def State.holdCode (s : State) (l : Nat) : Nat :=
  let c := (s.cal (l / 32)).rings.getD (l % 32) {}
  if c.valid then
    let x := c.slope * (s.engTemp (l / 32) - c.tRef)
    let v := (c.code : Int) + x / 256 + (if x % 256 = 0 then 0 else ((s.free % 2 : Nat) : Int))
    (if v < 0 then 0 else if 65535 < v then 65535 else v).toNat
  else 32768

/-- A ring in NOT-LOCKED sits at its recomputed HOLD (R156, R157). -/
def State.holdRing (s : State) (l : Nat) : State :=
  let h := s.holdCode l
  ((s.setFld (Page.lane l) OLN.RING_STATUS_HOLD h).setFld (Page.lane l) OLN.RING_STATUS_CODE h).drawn

/-- The carrying feed of the ring's wavelength is lit and its module READY (R158). -/
def State.feedLit (s : State) (l : Nat) : Bool :=
  let w := l % 4
  let a := 2 * (l / 32)
  (s.carries a w && s.laserReady a w) || (s.carries (a + 1) w && s.laserReady (a + 1) w)

/-- The ring leaves lock: its lane is darkened and lost (R160, R161). -/
def State.ringLost (s : State) (l : Nat) : State :=
  let s1 := (s.ringTo l 0).laneRaise l OLN.S_RING_UNLOCK
  let s2 := if s1.laneUp l then s1.loseLane l else s1
  s2.portsFollow (l / 4)

/-! ## Fibre attach units and lanes -/

def execFauPresenceChange (k : Fin 18) (present : Bool) (s : State) : Result :=
  answer (
    let p := Page.oen k
    if s.flag p OEN.OEN_STATUS_FAU_PRESENT == present then s
    else
      let s1 := (s.setFlag p OEN.OEN_STATUS_FAU_PRESENT present).raise p OEN.S_FAU_CHANGE
      (List.range 8).foldl (fun s i => s.portsFollow (8 * k.val + i)) s1)

/-- A change of signal detect: the peer is gone in TRAIN, LOCK and TIE-IN (R197); RX_LOS in service (R169). -/
def State.opticalDetect (s : State) (l : Nat) (det : Bool) : State :=
  let p := Page.lane l
  if s.flag p LN.LANE_STATUS_SIG_DET == det then s
  else
    let s1 := s.setFlag p LN.LANE_STATUS_SIG_DET det
    if det then s1.clearCause p OLN.S_RX_LOS
    else if s1.laneTrying l then (s1.peerGone l).portsFollow (l / 4)
    else if s1.laneUp l then s1.laneRaise l OLN.S_RX_LOS
    else s1

/-- Received power that has lasted its filter time, in 0.01 dBm (R154). -/
def execOpticalSignalDetect (l : Fin 576) (power : Int) (s : State) : Result :=
  answer (
    let s1 := s.setFld (Page.lane l) OLN.OPT_POWER_RX_POWER (unsigned 16 power)
    if -1400 ≤ power then s1.opticalDetect l true
    else if power < -1600 then s1.opticalDetect l false
    else s1)

def execLosHoldExpiry (l : Fin 576) (s : State) : Result :=
  answer (if s.flag (Page.lane l) LN.LANE_STATUS_SIG_DET then s else s.loseLane l)

def execRingHoldUpdate (l : Fin 576) (s : State) : Result :=
  answer (if s.ringState l = 0 then s.holdRing l else s)

/-- Lock is found once the feed is lit (R158). -/
def execRingLockFound (l : Fin 576) (code : Fin 65536) (s : State) : Result :=
  answer (if s.ringState l = 0 ∧ s.feedLit l ∧ s.threadRuns l then
      let s1 := (s.ringTo l 1).setFld (Page.lane l) OLN.RING_STATUS_CODE code
      let s2 := s1.setLane l { s1.lane l with sweep := false }
      (s2.clearCause (Page.lane l) OLN.S_RING_UNLOCK).portsFollow (l / 4)
    else s)

def execRingSeekTimeout (l : Fin 576) (s : State) : Result :=
  answer (if s.ringState l = 0 then s.setLane l { s.lane l with sweep := true } else s)

def execRingLimit (l : Fin 576) (top : Bool) (s : State) : Result :=
  answer (if s.ringState l = 0 then
      let s1 := (s.ringTo l 4).setFld (Page.lane l) OLN.RING_STATUS_CODE (if top then 65535 else 0)
      (s1.setLane l { s1.lane l with sweep := false, limitT := s.engTemp (l / 32) }).laneRaise l OLN.S_RING_LIMIT
    else s)

/-- LIMIT ends when the engine temperature has moved at least 5 °C (R159). -/
def execRingLimitRelease (l : Fin 576) (s : State) : Result :=
  answer (
    let d := s.engTemp (l / 32) - (s.lane l).limitT
    if s.ringState l = 4 ∧ (1280 ≤ d ∨ d ≤ -1280) then
      ((s.ringTo l 0).clearCause (Page.lane l) OLN.S_RING_LIMIT).holdRing l
    else s)

def execRingUnlock (l : Fin 576) (s : State) : Result :=
  answer (if s.ringState l = 1 then (s.count (Page.lane l) OLN.RELOCKS).ringLost l else s)

def execRingFreeze (l : Fin 576) (s : State) : Result :=
  answer (if s.ringState l = 1 then s.ringTo l 2 else s)

def execRingUnfreeze (l : Fin 576) (s : State) : Result :=
  answer (if s.ringState l = 2 then s.ringTo l 1 else s)

def execFrozenHoldExpiry (l : Fin 576) (s : State) : Result :=
  answer (if s.ringState l = 2 then s.ringLost l else s)

/-! ## Calibration commands -/

def execCalSave (k : Fin 18) (why : CalWhy) (s : State) : Result :=
  answer (
    let p := Page.oen k
    match why with
    | .write r data => s.hostWrite r p OEN.CAL_CMD 0 true fun s =>
        if Word.bit data 0 then s.setFlag p OEN.CAL_STATUS_BUSY true else s
    | .auto =>
      if s.flag p OEN.OEN_CTL_AUTO_SAVE && (s.cal k).autoDue && s.fld p OEN.OEN_STATUS_RINGS_LOCKED == 32 then
        (s.setFlag p OEN.CAL_STATUS_BUSY true).setCal k { s.cal k with autoDue := false }
      else s)

def execCalWriteDone (k : Fin 18) (met : CalOutcome) (s : State) : Result :=
  answer (if s.flag (Page.oen k) OEN.CAL_STATUS_BUSY then s.calWrite k met else s)

/-! ## Lane moves (R171, R172, R255) -/

/-- The outstanding request of a port, where the message answers it. -/
def State.answered (s : State) (lp : Nat) (msg : List Byte) (type : Nat) : Option MoveReq :=
  if msg.length = 31 ∧ byteAt msg 0 = type ∧ beAt msg 29 2 = crc16 (msg.take 29) then
    match (s.port lp).move with
    | some m => if byteAt msg 1 = m.seq ∧ m.restore = (type == 5) then some m else none
    | none => none
  else none

/-- The peer acknowledged: both ends change to the mask it repeats, or to the intersection of crossing requests. -/
def execMoveAck (lp : Fin 768) (msg : List Byte) (s : State) : Result :=
  answer (match s.answered lp msg 3 with
    | some m => s.changeSet lp (Nat.land m.mask (byteAt msg 2 % 16))
    | none => s)

def execRestoreAck (lp : Fin 768) (msg : List Byte) (s : State) : Result :=
  answer (match s.answered lp msg 5 with
    | some m => s.changeSet lp (Nat.lor (s.laneSet lp) (Nat.land m.mask (byteAt msg 2 % 16)))
    | none => s)

/-- No acknowledgement of a move: the port falls back to HALF (R171); a restore is given up. -/
def execMoveAckTimeout (lp : Fin 768) (s : State) : Result :=
  answer (match (s.port lp).move with
    | some m =>
      let s1 := s.setPort lp { s.port lp with move := none }
      if m.restore then s1
      else
        let s2 := if lp.val / 4 < 144 then s1.raise (Page.oen (lp / 32)) OEN.S_SPARE_REFUSED
                  else s1.raise (lpPage lp) PEN.S_LANE_MOVE_REFUSED
        let i := ((List.range 4).find? (fun i => Nat.bitAt m.lost i)).getD 0
        s2.goHalf lp i m.lost
    | none => s)

/-- Lanes of a port that are SPARED and whose test passed, as a mask. -/
def State.testedMask (s : State) (lp : Nat) : Nat :=
  (List.range 4).foldl (fun v i =>
    setBitN v i (Nat.bitAt (s.sparedMask lp) i && (s.lane (lp / 4 * 4 + i)).testOk)) 0

/-- RESTORE of one logical port (R172): a request under FABRIC, a restart at full width under HALF. -/
def State.restorePort (s : State) (lp : Nat) : State :=
  let ok := s.testedMask lp
  if !s.lpEnabled lp || ok == 0 then s
  else if (s.port lp).width = 1 then s.request lp (Nat.lor (s.laneSet lp) ok) 0 true
  else if ok = s.sparedMask lp then
    let s1 := (lanesOf lp ok).foldl (fun s l => s.toDetect l true) s
    s1.restartPort lp (s.configured lp) 0
  else s

def execSpareRestore (r : Req) (k : Fin 18) (data : Word) (s : State) : Result :=
  answer (s.hostWrite r (Page.oen k) OEN.SPARE_CMD 0 true fun s =>
    (List.range 32).foldl (fun s i =>
      if Word.bit data (i / 4) && s.created (32 * k.val + i) then s.restorePort (32 * k.val + i) else s) s)

/-! ## The loop-back tap (R174, R175) -/

/-- The lane carries no traffic, so that a closure run may use it. -/
def State.idleLane (s : State) (l : Nat) : Bool := s.lstate l == lsSpared || !s.member l

def execTapClosureRun (l : Fin 576) (first second : Bool) (s : State) : Result :=
  answer (
    let k := l.val / 32
    if s.flag (Page.oen k) OEN.TAP_SEL_EN || !s.idleLane l || s.lstate l == lsTest || !s.powered (Page.lane l) then s
    else if first || second then s.clearCause (Page.lane l) OLN.S_TAP_FAIL
    else s.laneRaise l OLN.S_TAP_FAIL)

def execTapSelWrite (r : Req) (k : Fin 18) (data : Word) (s : State) : Result :=
  answer (s.hostWrite r (Page.oen k) OEN.TAP_SEL 0 false fun s =>
    s.setReg (Page.oen k) OEN.TAP_SEL
      (BitVec.ofNat 48 ((mergeHalf r.size (s.reg (Page.oen k) OEN.TAP_SEL) data).toNat % 64)))

/-- The minimum launch power of each lane rate, in 0.01 dBm (R152). -/
def minLaunch (rate : Nat) : Int :=
  match rate with
  | 4 => -150
  | 3 => -250
  | 2 => -320
  | 1 => -400
  | _ => -500

/-- Launch power measured over 1 ms while the lane emits (R152). -/
def execTxPowerLow (l : Fin 576) (power : Int) (s : State) : Result :=
  answer (
    let p := Page.lane l
    let s1 := s.setFld p OLN.OPT_POWER_TX_POWER (unsigned 16 power)
    if s.lstate l ≠ lsDark ∧ s.ringModulates l ∧ power < minLaunch (s.fld p LN.LANE_CTL_RATE) then
      s1.laneRaise l OLN.S_TX_POWER_LOW
    else s1)

end Sys2Proof.Machine
end

