-- ==== Sys2Proof/Machine/Overflow.lean ====
section
/-!
DEFINITION. Sys2Proof/Machine/Overflow.lean: the overflow memory controller (16_overflow_memory.md).
Readings and choices (notes/assumptions): DEDUCED 63, 64.
-/
namespace Sys2Proof.Machine

/-- A HALTED overflow memory gives no service (R608): what it held of queues is lost. -/
def State.ovmFollow (s : State) : State :=
  if s.isHalted Page.ovm then
    ((s.queues.filter (fun (e : Nat × Queue) => e.2.spilling)).map (·.1)).foldl (fun (s : State) (n : Nat) => s.loseChain n) s
  else s

/-! ## Bandwidth and reservations (R527 to R530) -/

def State.stackRetired (s : State) (h : Nat) : Nat := s.fld Page.ovm OVM.STACK_STATUS_RETIRED h

/-- Deliverable bandwidth in units of 10 Mb/s. -/
def State.deliverable (s : State) : Nat :=
  (List.range 4).foldl (fun (n : Nat) (h : Nat) =>
    n + (64 - s.stackRetired h) * (if s.flag Page.ovm OVM.STACK_STATUS_HOT h then 19456 else 20480)) 0

/-- The budget B in Gb/s. -/
def State.budget (s : State) : Nat := s.deliverable * 9 / 1000

/-- A reservation of `r` after its share of a cut of `cut` over reservations of `sum`, rounded up. -/
def cutShare (r cut sum : Nat) : Nat := r - (r * cut + sum - 1) / Nat.max 1 sum

/-- Effective reservations of configured ones `l` under budget `b` (R530). -/
def effective (l : List Nat) (b : Nat) : List Nat :=
  let r (i : Nat) : Nat := l.getD i 0
  let excess := r 0 + r 1 + r 2 + r 3 + r 4 - b
  let fd := r 3 + r 4
  let c1 := Nat.min excess fd
  let c2 := Nat.min (excess - c1) (r 2)
  let c3 := Nat.min (excess - c1 - c2) (r 0)
  let c4 := excess - c1 - c2 - c3
  [r 0 - c3, r 1 - c4, r 2 - c2, cutShare (r 3) c1 fd, cutShare (r 4) c1 fd]

/-- D, B and the effective reservations follow a change; each cut is an event. -/
def State.shed (s : State) : State :=
  let p := Page.ovm
  let eff := effective s.reserved s.budget
  let less := (List.range 5).any (fun i => decide (eff.getD i 0 < s.fld p OVM.RES_EFFECTIVE i))
  let s1 := (s.setFld p OVM.RES_STATUS_DELIVERABLE (s.deliverable / 100)).setFld p OVM.RES_STATUS_BUDGET s.budget
  let s2 := (List.range 5).foldl (fun (s : State) (i : Nat) => s.setFld p OVM.RES_EFFECTIVE (eff.getD i 0) i) s1
  if less then (s2.count p OVM.C_SHED_EVENTS).raise p OVM.S_SHED else if eff = s.reserved then s2.clearCause p OVM.S_SHED else s2

def execResApply (r : Req) (data : Word) (s : State) : Result :=
  answer ((s.hostWrite r Page.ovm OVM.RES_CMD 0 true fun s =>
    let p := Page.ovm
    let l := (List.range 5).map (fun i => s.fld p OVM.RES_RESERVED i)
    if !Word.bit data 0 then s
    else if l.foldl (· + ·) 0 ≤ s.budget then
      (List.range 5).foldl (fun (s : State) (i : Nat) => s.setFld p OVM.RES_EFFECTIVE (l.getD i 0) i)
        ((({ s with reserved := l } : State).setFlag p OVM.RES_STATUS_RES_ERR false).clearCause p OVM.S_SHED)
    else (s.setFlag p OVM.RES_STATUS_RES_ERR true).raise p OVM.S_RES_REFUSED).ovmFollow)

/-! ## Stacks (R511, R523, R535) -/

/-- HBM service is lost (R535): every spilling queue loses its overflow part. -/
def State.hbmLost (s : State) : State :=
  let l := (s.queues.filter (fun (e : Nat × Queue) => e.2.spilling)).map (·.1)
  l.foldl (fun (s : State) (n : Nat) => s.loseChain n) (s.raise Page.ovm OVM.S_HBM_LOST)

/-- A stack completes its training; with all four trained the OVM page leaves RESET. -/
def execStackTrained (h : Fin 4) (s : State) : Result :=
  answer (
    let p := Page.ovm
    if s.domainUp (24 + h) then
      let s1 := s.setFlag p OVM.STACK_STATUS_TRAINED true h
      let all := (List.range 4).all (fun i => s1.domainUp (24 + i) && s1.flag p OVM.STACK_STATUS_TRAINED i)
      let s2 := if all then s1.clearCause p OVM.S_HBM_LOST else s1
      if all ∧ s2.fld p TB.PAGE_STATE_STATE = 1 then s2.setBlockState p (if (s2.pg p).heldH != 0 then 5 else 2) else s2
    else s)

/-- THERM_THRESH, kept to 70 to 105 °C. -/
def State.thermThresh (s : State) : Int := (Nat.min 105 (Nat.max 70 (s.fld Page.ovm OVM.SCHED_CFG_THERM_THRESH)) : Nat)

/-- The temperature of a stack is read, in 1/256 °C; refresh doubles above the threshold. -/
def execStackTempSample (h : Fin 4) (temp : Int) (s : State) : Result :=
  answer ((
    let p := Page.ovm
    if s.domainUp (24 + h) && s.flag p OVM.STACK_STATUS_TRAINED h then
      let s1 := s.setFld p OVM.STACK_STATUS_TEMP (unsigned 16 temp) h
      let hot := s.flag p OVM.STACK_STATUS_HOT h
      if !hot && decide (s.thermThresh * 256 < temp) then
        ((s1.setFlag p OVM.STACK_STATUS_HOT true h).raise p OVM.S_STACK_HOT).shed
      else if hot && decide (temp ≤ (s.thermThresh - 5) * 256) then ((s1.setFlag p OVM.STACK_STATUS_HOT false h).clearCause p OVM.S_STACK_HOT).shed
      else s1
    else s).ovmFollow)

/-- A stack loses its interface: service is lost. -/
def execStackInterfaceLoss (h : Fin 4) (s : State) : Result :=
  answer (if s.flag Page.ovm OVM.STACK_STATUS_TRAINED h then (s.setFlag Page.ovm OVM.STACK_STATUS_TRAINED false h).hbmLost else s)

/-- A bank owes a refresh (R523): `waiting` requests postpone it, up to eight; a ninth is forced. -/
def execRefreshDue (pc : Fin 256) (bank : Nat) (waiting : Bool) (s : State) : Result :=
  answer (
    let k := pc * 256 + bank % 256
    let n := s.postponed.get k 0
    if !waiting then { s with postponed := s.postponed.set k 0 0 }
    else if n < 8 then { s with postponed := s.postponed.set k (n + 1) 0 }
    else s.count Page.ovm OVM.C_REFRESH_FORCED)

/-- A pseudo-channel's queued writes are issued; `held` reads had waited for them (R524). -/
def execWriteBurst (pc : Fin 256) (held : Nat) (s : State) : Result :=
  answer (if s.pcRetired pc then s else s.count Page.ovm OVM.C_HAZARD_WAITS held)

/-! ## Layout (R513, R514) -/

/-- Chunks of the overflow area for these units, all pseudo-channels in service. -/
def layoutChunks (tbl flow dump : Nat) : Nat :=
  let used := (tbl * 3 + flow + dump) * 2 ^ 15
  50331648 - used - 18 * used / 256

/-- Chunks in service, less the shares of the retired pseudo-channels (R534). -/
def State.chunksInService (s : State) : Nat :=
  let n := layoutChunks s.tblUnits s.flowUnits s.dumpUnits
  n - n / 256 * ((List.range 4).map s.stackRetired).foldl (· + ·) 0

/-- The lowest reason to refuse LAYOUT_CMD.APPLY; 0: none. -/
def State.layoutReason (s : State) : Nat :=
  let p := Page.ovm
  if !s.hbmChunks.isEmpty then 1
  else if s.ents.any (fun e => e.1 / 2 ^ 48 == spDesc && (descOf e.2).valid && (descOf e.2).type == 5) then 2
  else if s.flag Page.tel TEL.FLOW_CFG_BACKING || (s.flag Page.dmp DMP.DMP_CFG_EN && s.flag Page.dmp DMP.DMP_CFG_DEST) then 3
  else if 64 < s.fld p OVM.LAYOUT_TBL_UNITS ∨ 64 < s.fld p OVM.LAYOUT_FLOW_UNITS ∨ 64 < s.fld p OVM.LAYOUT_DUMP_UNITS then 4
  else if s.relocating.any (fun b => b) then 5
  else 0

def execLayoutApply (r : Req) (data : Word) (s : State) : Result :=
  answer ((s.hostWrite r Page.ovm OVM.LAYOUT_CMD 0 true fun s =>
    let p := Page.ovm
    if !Word.bit data 0 then s
    else if s.layoutReason = 0 then
      let s1 : State := { s with
        tblUnits := s.fld p OVM.LAYOUT_TBL_UNITS, flowUnits := s.fld p OVM.LAYOUT_FLOW_UNITS, dumpUnits := s.fld p OVM.LAYOUT_DUMP_UNITS }
      ((s1.setFlag p OVM.LAYOUT_STATUS_REFUSED false).setFld p OVM.LAYOUT_STATUS_CHUNKS s1.chunksInService).setChunksFree
        s1.chunksInService
    else ((s.setFlag p OVM.LAYOUT_STATUS_REFUSED true).setFld p OVM.LAYOUT_STATUS_REASON s.layoutReason).raise p OVM.S_LAYOUT_REFUSED).ovmFollow)

/-! ## Chunks written and read (R517 to R519, R531) -/

/-- The packets whose records are whole in overflow memory or staging release their buffers and descriptors (R461, R499). -/
def State.recordsStored (s : State) (l : List Nat) : State :=
  l.foldl (fun (s : State) (id : Nat) =>
    let s1 := (s.releaseChain id 3).freeDesc id
    s1.setPkt id { s1.pkt id with chain := 0 }) s

/-- The open chunk of a queue is closed where it is `c`. -/
def State.closeChunk (s : State) (n c : Nat) : State :=
  let q := s.queue n
  if q.chunks.getLast? = some c then s.setQueue n { q with opened := false } else s

/-- Chunk `c` of queue `n` leaves the write staging. -/
def State.leaveStaging (s : State) (n c : Nat) : State :=
  (((s.closeChunk n c).setWriteFill (s.writeFill - 1)).recordsStored (s.chunkOf c).ends)

/-- Chunk `c` is written to HBM; the address that its block has is a free value. -/
def State.writeChunk (s : State) (c : Nat) : State :=
  let x := s.chunkOf c
  let s1 := (s.leaveStaging x.queue c).setChunk c { x with written := true }
  (s1.drawn.count Page.ovm OVM.C_CHUNKS_WRITTEN).hbmSurvey 0 (s.free % (96 * 2 ^ 30)) 2048

/-- The chunk may be written: full, 2 µs after its first record, or asked for. -/
def State.chunkDue (s : State) (c : Nat) : Bool :=
  let x := s.chunkOf c
  let q := s.queue x.queue
  q.chunks.contains c && !x.written && s.hbmUp
    && (!(q.opened && q.chunks.getLast? == some c) || decide (x.since + 2 ≤ s.time.us) || (q.asked && q.chunks.head? == some c))

def execChunkWrite (chunk : Nat) (s : State) : Result := answer (if s.chunkDue chunk then s.writeChunk chunk else s)

/-- OPEN_CHUNK_TIMEOUT of a queue. -/
def execOpenChunkTimeout (n : Fin 16384) (s : State) : Result :=
  answer (
    let q := s.queue n
    match q.opened, q.chunks.getLast? with
    | true, some c => if s.chunkDue c && decide ((s.chunkOf c).since + 2 ≤ s.time.us) then s.writeChunk c else s
    | _, _ => s)

/-- Packets of overflow memory that are lost. -/
def State.losePkts (s : State) (l : List Nat) : State :=
  l.foldl (fun (s : State) (id : Nat) => (s.stampLost id).dropPkt id) (s.count Page.ovm OVM.C_OVF_PKTS_LOST l.length)

/-- The record of packet `id` ends no more in any chunk of queue `n`. -/
def State.dropRecord (s : State) (n id : Nat) : State :=
  (s.queue n).chunks.foldl (fun (s : State) (c : Nat) =>
    s.setChunk c { s.chunkOf c with ends := (s.chunkOf c).ends.filter (fun i => i != id) }) s

/-- What the error found makes of the records of chunk `x` of queue `n`: the state, and the packets that go on. -/
def State.chunkError (s : State) (n : Nat) (x : Chunk) (found : ChunkFound) (unit : Nat) : State × List Nat :=
  let ends := x.ends
  match found with
  | .clean => (s, ends)
  | .fixed => (s.hbmFixed, ends)
  | .bytes id =>
    let u := s.hbmUe unit
    (if ends.contains id || x.runs == some id then u.setPkt id { u.pkt id with tagBad := true } else u, ends)
  | .header kept =>
    let on := if x.begins then x.runs.toList else []
    let s1 := (s.hbmUe unit).losePkts (ends.drop kept ++ on)
    (on.foldl (fun (s : State) (id : Nat) => s.dropRecord n id) s1, ends.take kept)
  | .next2 => (s.hbmUe unit, ends)
  | .chain => (s.hbmUe unit, ends)

/-- The oldest chunk of queue `n` is in the refill staging. -/
def State.landChunk (s : State) (n c : Nat) (found : ChunkFound) (unit : Nat) : State :=
  let x := s.chunkOf c
  let s1 := if x.written then s.drawn.hbmSurvey 1 (s.free % (96 * 2 ^ 30)) 2048 else s.leaveStaging n c
  let e := if x.written then s1.chunkError n x found unit else (s1, x.ends)
  let s2 := e.2.foldl (fun (s : State) (id : Nat) => s.setPkt id { s.pkt id with stage := .refill }) (e.1.freeBlock c)
  let q := s2.queue n
  let rest := q.chunks.filter (fun k => k != c)
  let whole := match found with
    | .header _ => false
    | .chain => false
    | _ => true
  let stays := !e.2.isEmpty || (x.runs.isSome && !rest.isEmpty && whole)
  let s3 := s2.setQueue n { q with
    ready := q.ready ++ e.2, chunks := rest, refill := if stays then q.refill ++ [e.2] else q.refill, asked := false,
    spilling := !rest.isEmpty }
  let s4 := (s3.count Page.ovm OVM.C_CHUNKS_READ).setRefillFill (s3.refillFill + b2n stays)
  let s5 := if x.written && found == .chain && !rest.isEmpty then s4.loseChain n else s4
  (s5.panicFollow.askRefill n).qFollow n

/-- CHUNK_READ_LANDED: the read that queue `n` asked for; a full staging makes it wait. -/
def execChunkReadLanded (n : Fin 16384) (found : ChunkFound) (unit : Nat) (s : State) : Result :=
  answer ((
    let q := s.queue n
    match q.asked, q.chunks.head? with
    | true, some c => if s.refillFill < 4096 ∧ (s.hbmUp ∨ ¬ (s.chunkOf c).written) then s.landChunk n c found unit else s
    | _, _ => s).ovmFollow)

/-! ## Scrub, row tests and retirement (R531 to R535) -/

/-- An error that the scrub finds. -/
def State.scrubFound (s : State) (f : HbmFound) : State :=
  if f.fixed then s.hbmFixed
  else
    let s1 := s.hbmUe f.unit
    let meta_ := s.tblUnits * 2 ^ 21
    if s.areaOf f.unit ≠ 0 then s1
    else if f.unit < meta_ then s1.loseLine f.unit
    else (List.range 8).foldl (fun (s : State) (i : Nat) => s.setBodyHit (8 * (f.unit - meta_) + i) true) s1

/-- A chunk that no queue holds any more. -/
def State.staleChunk (s : State) (c : Nat) : Bool := !(s.queue (s.chunkOf c).queue).chunks.contains c

/-- A pass of the scrub: errors found, stale blocks freed; `late`: it ran past 600 s. -/
def execHbmScrub (found : List HbmFound) (late : Bool) (s : State) : Result :=
  answer ((if s.hbmUp then
      let p := Page.ovm
      let s1 := found.foldl (fun (s : State) (f : HbmFound) => s.scrubFound f) s
      let stale := (s1.hbmChunks.map (·.1)).filter s1.staleChunk
      let s2 := stale.foldl (fun (s : State) (c : Nat) => s.freeBlock c) (s1.count p OVM.C_RECLAIMED stale.length)
      let s3 := s2.count p OVM.C_SCRUB_PASSES
      if late then s3.raise p OVM.S_SCRUB_LATE else s3.clearCause p OVM.S_SCRUB_LATE
    else s).ovmFollow)

/-- Queues that hold chunks in a pseudo-channel. -/
def State.queuesIn (s : State) (pc : Nat) : List Nat :=
  (s.queues.filter (fun (e : Nat × Queue) => e.2.chunks.any (fun c => (s.chunkOf c).pc == pc && (s.chunkOf c).written))).map (·.1)

/-- A pseudo-channel is retired, within the limits of R534; an unreadable one loses its chunks. -/
def State.retirePc (s : State) (pc : Nat) (readable : Bool) : State :=
  let p := Page.ovm
  let h := pc / 64
  let i := pc % 64
  let all := ((List.range 4).map s.stackRetired).foldl (· + ·) 0
  if s.pcRetired pc then s
  else if 8 ≤ s.stackRetired h ∨ 16 ≤ all then s.hbmLost
  else
    let held := (s.hbmChunks.filter (fun (e : Nat × Chunk) => e.2.pc == pc)).length
    let s1 := if i < 48 then s.setReg p OVM.PC_RET_LO (Word.setBit (s.reg p OVM.PC_RET_LO h) i true) h
      else s.setReg p OVM.PC_RET_HI (Word.setBit (s.reg p OVM.PC_RET_HI h) (i - 48) true) h
    let s2 := (s1.setFld p OVM.STACK_STATUS_RETIRED (s.stackRetired h + 1) h).setFlag p OVM.STACK_STATUS_RELOCATING true h
    let s3 : State := { s2 with relocating := s2.relocating.set h true }
    let share := layoutChunks s.tblUnits s.flowUnits s.dumpUnits / 256
    let s4 := (s3.setFld p OVM.LAYOUT_STATUS_CHUNKS s3.chunksInService).setChunksFree (s3.chunksFree - (share - held))
    let s5 := if readable then s4 else (s4.queuesIn pc).foldl (fun (s : State) (n : Nat) => s.loseChain n) s4
    (((s5.count p OVM.C_RETIREMENTS).raise p OVM.S_PC_RETIRED).clearCause p OVM.S_PC_RETIRED).shed

/-- The targeted test of a row (R533), or a parity error that its retry did not mend: a failure retires the pseudo-channel. -/
def execHbmRowSelftest (pc : Fin 256) (pass readable : Bool) (s : State) : Result :=
  answer ((if pass then s else s.retirePc pc readable).clearCause Page.ovm OVM.S_UE).ovmFollow

def execRelocationDone (h : Fin 4) (s : State) : Result :=
  answer (({ s with relocating := s.relocating.set h false } : State).setFlag Page.ovm OVM.STACK_STATUS_RELOCATING false h)

end Sys2Proof.Machine
end

