-- ==== Sys2Proof/Machine/Aside.lean ====
section
/-!
DEFINITION. Sys2Proof/Machine/Aside.lean: what a command may change beside its own effect: the registers that events, counters and
FAULT_N write, and what events write outside the registers. Frames are stated with it.
-/
namespace Sys2Proof.Machine

/-- The slots that an event of a page can change: four of its title block's, and VF_SUMMARY of the host ports. -/
def titleSlot (a : Nat) : Prop :=
  (∃ p : Nat, a = slotAddr p TB.PAGE_STATE 0 ∨ a = slotAddr p TB.EVENT_STATUS 0 ∨ a = slotAddr p TB.EVENT_FIRST 0 ∨
    a = slotAddr p TB.FAULT_CAUSE 0) ∨ ∃ h i, h < 2 ∧ i < 3 ∧ a = slotAddr (Page.hif h) HIF.VF_SUMMARY i

/-- The slots that show wrap bits: SVC.WRAP_MAP, and CTR_WRAP of the port engines (R563). -/
def wrapShown (a : Nat) : Prop :=
  a = slotAddr Page.svc SVC.WRAP_MAP 0 ∨ ∃ (p i : Nat), 0xA00 ≤ p ∧ p < 0xA00 + 192 ∧ i < 4 ∧ (a = slotAddr p PEN.CTR_WRAP_LO i ∨ a = slotAddr p PEN.CTR_WRAP_HI i)

/-- A slot that no event, no survey and no FAULT_N change writes. -/
structure Plain (a : Nat) : Prop where
  low : a < 2 ^ 48
  title : ¬ titleSlot a
  wrap : ¬ wrapShown a
  pin : a ≠ slotAddr Page.thm THM.FAULT_STATUS 0

/-- The offset is none of the registers that events, counters and FAULT_N write on the side, on any page. -/
def sideFree (o : Nat) : Bool :=
  !([0x018, 0x020, 0x048, 0x050, 0x128, 0x130, 0x138, 0x148, 0x1C0].contains o) && !(decide (0x700 ≤ o) && decide (o < 0x740))

/-- A slot that no counter and no FAULT_N change writes; events may. -/
structure Quiet (a : Nat) : Prop where
  low : a < 2 ^ 48
  wrap : ¬ wrapShown a
  pin : a ≠ slotAddr Page.thm THM.FAULT_STATUS 0

/-- `t` is `s` but for the slots of `q`, the slots that events, counters and FAULT_N write, and what events change outside the registers:
wrap bits, held bits and logs, MSI-X pending bits, and outputs. -/
def State.Aside (s t : State) (q : Nat → Prop) : Prop :=
  (∃ r w g m o, t = { s with regs := r, wraps := w, pages := g, msix := m, out := o }) ∧ ∀ a, Plain a → ¬ q a → t.slot a = s.slot a

end Sys2Proof.Machine
end

