-- ==== Sys2Proof/Machine/Sequencers.lean ====
section
/-!
DEFINITION. Sys2Proof/Machine/Sequencers.lean: lane sequencers: threads, microwords, vertical operations, traps, the all-wait
detector, images and the mailbox (07_lane_sequencers.md).
Readings and choices (notes/assumptions): DEDUCED 41, 42, 43.
-/
namespace Sys2Proof.Machine

/-! ## Threads (R212, SEQ_STATUS, THREAD_MODE) -/

abbrev tsIdle : Nat := 0
abbrev tsRun : Nat := 1
abbrev tsWait : Nat := 2
abbrev tsHalted : Nat := 3

/-- TSTATE of a thread. -/
def State.tstate (s : State) (n t : Nat) : Nat := s.fld (Page.lsq n) LSQ.SEQ_STATUS_TSTATE / 4 ^ t % 4
def State.setTstate (s : State) (n t v : Nat) : State :=
  let old := s.fld (Page.lsq n) LSQ.SEQ_STATUS_TSTATE
  s.setFld (Page.lsq n) LSQ.SEQ_STATUS_TSTATE (old - s.tstate n t * 4 ^ t + v * 4 ^ t)

/-- IN_TRAP of a thread. -/
def State.inTrap (s : State) (n t : Nat) : Bool := Nat.bitAt (s.fld (Page.lsq n) LSQ.THREAD_MODE_IN_TRAP) t
def State.setInTrap (s : State) (n t : Nat) (b : Bool) : State :=
  s.setFld (Page.lsq n) LSQ.THREAD_MODE_IN_TRAP (setBitN (s.fld (Page.lsq n) LSQ.THREAD_MODE_IN_TRAP) t b)

/-- The thread's record stored; THREAD_MODE.VERTICAL follows its space. -/
def State.putThread (s : State) (n t : Nat) (x : Thread) : State :=
  (s.setThread n t x).setFld (Page.lsq n) LSQ.THREAD_MODE_VERTICAL
    (setBitN (s.fld (Page.lsq n) LSQ.THREAD_MODE_VERTICAL) t (x.space = .vertical))

/-- The thread can issue. -/
def State.issues (s : State) (n t : Nat) : Bool := s.tstate n t == tsRun

/-- Event flags of a sequencer. -/
def State.efs (s : State) (n : Nat) : Nat := s.eventFlags.get n 0
def State.setEfs (s : State) (n v : Nat) : State := { s with eventFlags := s.eventFlags.set n (v % 2 ^ 16) 0 }

/-- Some lane thread is HALTED. -/
def State.someHalted (s : State) (n : Nat) : Bool := (List.range 8).any (fun t => s.tstate n t == tsHalted)

/-- A condition of a thread (R220). -/
def State.condition (s : State) (n t c : Nat) (ext : BitVec 32) : Bool :=
  let x := s.thread n t
  if c < 32 then Nat.bitAt ext.toNat c
  else if c < 48 then Nat.bitAt (s.efs n) (c - 32)
  else match c with
    | 48 => t == 8 && s.flag (Page.lsq n) LSQ.MBX_STATUS_BUSY
    | 49 => t == 8 && s.someHalted n
    | 56 => x.timedOut
    | 60 => x.z
    | 61 => x.n
    | 62 => x.c
    | 63 => true
    | _ => false

/-- The state of an LSQ page (R236). -/
def State.lsqState (s : State) (n : Nat) : State :=
  let p := Page.lsq n
  if s.isHalted p then s
  else s.setBlockState p
    (if s.flag p TB.PAGE_STATE_TEST_REQ then 6
     else if s.flag p LSQ.SEQ_STATUS_IMAGE_VALID then
       (if s.someHalted n || s.tstate n 8 == tsHalted || (s.pg p).heldD != 0 then 4 else 3)
     else 2)

/-- The lane of a lane thread follows its trap, halt or restart (R228); the group thread affects none. -/
def State.laneOf (s : State) (n t : Nat) : State := if t < 8 then s.laneThreadStops (8 * n + t) else s

/-! ## Traps, halts and restarts (R223 to R227) -/

/-- TRAP_REC of a thread. -/
def State.trapRec (s : State) (n t cause code : Nat) (counts : Bool) : State :=
  let p := Page.lsq n
  let x := s.thread n t
  let c := s.fld p LSQ.TRAP_REC_COUNT t
  let c' := if counts then Nat.min 255 (c + 1) else c
  s.setReg p LSQ.TRAP_REC
    (BitVec.ofNat 48 (cause * 2 ^ 44 + x.stack.length * 2 ^ 40 + (if x.space = .vertical then 2 ^ 39 else 0)
      + x.pc % 2 ^ 14 * 2 ^ 24 + c' * 2 ^ 16 + code % 256 * 2 ^ 8)) t

/-- The thread halts (R225). -/
def State.haltThread (s : State) (n t cause code : Nat) (counts : Bool) : State :=
  let s1 := (s.trapRec n t cause code counts).setTstate n t tsHalted
  let s2 := s1.setThread n t { s1.thread n t with wait := none, running := false }
  ((s2.raise (Page.lsq n) LSQ.S_THREAD_HALT).lsqState n).laneOf n t

/-- The vector of a cause (R224): a vertical one enters with an empty stack and counts as in a handler. -/
def vectored (x : Thread) (t cause : Nat) : Thread :=
  if cause = 4 then { x with space := .vertical, pc := 0x0100, stack := [], handler := true, wait := none }
  else if cause = 6 then { x with space := .vertical, pc := 0x0300, stack := [], handler := true, wait := none }
  else { x with space := .micro, pc := (if t < 8 then 0x0010 else 0x0020) + cause, wait := none }

/-- The thread counts as in a trap handler (R225). -/
def State.inHandler (s : State) (n t : Nat) : Bool := s.inTrap n t || (s.thread n t).handler

def flagWord (x : Thread) : Nat := (if x.z then 4 else 0) + (if x.n then 2 else 0) + (if x.c then 1 else 0)

/-- A first trap: shadow, IN_TRAP, TRAP_REC and vector (R224). -/
def State.firstTrap (s : State) (n t cause code : Nat) : State :=
  let x := s.thread n t
  let s1 := (s.trapRec n t cause code true).setInTrap n t true
  let x1 := { x with shSpace := x.space, shPc := x.pc, shDepth := x.stack.length, shFlags := flagWord x, running := false }
  (s1.putThread n t (vectored x1 t cause)).setTstate n t tsRun

/-- A thread traps (R223 to R225): a lane thread in a handler halts; the group thread in one goes to 0x0300 once, then halts. -/
def State.trap (s : State) (n t cause code : Nat) : State :=
  let p := Page.lsq n
  let s1 := (s.count p LSQ.TRAPS).raise p LSQ.S_THREAD_TRAP
  if cause != 6 && s1.inHandler n t then
    let x := s1.thread n t
    if t = 8 ∧ ¬ x.twice then
      let s2 := (s1.trapRec n t 2 code true).setTstate n t tsRun
      s2.putThread n t { x with space := .vertical, pc := 0x0300, stack := [], handler := true, twice := true, wait := none }
    else
      let s2 := s1.haltThread n t 2 code true
      if t = 8 then s2.raise p LSQ.S_GROUP_HALT else s2
  else (s1.firstTrap n t cause code).laneOf n t

/-- A thread restarts at vertical address 0 with everything cleared (R227). -/
def State.restartOne (s : State) (n t : Nat) : State :=
  let s1 := (s.setInTrap n t false).setTstate n t tsRun
  let s2 := s1.putThread n t { starting := true, kicked := s.time.us }
  (s2.lsqState n).laneOf n t

def State.restartAll (s : State) (n : Nat) : State := (List.range 9).foldl (fun s t => s.restartOne n t) s

/-! ## Stores (R213, R232 to R235) -/

/-- A command that runs in the mailbox ends with RESULT 4 at a resynchronisation (R237). -/
def State.abortMbx (s : State) (n : Nat) : State :=
  let p := Page.lsq n
  if s.flag p LSQ.MBX_STATUS_BUSY then
    ((s.setFlag p LSQ.MBX_STATUS_BUSY false).setFlag p LSQ.MBX_STATUS_DONE true).setFld p LSQ.MBX_STATUS_RESULT 4
  else s

/-- The stores are copied from the active bank, checked and locked, and every thread restarts; without a verified active bank
the sequencer halts (R234). -/
def State.resyncSeq (s : State) (n : Nat) : State :=
  let p := Page.lsq n
  let s1 := s.abortMbx n
  if s1.flag (Page.lsq 0) LSQ.IMG_STATUS_VERIFIED then
    let bank := if s1.flag (Page.lsq 0) LSQ.IMG_STATUS_BANK then s1.bank1 else s1.bank0
    let s2 := ({ s1 with stores := bank }.setFlag p LSQ.SEQ_STATUS_IMAGE_VALID true).setFlag p LSQ.SEQ_STATUS_LOCKED true
    (s2.restartAll n).lsqState n
  else
    let s2 := (s1.setFlag p LSQ.SEQ_STATUS_IMAGE_VALID false).raise p LSQ.S_NO_IMAGE
    let s3 := (List.range 9).foldl
      (fun s t => (s.setTstate n t tsIdle).setThread n t { s.thread n t with running := false, wait := none }) s2
    let s4 := if s3.isHalted p then s3 else s3.setBlockState p 5
    (List.range 8).foldl (fun s t => s.laneOf n t) s4

/-- Store recovery (R234). -/
def State.recoverStores (s : State) (n : Nat) : State :=
  let p := Page.lsq n
  ((s.raise p LSQ.S_STORE_INVALID).count p LSQ.RECOVERIES).resyncSeq n

/-- What a fetch's check bits do: a corrected word is used, a bad writable word starts recovery, a bad ROM word traps or halts;
`none` where the thread does not go on. -/
def State.fetchCheck (s : State) (n t : Nat) (c : FetchCheck) (rom : Bool) : State × Bool :=
  match c with
  | .good => (s, true)
  | .corrected =>
    if rom then (s, true)
    else ((s.count (Page.lsq n) LSQ.CORRECTED).raise (Page.lsq n) LSQ.S_STORE_CORRECTED, true)
  | .bad =>
    if rom then
      (if (s.thread n t).space = .vertical then (s.haltThread n t 2 0 false, false) else (s.trap n t 4 0, false))
    else (s.recoverStores n, false)

/-! ## Fetch (R214) -/

/-- The patch word that an enabled match register puts in place of ROM address `a`: the lowest-numbered one. -/
def State.patched (s : State) (a : Nat) : Option Nat :=
  (s.stores.match_.find? (fun m => Nat.bitAt m.toNat 31 && m.toNat % 2 ^ 13 == a)).map (fun m => 0x2000 + m.toNat / 2 ^ 13 % 256)

/-- The address fetched at micro address `a`. -/
def State.redirect (s : State) (a : Nat) : Nat := if a < 0x2000 then (s.patched a).getD a else a

/-- A valid micro address (R218). -/
def State.microOk (s : State) (a : Nat) : Bool := decide (a ≤ 0x20FF) && decide (a < 0x2000 + s.stores.patch.length)

/-- The microword fetched: from patch RAM, or what the ROM delivers. -/
def State.microWord (s : State) (a : Nat) (rom : BitVec 24) : Nat :=
  if 0x2000 ≤ a then (s.stores.patch.getD (a - 0x2000) 0).toNat else rom.toNat

/-- A microword of format and operation `ok` issues: its effect `eff` gets the state with the thread at the address fetched,
that address and the word. A word of another kind is not this step; a thread that cannot issue does nothing. -/
def State.issueMicro (s : State) (i : Issue) (ok : Nat → Bool) (eff : State → Nat → Nat → State) : State :=
  let n := i.n.val
  let t := i.t.val
  let x := s.thread n t
  if s.issues n t ∧ x.space = .micro then
    let a := s.redirect x.pc
    let w := s.microWord a i.rom
    let s1 := s.setThread n t { x with pc := a }
    if ¬ s.microOk a then s1.trap n t 3 0
    else
      let c := s1.fetchCheck n t i.check (a < 0x2000)
      if ¬ c.2 then c.1
      else if ok w then eff c.1 a w else s
  else s

/-- The thread goes to micro address `a`. -/
def State.toMicro (s : State) (n t a : Nat) : State :=
  if s.microOk a then s.putThread n t { s.thread n t with space := .micro, pc := a } else s.trap n t 3 0

/-- The thread continues at the next micro address. -/
def State.nextMicro (s : State) (n t a : Nat) : State := s.setThread n t { s.thread n t with pc := a + 1 }

def isFormat (f w : Nat) : Bool := w / 2 ^ 22 == f
def isCtrl (op w : Nat) : Bool := w / 2 ^ 22 == 3 && w / 2 ^ 18 % 16 == op

/-- The return address is pushed; a depth of 8 traps (R223). `go` continues with the pushed state. -/
def State.pushRet (s : State) (n t : Nat) (ret : CodeSpace × Nat) (go : State → State) : State :=
  let x := s.thread n t
  if 8 ≤ x.stack.length then s.trap n t 1 0
  else go (s.setThread n t { x with stack := ret :: x.stack })

/-- The latest return address is popped (R223). -/
def State.popRet (s : State) (n t : Nat) (bad : Bool) : State :=
  let x := s.thread n t
  match x.stack with
  | [] => s.trap n t 1 0
  | r :: rest =>
    if bad then s.trap n t 4 0
    else s.putThread n t { x with stack := rest, space := r.1, pc := r.2 }

/-! ## Microwords (R217 to R221) -/

/-- An EXEC's nano-word drives the datapath (R216). -/
def State.nanoEffect (s : State) (n t : Nat) (d : NanoDone) : State :=
  let x := s.thread n t
  let g := d.writes.foldl (fun g w => g.set w.1.val w.2) x.g
  let x1 := { x with g := g, kicked := if d.kick then s.time.us else x.kicked }
  let x2 := match d.flags with
    | some f => { x1 with z := f.1, n := f.2.1, c := f.2.2 }
    | none => x1
  (s.setThread n t x2).setEfs n (((BitVec.ofNat 16 (s.efs n) ||| d.setEf) &&& ~~~d.clrEf).toNat)

def execMwExec (i : Issue) (d : NanoDone) (s : State) : Result :=
  answer (s.issueMicro i (isFormat 0) fun s a w =>
    let n := i.n.val
    let t := i.t.val
    if s.stores.nano.length ≤ w / 2 ^ 10 % 2 ^ 12 then s.trap n t 3 0
    else
      let c := s.fetchCheck n t d.check false
      if c.2 then (c.1.nanoEffect n t d).nextMicro n t a else c.1)

/-- The target of a BRANCH (R219). -/
def State.branchTarget (s : State) (n t w : Nat) (ext : BitVec 32) : Nat :=
  let g := w / 2 ^ 8 % 16
  let b := (List.range 4).foldl (fun v k => v + (if s.condition n t (4 * g + k) ext then 2 ^ k else 0)) 0
  w / 2 ^ 12 % 2 ^ 10 * 16 + Nat.land b (w / 2 ^ 4 % 16)

def execMwBranch (i : Issue) (s : State) : Result :=
  answer (s.issueMicro i (isFormat 1) fun s a w =>
    let n := i.n.val
    let t := i.t.val
    let target := s.branchTarget n t w i.conds
    if w % 8 ≠ 0 ∨ ¬ s.microOk target then s.trap n t 3 0
    else if Nat.bitAt w 3 then s.pushRet n t (.micro, a + 1) fun s => s.toMicro n t target
    else s.toMicro n t target)

/-- The thread continues after its wait at the address `step` beyond its own (R221). -/
def State.endWait (s : State) (n t step : Nat) (timedOut : Bool) : State :=
  let x := s.thread n t
  (s.setThread n t { x with wait := none, timedOut := timedOut, pc := x.pc + step }).setTstate n t tsRun

/-- A wait begins (R221): with the condition at its level it ends at once, with COUNT 0 it samples once. -/
def State.beginWait (s : State) (n t : Nat) (w : Waiting) (once : Bool) (ext : BitVec 32) : State :=
  if s.condition n t w.cond ext == w.pol then s.endWait n t 2 false
  else if once then s.endWait n t 1 true
  else (s.setThread n t { s.thread n t with wait := some w }).setTstate n t tsWait

def execMwWait (i : Issue) (s : State) : Result :=
  answer (s.issueMicro i (isFormat 2) fun s _ w =>
    let unit := w / 2 ^ 12 % 8
    s.beginWait i.n i.t ⟨w / 2 ^ 16 % 64, Nat.bitAt w 15, unit != 7⟩ (unit != 7 && w % 2 ^ 12 == 0) i.conds)

def execWaitConditionMet (n : Fin 96) (t : Fin 9) (conds : BitVec 32) (s : State) : Result :=
  answer (match (s.thread n t).wait with
    | some w => if s.condition n t w.cond conds == w.pol then s.endWait n t 2 false else s
    | none => s)

def execWaitTimeout (n : Fin 96) (t : Fin 9) (s : State) : Result :=
  answer (match (s.thread n t).wait with
    | some w => if w.limited then s.endWait n t 1 true else s
    | none => s)

def execCtrlJump (i : Issue) (s : State) : Result :=
  answer (s.issueMicro i (isCtrl 0) fun s _ w => s.toMicro i.n i.t (w % 2 ^ 14))

def execCtrlCall (i : Issue) (s : State) : Result :=
  answer (s.issueMicro i (isCtrl 1) fun s a w =>
    if s.microOk (w % 2 ^ 14) then
      s.pushRet i.n i.t (.micro, a + 1) fun s => s.toMicro i.n i.t (w % 2 ^ 14)
    else s.trap i.n i.t 3 0)

def execCtrlReturn (i : Issue) (popBad : Bool) (s : State) : Result :=
  answer (s.issueMicro i (isCtrl 2) fun s _ _ => s.popRet i.n i.t popBad)

/-- RETT restores the saved address and flags and clears IN_TRAP (R224). -/
def execCtrlRett (i : Issue) (s : State) : Result :=
  answer (s.issueMicro i (isCtrl 3) fun s _ _ =>
    let x := s.thread i.n i.t
    let x1 := { x with space := x.shSpace, pc := x.shPc, z := Nat.bitAt x.shFlags 2, n := Nat.bitAt x.shFlags 1,
                       c := Nat.bitAt x.shFlags 0 }
    (s.putThread i.n i.t x1).setInTrap i.n i.t false)

/-- TRAP traps with cause SOFT; the reserved operations 11 to 15 trap with cause ILLEGAL (R218). -/
def execCtrlTrap (i : Issue) (s : State) : Result :=
  answer (s.issueMicro i (fun w => w / 2 ^ 22 == 3 && (w / 2 ^ 18 % 16 == 4 || decide (11 ≤ w / 2 ^ 18 % 16))) fun s _ w =>
    if w / 2 ^ 18 % 16 = 4 then s.trap i.n i.t 7 (w % 256) else s.trap i.n i.t 3 0)

def State.kick (s : State) (n t : Nat) : State := s.setThread n t { s.thread n t with kicked := s.time.us }

def execCtrlKick (i : Issue) (s : State) : Result :=
  answer (s.issueMicro i (isCtrl 5) fun s a _ => (s.kick i.n i.t).nextMicro i.n i.t a)

def execCtrlSig (i : Issue) (s : State) : Result :=
  answer (s.issueMicro i (isCtrl 6) fun s a w => (s.setEfs i.n (Nat.lor (s.efs i.n) (w % 2 ^ 16))).nextMicro i.n i.t a)

def execCtrlClr (i : Issue) (s : State) : Result :=
  answer (s.issueMicro i (isCtrl 7) fun s a w =>
    (s.setEfs i.n (Nat.land (s.efs i.n) (2 ^ 16 - 1 - w % 2 ^ 16))).nextMicro i.n i.t a)

def execCtrlStkclr (i : Issue) (s : State) : Result :=
  answer (s.issueMicro i (isCtrl 8) fun s a _ =>
    (s.setThread i.n i.t { s.thread i.n i.t with stack := [] }).nextMicro i.n i.t a)

def execCtrlVert (i : Issue) (s : State) : Result :=
  answer (s.issueMicro i (isCtrl 9) fun s _ w =>
    s.putThread i.n i.t { s.thread i.n i.t with space := .vertical, pc := w % 2 ^ 14 })

def execCtrlHalt (i : Issue) (s : State) : Result :=
  answer (s.issueMicro i (isCtrl 10) fun s _ w => s.haltThread i.n i.t 7 (w % 256) false)

/-! ## Vertical operations (R222) -/

/-- A vertical operation of opcode `op` issues. -/
def State.issueVert (s : State) (i : Issue) (op : Nat) (eff : State → Nat → Nat → State) : State :=
  let n := i.n.val
  let t := i.t.val
  let x := s.thread n t
  if s.issues n t ∧ x.space = .vertical then
    let w := i.rom.toNat % 2 ^ 16
    let c := s.fetchCheck n t i.check true
    if ¬ c.2 then c.1
    else if w / 2 ^ 12 = op then eff c.1 x.pc w else s
  else s

/-- The thread goes to vertical address `a`. -/
def State.toVert (s : State) (n t a : Nat) : State := s.setThread n t { s.thread n t with pc := a % 2 ^ 14 }

/-- A general register, and that register written. -/
def State.greg (s : State) (n t i : Nat) : BitVec 24 := (s.thread n t).g.getD i 0
def State.setGreg (s : State) (n t i : Nat) (v : BitVec 24) : State :=
  s.setThread n t { s.thread n t with g := (s.thread n t).g.set i v }

def execVNop (i : Issue) (s : State) : Result :=
  answer (s.issueVert i 0 fun s a w => if w % 2 ^ 12 = 0 then s.toVert i.n i.t (a + 1) else s.trap i.n i.t 3 0)

def execVLdi (i : Issue) (s : State) : Result :=
  answer (s.issueVert i 1 fun s a w =>
    let x := s.thread i.n i.t
    let v := match x.ext with | some p => p * 256 + w % 256 | none => w % 256
    let s1 := (s.setGreg i.n i.t (w / 2 ^ 8 % 16) (BitVec.ofNat 24 v))
    (s1.setThread i.n i.t { s1.thread i.n i.t with ext := none }).toVert i.n i.t (a + 1))

/-- The result of an ALU operation on 24-bit values; `none`: a shift by 24 or more. -/
def aluResult (op d x : Nat) : Option Nat :=
  match op with
  | 0 => some x
  | 1 => some ((d + x) % 2 ^ 24)
  | 2 => some ((d + 2 ^ 24 - x) % 2 ^ 24)
  | 3 => some (Nat.land d x)
  | 4 => some (Nat.lor d x)
  | 5 => some (Nat.xor d x)
  | 6 => if x < 24 then some (d * 2 ^ x % 2 ^ 24) else none
  | 7 => if x < 24 then some (d / 2 ^ x) else none
  | _ => some ((d + 2 ^ 24 - x) % 2 ^ 24)

/-- Z and N follow the result; C is the carry of an ADD, and open for every other operation; CMP writes no register. -/
def execVAlu (i : Issue) (s : State) : Result :=
  answer (s.issueVert i 2 fun s a w =>
    let n := i.n.val
    let t := i.t.val
    let op := w % 16
    let d := (s.greg n t (w / 2 ^ 8 % 16)).toNat
    let x := (s.greg n t (w / 2 ^ 4 % 16)).toNat
    if 9 ≤ op then s.trap n t 3 0
    else
      let v := match aluResult op d x with | some v => v | none => s.free / 2 % 2 ^ 24
      let c := if op = 1 then decide (2 ^ 24 ≤ d + x) else s.free % 2 == 1
      let s1 := if op = 8 then s else s.setGreg n t (w / 2 ^ 8 % 16) (BitVec.ofNat 24 v)
      let y := s1.thread n t
      ((s1.setThread n t { y with z := v == 0, n := decide (2 ^ 23 ≤ v), c := c }).drawn).toVert n t (a + 1))

/-- A lane register read by number: what it holds is not published, so the value is free. -/
def execVLrd (i : Issue) (s : State) : Result :=
  answer (s.issueVert i 3 fun s a w =>
    ((s.setGreg i.n i.t (w / 2 ^ 8 % 16) (BitVec.ofNat 24 s.free)).drawn).toVert i.n i.t (a + 1))

def execVLwr (i : Issue) (s : State) : Result :=
  answer (s.issueVert i 4 fun s a w =>
    let key := (16 * i.n.val + i.t.val) * 256 + w % 256
    { s with laneRegs := s.laneRegs.set key (s.greg i.n i.t (w / 2 ^ 8 % 16)) 0 }.toVert i.n i.t (a + 1))

def execVJmp (i : Issue) (s : State) : Result :=
  answer (s.issueVert i 5 fun s _ w => s.toVert i.n i.t (w % 2 ^ 12 * 4))

/-- BRC branches by its offset from its own address. -/
def execVBrc (i : Issue) (s : State) : Result :=
  answer (s.issueVert i 6 fun s a w =>
    if s.condition i.n i.t (w / 2 ^ 6 % 64) i.conds then
      s.toVert i.n i.t (((a : Int) + signed 6 w) % 16384).toNat
    else s.toVert i.n i.t (a + 1))

def execVWaitv (i : Issue) (s : State) : Result :=
  answer (s.issueVert i 7 fun s _ w =>
    s.beginWait i.n i.t ⟨w / 2 ^ 6 % 64, true, w / 2 ^ 3 % 8 != 7⟩ false i.conds)

def execVCallv (i : Issue) (s : State) : Result :=
  answer (s.issueVert i 8 fun s a w =>
    s.pushRet i.n i.t (.vertical, (a + 1) % 2 ^ 14) fun s => s.toVert i.n i.t (w % 2 ^ 12 * 4))

def execVRetv (i : Issue) (popBad : Bool) (s : State) : Result :=
  answer (s.issueVert i 9 fun s _ w =>
    if w % 2 ^ 12 = 0 then s.popRet i.n i.t popBad else s.trap i.n i.t 3 0)

/-- ENTER goes to two-level code; the one that ends a restart completes it (R227). -/
def execVEnter (i : Issue) (s : State) : Result :=
  answer (s.issueVert i 10 fun s _ w =>
    let n := i.n.val
    let t := i.t.val
    let a := (s.greg n t (w / 2 ^ 8 % 16)).toNat % 2 ^ 14
    if s.microOk a then
      let x := s.thread n t
      s.putThread n t { x with space := .micro, pc := a, handler := false, twice := false,
                               running := x.running || x.starting, starting := false }
    else s.trap n t 3 0)

def execVEvt (i : Issue) (s : State) : Result :=
  answer (s.issueVert i 11 fun s a w =>
    let n := i.n.val
    let t := i.t.val
    let bit := 2 ^ (w % 16)
    match w / 2 ^ 10 % 4 with
    | 0 => (s.setEfs n (Nat.lor (s.efs n) bit)).toVert n t (a + 1)
    | 1 => (s.setEfs n (Nat.land (s.efs n) (2 ^ 16 - 1 - bit))).toVert n t (a + 1)
    | 2 => (s.kick n t).toVert n t (a + 1)
    | _ => s.trap n t 3 0)

/-- RESTART: the group thread restarts a lane thread. -/
def execVRestart (i : Issue) (s : State) : Result :=
  answer (s.issueVert i 12 fun s a w =>
    if i.t.val = 8 ∧ w % 16 < 8 then (s.restartOne i.n (w % 16)).toVert i.n 8 (a + 1) else s.trap i.n i.t 3 0)

def execVExt (i : Issue) (s : State) : Result :=
  answer (s.issueVert i 13 fun s a w =>
    (s.setThread i.n i.t { s.thread i.n i.t with ext := some (w % 2 ^ 12) }).toVert i.n i.t (a + 1))

def execVTest (i : Issue) (result : BitVec 24) (s : State) : Result :=
  answer (s.issueVert i 14 fun s a _ => (s.setGreg i.n i.t 0 result).toVert i.n i.t (a + 1))

def execVStop (i : Issue) (s : State) : Result :=
  answer (s.issueVert i 15 fun s _ w =>
    if Nat.bitAt w 11 then s.trap i.n i.t 7 (w % 256) else s.haltThread i.n i.t 7 (w % 256) false)

/-! ## Watchdog, all-wait detector and scrub (R215, R226, R229) -/

def execWatchdogExpiry (n : Fin 96) (t : Fin 9) (s : State) : Result :=
  answer (if s.issues n t then s.trap n t 5 0 else s)

/-- The thread waits on its peers. -/
def State.waitsOnPeers (s : State) (n t : Nat) : Bool :=
  match (s.thread n t).wait with
  | some w => decide (32 ≤ w.cond ∧ w.cond < 48)
  | none => false

def execAllWaitFire (n : Fin 96) (s : State) : Result :=
  answer (if (List.range 9).all (fun t => s.waitsOnPeers n t) then
      let p := Page.lsq n
      let last := s.stalledAt.get n 0
      let again := last != 0 && decide (s.time.us < last - 1 + 10000)
      let s1 := ((s.trap n 8 6 0).count p LSQ.STALLS).raise p LSQ.S_STALL
      let s2 := (List.range 8).foldl (fun s t => s.endWait n t 1 true) s1
      let s3 := { s2 with stalledAt := s2.stalledAt.set n (s.time.us + 1) 0 }
      if again then ((List.range 8).foldl (fun s t => s.restartOne n t) s3).raise p LSQ.S_STALL_RESYNC else s3
    else s)

def execSeqStoreScrub (n : Fin 96) (corrected : Nat) (bad : Bool) (s : State) : Result :=
  answer (
    let p := Page.lsq n
    let s1 := if 0 < corrected then (s.count p LSQ.CORRECTED corrected).raise p LSQ.S_STORE_CORRECTED else s
    if bad then s1.recoverStores n else s1)

def execStoreRecovery (n : Fin 96) (s : State) : Result := answer (s.recoverStores n)

def execStagingWrite (s : State) : Result :=
  answer ((s.setFlag (Page.lsq 0) LSQ.IMG_STATUS_VERIFIED false).raise (Page.lsq 0) LSQ.S_STAGING_WRITE)

def execSequencerResync (n : Fin 96) (why : ResyncWhy) (s : State) : Result :=
  answer (
    let p := Page.lsq n
    match why with
    | .domain => s.resyncSeq n
    | .block =>
      let s1 := [LSQ.TRAPS, LSQ.STALLS, LSQ.RECOVERIES, LSQ.CORRECTED].foldl (fun s f => s.setReg p f 0) s
      ((List.range 9).foldl (fun s t => s.setReg p LSQ.TRAP_REC 0 t) s1).resyncSeq n)

/-! ## Image load (R230 to R232) -/

/-- Copy `c` of the images: device `c` / 2, slot A or B `c` % 2. -/
def imageAddr (c : Nat) : Nat := c % 2 * 0x20000
def State.imageBytes (s : State) (c o n : Nat) : List Byte := s.flashRead (c / 2) (imageAddr c + o) n

/-- Bit of a copy in IMG_STATUS.REJECTED and its code in COPY: FA-A, FB-A, FA-B, FB-B. -/
def copyCode (c : Nat) : Nat := c % 2 * 2 + c / 2

/-- The image's header fields and stores. -/
def State.readImage (s : State) (c : Nat) : Image :=
  let h := s.imageBytes c 0 256
  let pw := leAt h 0x10 2
  let nw := leAt h 0x12 2
  { version := leAt h 8 4, svn := byteAt h 0xC, key := byteAt h 0xD,
    patch := (List.range pw).map (fun i => BitVec.ofNat 24 (leAt (s.imageBytes c (0x100 + 4 * i) 3) 0 3)),
    nano := (List.range nw).map (fun i => BitVec.ofNat 144 (leAt (s.imageBytes c (0x100 + 4 * pw + 18 * i) 18) 0 18)),
    signed := s.imageBytes c 0 (0x100 + leAt h 0x18 4), match_ := (List.range (byteAt h 0x14)).map (fun i => BitVec.ofNat 32 (leAt h (0x20 + 4 * i) 4)),
    olane := leAt h 0x60 2, ogroup := leAt h 0x62 2, elane := leAt h 0x64 2, egroup := leAt h 0x66 2 }

/-- The header and the reserved fields are as R230 gives. -/
def State.imageForm (s : State) (c : Nat) : Bool :=
  let h := s.imageBytes c 0 256
  let pw := leAt h 0x10 2
  let nw := leAt h 0x12 2
  let mc := byteAt h 0x14
  let zero (o n : Nat) : Bool := ((h.drop o).take n).all (fun b => b == 0)
  let ms := (List.range 16).map (fun i => leAt h (0x20 + 4 * i) 4)
  let matchOk := ms.zipIdx.all (fun m => (m.1 / 2 ^ 21 % 2 ^ 10 == 0) && (decide (m.2 < mc) || m.1 == 0)
    && (!Nat.bitAt m.1 31 || decide (m.1 / 2 ^ 13 % 256 < pw)))
  let entryOk := [0x60, 0x62, 0x64, 0x66].all (fun o => decide (leAt h o 2 ≤ 0x20FF) && decide (leAt h o 2 < 0x2000 + pw))
  let patchOk := (List.range pw).all (fun i => byteAt (s.imageBytes c (0x100 + 4 * i) 4) 3 == 0)
  leAt h 0 4 == 0x51534C4E && leAt h 4 2 == 1 && leAt h 6 2 == 256 && leAt h 0x18 4 == 4 * pw + 18 * nw
    && decide (pw ≤ 256) && decide (1 ≤ nw) && decide (nw ≤ 4096) && decide (mc ≤ 16) && decide (byteAt h 0xD < 4)
    && zero 0x15 3 && zero 0x68 152 && matchOk && entryOk && patchOk

/-- Why a copy is rejected (R231), as IMG_STATUS.REASON; 0: accepted. -/
def State.imageReason (s : State) (c : Nat) (met : CopyFault) : Nat :=
  let h := s.imageBytes c 0 256
  let len := leAt h 0x18 4
  let all := s.imageBytes c 0 (0x100 + len)
  let sig := s.imageBytes c (0x100 + len) 96
  if met = .readError then 7
  else if h.all (fun b => b == 0xFF) then 9
  else if ¬ s.imageForm c then 1
  else if leAt h 0xE 2 ≠ s.fld (Page.lsq 0) LSQ.SEQ_STATUS_ROM_ID then 2
  else if ¬ Config.imageSigned (byteAt h 0xD) all (leAt sig 0 48) (leAt sig 48 48) then 3
  else if Nat.bitAt (s.fld Page.dev DEV.OTP_SEC_REVOKED) (byteAt h 0xD) then 5
  else if byteAt h 0xC < s.fld Page.dev DEV.OTP_SEC_MIN_SVN then 4
  else if leAt h 0x1C 4 ≠ crc32c (s.imageBytes c 0x100 len) then 6
  else if met = .stagingWrite then 8
  else 0

/-- VERSION of a copy for the order of R232; a copy without the format comes last. -/
def State.copyVersion (s : State) (c : Nat) : Int :=
  if leAt (s.imageBytes c 0 4) 0 4 = 0x51534C4E then (leAt (s.imageBytes c 8 4) 0 4 : Nat) else -1

def State.insertCopy (s : State) (c : Nat) : List Nat → List Nat
  | [] => [c]
  | d :: t => if s.copyVersion d < s.copyVersion c then c :: d :: t else d :: State.insertCopy s c t

/-- The copies to try, in order (R232). -/
def State.copyOrder (s : State) (slot : Nat) : List Nat :=
  match slot with
  | 1 => [0, 2]
  | 2 => [1, 3]
  | _ => [0, 1, 2, 3].foldl (fun l c => s.insertCopy c l) []

/-- An image load begins (R232). -/
def State.startLoad (s : State) : State :=
  let p := Page.lsq 0
  let s1 := (s.setFlag p LSQ.IMG_STATUS_BUSY true).setFld p LSQ.IMG_STATUS_REJECTED 0
  { s1 with loadQueue := s1.copyOrder (s1.fld p LSQ.IMG_CTL_SLOT) }

/-- The load ends. -/
def State.endLoad (s : State) : State :=
  let p := Page.lsq 0
  ({ s with loadQueue := [] }.setFlag p LSQ.IMG_STATUS_BUSY false).setFlag p LSQ.IMG_CTL_RELOAD false

/-- RELOAD = 1 starts a load where none runs. -/
def execImgReload (r : Req) (data : Word) (s : State) : Result :=
  answer (
    let p := Page.lsq 0
    s.hostWrite r p LSQ.IMG_CTL 0 false fun s =>
      let v := mergeHalf r.size (s.reg p LSQ.IMG_CTL) data
      let s1 := s.setFld p LSQ.IMG_CTL_SLOT (Word.bits v 1 2)
      if Word.bit v 0 && !s.flag p LSQ.IMG_STATUS_BUSY then (s1.setFlag p LSQ.IMG_CTL_RELOAD true).startLoad else s1)

/-- A copy passes: it becomes the active bank's image (R232 steps 4 and 5), and every sequencer's threads stop. -/
def State.acceptCopy (s : State) (c : Nat) : State :=
  let p := Page.lsq 0
  let img := s.readImage c
  let b := !s.flag p LSQ.IMG_STATUS_BANK
  let s1 := if b then { s with bank1 := img } else { s with bank0 := img }
  let s2 := ({ s1 with stores := img, loadQueue := [] }.setFlag p LSQ.IMG_STATUS_BANK b).setFlag p LSQ.IMG_STATUS_VERIFIED true
  let s3 := (s2.setFld p LSQ.IMG_STATUS_COPY (copyCode c)).setFld p LSQ.IMG_STATUS_SVN img.svn
  s3.setFld p LSQ.IMG_VERSION_VERSION img.version

/-- One copy of the load is read and checked (R232 steps 1 to 5). -/
def execImageLoad (met : CopyFault) (s : State) : Result :=
  answer (
    let p := Page.lsq 0
    if s.flag p LSQ.IMG_STATUS_BUSY then
      match s.loadQueue with
      | [] => s
      | c :: rest =>
        let why := s.imageReason c met
        if why = 0 then s.acceptCopy c
        else
          let s1 := { s with loadQueue := rest }
          let s2 := s1.setFld p LSQ.IMG_STATUS_REJECTED (setBitN (s.fld p LSQ.IMG_STATUS_REJECTED) (copyCode c) true)
          let s3 := ((s2.setFld p LSQ.IMG_STATUS_REASON why).count p LSQ.IMG_REJECTS).raise p LSQ.S_IMG_REJECT
          if rest.isEmpty then (s3.raise p LSQ.S_IMG_NONE).endLoad else s3
    else s)

/-- Step 6: every sequencer whose domain is on locks its stores and restarts its threads. -/
def execImgLoaded (s : State) : Result :=
  answer (
    let p := Page.lsq 0
    if s.flag p LSQ.IMG_STATUS_BUSY && s.loadQueue.isEmpty then
      let one (s : State) (n : Nat) : State := if s.powered (Page.lsq n) then s.resyncSeq n else s
      let s1 := (List.range 96).foldl one s
      let s2 := ((s1.count p LSQ.IMG_LOADS).raise p LSQ.S_IMG_LOADED).clearCause p LSQ.S_IMG_NONE
      (s2.setFlag Page.dev DEV.DEV_STATUS_IMAGE_READY true).endLoad
    else s)

/-! ## Mailbox (R237, R238) -/

/-- The command ends with a result. -/
def State.mbxEnd (s : State) (n result : Nat) : State :=
  let p := Page.lsq n
  ((s.setFlag p LSQ.MBX_STATUS_BUSY false).setFlag p LSQ.MBX_STATUS_DONE true).setFld p LSQ.MBX_STATUS_RESULT result

def State.mbxRsp (s : State) (n i : Nat) (v : BitVec 48) : State := s.setReg (Page.lsq n) LSQ.MBX_RSP v i

/-- THREAD_STATUS: what the three words hold; how they pack it is not given. -/
def State.mbxThreadStatus (s : State) (n t : Nat) : State :=
  let x := s.thread n t
  let sp := if x.space = .vertical then 1 else 0
  let s1 := s.mbxRsp n 0 (Config.mailboxWord 0 [x.pc, sp])
  let s2 := s1.mbxRsp n 1 (Config.mailboxWord 1 [x.stack.length, flagWord x, if s.inTrap n t then 1 else 0])
  let c := match x.wait with | some w => w.cond | none => 0
  (s2.mbxRsp n 2 (Config.mailboxWord 2 [c, s.free])).drawn

/-- A word of a store (READ_STORE), low bits first; `none`: outside the store. -/
def State.storeWord (s : State) (sel a : Nat) (rom : BitVec 24) : Option Nat :=
  match sel with
  | 0 => if a < 8192 then some rom.toNat else none
  | 1 => (s.stores.patch[a]?).map (·.toNat)
  | 2 => (s.stores.nano[a]?).map (·.toNat)
  | 3 => if a < 16384 then some (rom.toNat % 2 ^ 16) else none
  | 4 => if a < 16 then some (s.stores.match_.getD a 0).toNat else none
  | _ => none

def State.mbxReadStore (s : State) (n : Nat) (rom : BitVec 24) : State :=
  let p := Page.lsq n
  match s.storeWord (s.fld p LSQ.MBX_ARG_ARG0 % 8) (s.fld p LSQ.MBX_ARG_ARG1) rom with
  | some v =>
    (((s.mbxRsp n 0 (BitVec.ofNat 48 v)).mbxRsp n 1 (BitVec.ofNat 48 (v / 2 ^ 48))).mbxRsp n 2
      (BitVec.ofNat 48 (v / 2 ^ 96))).mbxEnd n 0
  | none => s.mbxEnd n 2

/-- A command that the group thread serves: RESULT 5 while it is HALTED; it waits, or ends with its results. -/
def State.mbxServed (s : State) (n : Nat) (met : Served) (words : Nat) : State :=
  if s.tstate n 8 = tsHalted then s.mbxEnd n 5
  else match met with
    | .waiting => s
    | .done a b => (if words = 2 then (s.mbxRsp n 0 a).mbxRsp n 1 b else s.mbxRsp n 0 a).mbxEnd n 0

/-- The commands of R238, by their code in MBX_CMD. -/
def State.mbxRun (s : State) (n op t : Nat) (rom : BitVec 24) (met : Served) : State :=
  let l := 8 * n + t
  match op with
  | 1 => if t ≤ 8 then (s.mbxThreadStatus n t).mbxEnd n 0 else s.mbxEnd n 2
  | 2 => if t < 8 then (s.restartOne n t).mbxEnd n 0 else s.mbxEnd n 2
  | 3 => ((s.setFlag (Page.lsq n) LSQ.MBX_STATUS_BUSY false).resyncSeq n).mbxEnd n 0
  | 4 => if t ≤ 8 then (s.haltThread n t 8 4 false).mbxEnd n 0 else s.mbxEnd n 2
  | 5 => if t ≤ 8 then
      (s.mbxRsp n 0 (BitVec.ofNat 48 (s.greg n t (s.fld (Page.lsq n) LSQ.MBX_ARG_ARG0 % 16)).toNat)).mbxEnd n 0
    else s.mbxEnd n 2
  | 6 => s.mbxReadStore n rom
  | 7 => if t < 8 ∧ (s.lstate l = lsActive ∨ s.lstate l = lsTest) then s.mbxServed n met 2 else s.mbxEnd n 2
  | 8 => s.mbxServed n met 1
  | _ => s.mbxEnd n 1

/-- A write of MBX_CMD (R237). -/
def State.mbxWrite (s : State) (r : Req) (n : Nat) (data : Word) (rom : BitVec 24) (met : Served) : State :=
  let p := Page.lsq n
  s.hostWrite r p LSQ.MBX_CMD 0 true fun s =>
    if s.flag p LSQ.MBX_STATUS_BUSY then s.raise p LSQ.S_MBX_REFUSED
    else
      let s1 := ((s.setFlag p LSQ.MBX_STATUS_DONE false).setFld p LSQ.MBX_STATUS_RESULT 0).setFlag p LSQ.MBX_STATUS_BUSY true
      s1.mbxRun n (Word.bits data 40 8) (Word.bits data 36 4) rom met

def execThreadStatus (r : Req) (n : Fin 96) (data : Word) (s : State) : Result := answer (s.mbxWrite r n data 0 .waiting)
def execRestartThread (r : Req) (n : Fin 96) (data : Word) (s : State) : Result := answer (s.mbxWrite r n data 0 .waiting)
def execResync (r : Req) (n : Fin 96) (data : Word) (s : State) : Result := answer (s.mbxWrite r n data 0 .waiting)
def execHaltThread (r : Req) (n : Fin 96) (data : Word) (s : State) : Result := answer (s.mbxWrite r n data 0 .waiting)
def execReadReg (r : Req) (n : Fin 96) (data : Word) (s : State) : Result := answer (s.mbxWrite r n data 0 .waiting)
def execReadStore (r : Req) (n : Fin 96) (data : Word) (rom : BitVec 24) (s : State) : Result :=
  answer (s.mbxWrite r n data rom .waiting)
def execEyeScan (r : Req) (n : Fin 96) (data : Word) (met : Served) (s : State) : Result := answer (s.mbxWrite r n data 0 met)
def execStoreCheck (r : Req) (n : Fin 96) (data : Word) (met : Served) (s : State) : Result := answer (s.mbxWrite r n data 0 met)

def execMbxNotTaken (n : Fin 96) (s : State) : Result :=
  answer (if s.flag (Page.lsq n) LSQ.MBX_STATUS_BUSY then s.mbxEnd n 3 else s)

/-! ## What a thread's word leaves alone (R212) -/

/-- `u` is `s` but for thread `k` of sequencer `n` and the slots of `q`: no other thread's registers or stack, and no slot that
events, counters and FAULT_N leave alone. -/
def State.ThreadOnly (s u : State) (n k : Nat) (q : Nat → Prop) : Prop :=
  (∀ m v, v < 9 → ¬ (m = n ∧ v = k) → u.thread m v = s.thread m v) ∧ ∀ a, Plain a → ¬ q a → u.slot a = s.slot a

end Sys2Proof.Machine
end

