-- ==== Sys2Proof/Machine/SpareTraverse.lean ====
section
/-!
DEFINITION. Sys2Proof/Machine/SpareTraverse.lean: benchmark probes, takeovers by T24 and its return (11_traverses.md).
Readings and choices (notes/assumptions): DEDUCED 51.
-/
namespace Sys2Proof.Machine

/-! ## Benchmark probes (R372, R373) -/

/-- One probe of traverse `t` as it ends: it is counted, as is its repetition; a second failure is a fault. -/
def State.probe (s : State) (t : Nat) (e : ProbeEnd) : State :=
  let p := Page.trv t
  let seq := (s.fld p TRV.PROBE_STATUS_SEQ + 1) % 2 ^ 16
  let s1 := (s.setFld p TRV.PROBE_STATUS_SEQ seq).count p TRV.C_PROBES_RUN
  match e with
  | .pass => s1.setFld p TRV.PROBE_STATUS_LAST 1
  | .once => (s1.count p TRV.C_PROBES_RUN).setFld p TRV.PROBE_STATUS_LAST 2
  | .twice =>
    (((s1.count p TRV.C_PROBES_RUN).setFld p TRV.PROBE_STATUS_LAST 3).count p TRV.C_PROBE_FAILS).raise p TRV.S_PROBE_FAIL

/-- One ingress and one egress probe of a traverse that issues packets: a fenced datapath is clock-gated (R374). -/
def execProbeInject (t : Fin 25) (ingress egress : ProbeEnd) (s : State) : Result :=
  answer (if s.flag (Page.trv t) TRV.TRV_CTL_PROBE_EN && s.travIssues t && s.role t != roleFenced then
      (s.probe t ingress).probe t egress
    else s)

/-! ## Takeover (R375, R376, R381) -/

def State.setRole (s : State) (t n : Nat) : State := s.setFld (Page.trv t) TRV.TRV_STATUS_ROLE n
def State.setServes (s : State) (g : Nat) : State := s.setFld (Page.trv 24) TRV.TRV_STATUS_SERVES g

/-- A packet lies in the datapath of traverse `t`. -/
def inDatapath (t : Nat) (x : Pkt) : Bool :=
  x.trav == t && (match x.stage with
    | .station _ => true
    | .resolve => true
    | .deparse => true
    | _ => false)

/-- The packets in flight in traverse `t`. -/
def State.inFlight (s : State) (t : Nat) : List Nat :=
  (s.pkts.filter (fun (e : Nat × Pkt) => inDatapath t e.2)).map (·.1)

/-- They are lost. -/
def State.loseFlight (s : State) (t : Nat) : State :=
  (s.inFlight t).foldl (fun (s : State) (i : Nat) => (s.sentDropped (s.pkt i)).dropPkt i) s

/-- T24 stands in for group `g`, whose own traverse is fenced (R376 steps 3 to 5). -/
def State.standIn (s : State) (g : Nat) : State :=
  let s1 := ((s.setRole g roleFenced).raise (Page.trv g) TRV.S_FENCED).setServes g
  ((s1.setRole 24 roleStandingIn).count (Page.trv 24) TRV.C_SWITCHES).raise (Page.trv 24) TRV.S_STANDING_IN

/-- Region `g` has failed (R375): T24 takes over where it is FREE, and the packets in flight are lost (R377); else NO_SPARE. -/
def State.takeover (s : State) (g : Nat) : State :=
  let p := Page.trv g
  if !s.t24Free then s.raise p TRV.S_NO_SPARE
  else if !s.flag p TRV.TRV_CTL_AUTO_SPARE then s
  else
    let n := (s.inFlight g).length
    ((s.loseFlight g).count p TRV.C_SWITCH_LOST n).standIn g

/-- A HALT in region `g` starts a takeover. -/
def execAutoTakeover (g : Fin 24) (s : State) : Result :=
  answer (if s.role g = roleInService ∧ s.regionHalted g then s.takeover g else s)

/-! ## Commands of host software (R381 to R383) -/

/-- Learned entries of traverse `t` are removed. -/
def State.clearLearned (s : State) (t : Nat) : State :=
  let gone (e : Nat × TEntry) : Bool := e.1 / 2 ^ 39 == t && e.2.learned
  let s1 := (s.tables.filter gone).foldl (fun s (e : Nat × TEntry) =>
    s.subEntry t (s.desc t (e.1 / 2 ^ 29 % 1024)).qclass e.2.parcel) s
  ({ s1 with tables := s1.tables.filter (fun e => !gone e), learnQ := s1.learnQ.set t [] [],
             notes := s1.notes.set t [] [] } : State).noteFollow t

/-- Counters and cells of traverse `t` are zero and its meters full (R383, R386); rates and bursts stay. -/
def State.clearElements (s : State) (t : Nat) : State :=
  { s with seEnts := (s.seEnts.map (fun e =>
      if e.1 / 2 ^ 24 / 20 = t then
        (e.1, { mode := e.2.mode, cir := e.2.cir, pir := e.2.pir, cbs := e.2.cbs, ebs := e.2.ebs })
      else e)).filter (fun e => e.2 != dflt.seEntry) }

/-- TAKEOVER: refused where T24 is not FREE or the group does not exist. The traverse completes its packets in flight. -/
def State.hostTakeover (s : State) (g : Nat) : State :=
  if g < 24 ∧ s.t24Free ∧ s.role g = roleInService then s.standIn g else s.raise (Page.trv 24) TRV.S_SPARE_REFUSED

/-- RETURN: refused unless T24 stands in for the group and its own traverse is ready (R382). With T24 HALTED its packets in flight
are lost. -/
def State.hostReturn (s : State) (g : Nat) : State :=
  let q := Page.trv 24
  if s.role 24 = roleStandingIn ∧ s.serves = g ∧ g < 24 ∧ s.role g = roleFenced ∧ s.fld (Page.trv g) TB.PAGE_STATE_STATE = 2
      ∧ !s.regionHalted g ∧ s.flag (Page.prs g) PRS.BANK_STATUS_ACTIVE_VALID then
    let s1 := if s.regionHalted 24 then s.loseFlight 24 else s
    ((((s1.setRole g roleInService).clearLearned g).setRole 24 roleClearing).setServes 24).count q TRV.C_RETURNS
  else s.raise q TRV.S_SPARE_REFUSED

/-- A write of SPARE_CMD; RETURN and TAKEOVER together are refused. -/
def State.spareCommand (s : State) (r : Req) (data : Word) : State :=
  s.hostWrite r (Page.trv 24) TRV.SPARE_CMD 0 true fun s =>
    let g := Word.bits data 0 5
    match Word.bit data 7, Word.bit data 6 with
    | true, true => s.raise (Page.trv 24) TRV.S_SPARE_REFUSED
    | true, false => s.hostReturn g
    | false, true => s.hostTakeover g
    | false, false => s

def execSpareTakeover (r : Req) (data : Word) (s : State) : Result := answer (s.spareCommand r data)
def execSpareReturn (r : Req) (data : Word) (s : State) : Result := answer (s.spareCommand r data)

/-- Clearing after a return ends: T24 is FREE (R383). -/
def execSpareClearingDone (s : State) : Result :=
  answer (if s.role 24 = roleClearing then (((s.clearLearned 24).clearElements 24).setServes 24).setRole 24 roleFree else s)

/-- The tests that T24 runs while FREE (R384): SELFTEST code 1 of its stations (0 to 19), its resolution (20) and its deparser (21); a
march that finds a fault is an uncorrectable error of that page (R371). The spec names no source for resolution's. -/
def execT24ClosureSelftest (bad : Option (Fin 22)) (s : State) : Result :=
  answer (if s.role 24 = roleFree ∧ s.powered (Page.trv 24) then
      match bad with
      | none => s
      | some k =>
        if k.val < 20 then s.raise (Page.stn 24 k) STN.S_STN_MEM_FAIL
        else if k.val = 21 then s.raise (Page.dpr 24) DPR.S_DPR_MEM_FAIL
        else s
    else s)

/-! ## The bridge mask (R387) -/

def popcount (n v : Nat) : Nat := ((List.range n).filter (fun i => Nat.bitAt v i)).length

/-- A write of BRIDGE_MASK `i`: not stored where more than 40 of words 0 to 167 would be bridged. -/
def execBridgeMaskWrite (r : Req) (t : Fin 25) (i : Fin 4) (data : Word) (s : State) : Result :=
  answer (
    let p := Page.trv t
    s.hostWrite r p TRV.BRIDGE_MASK i false fun s =>
      let new := mergeHalf r.size (s.reg p TRV.BRIDGE_MASK i) data
      let w := if i.val = 3 then Word.setBits new 24 24 0xFFFFFF else new
      let s1 := s.setReg p TRV.BRIDGE_MASK w i
      let n := ((List.range 4).map (fun j =>
        let m := (s1.reg p TRV.BRIDGE_MASK j).toNat
        popcount 48 (if j = 3 then m % 2 ^ 24 else m))).foldl (· + ·) 0
      if 40 < n then s.raise p TRV.S_BRIDGE_INVALID else s1)

end Sys2Proof.Machine
end

