-- ==== Sys2Proof/Machine/Spray.lean ====
section
/-!
DEFINITION. Sys2Proof/Machine/Spray.lean: restore contexts, and the indirect registers of the spray unit
(13_spray_and_restore.md).
Readings and choices (notes/assumptions): DEDUCED 56.
-/
namespace Sys2Proof.Machine

/-! ## Contexts (R436, R438) -/

def State.ctxWord (s : State) (c : Nat) : Word := s.entWord spContext 0 c 0
def ctxParcel (w : Word) : Nat := Word.bits w 30 12
/-- TIMEOUT in µs: 1 to 1,000. -/
def ctxTimeout (w : Word) : Nat := Nat.min 1000 (Nat.max 1 (Word.bits w 20 10))

def State.restore (s : State) (c : Nat) : Restore := s.restores.get c dflt.restore
def State.setRestore (s : State) (c : Nat) (x : Restore) : State := { s with restores := s.restores.set c x dflt.restore }

/-- How far a sequence number lies ahead of NEXT. -/
def Restore.ahead (x : Restore) (seq : Nat) : Nat := (seq + 2 ^ 24 - x.next) % 2 ^ 24

/-- The filled positions in sequence order. -/
def Restore.inOrder (x : Restore) : List (Nat × Option Nat) := x.filled.mergeSort (fun a b => decide (x.ahead a.1 ≤ x.ahead b.1))

/-- Frames that a context holds. -/
def Restore.frames (x : Restore) : List Nat := x.filled.filterMap (·.2)

/-- Cells held for restore. -/
def State.heldCells (s : State) : Nat :=
  (s.pkts.filter (fun (e : Nat × Pkt) => e.2.stage == .held)).foldl (fun n (e : Nat × Pkt) => n + s.cellsOf e.1) 0

/-- SPR_STATUS follows. -/
def State.sprFollow (s : State) : State :=
  (s.setFld Page.spr SPR.SPR_STATUS_HELD_CELLS s.heldCells).setFld Page.spr SPR.SPR_STATUS_HOLDING
    (s.restores.filter (fun (e : Nat × Restore) => !e.2.frames.isEmpty)).length

/-- A frame goes on to admission, after those that have gone before it. -/
def State.toAdmission (s : State) (id : Nat) : State := s.tick.setPkt id { s.pkt id with stage := .admission, ord := s.nextPkt }

/-- A position is passed: its packet, if it has one, is released (R440). -/
def State.releaseHeld (s : State) (o : Option Nat) : State :=
  match o with
  | some id => (s.toAdmission id).count Page.spr SPR.C_RESTORED
  | none => s

/-- Positions lost in context `c`. -/
def State.gapsLost (s : State) (c n : Nat) : State :=
  if n = 0 then s
  else ((s.count Page.spr SPR.C_GAPS_LOST n).raise Page.spr SPR.S_GAP_LOST).survey 22
    { parcel := some (ctxParcel (s.ctxWord c)), addr := some c } n

/-- Released as long as NEXT is filled (R440). -/
def State.runRestore (s : State) (fuel c : Nat) : State :=
  match fuel with
  | 0 => s
  | fuel + 1 =>
    let x := s.restore c
    match x.filled.find? (fun e => e.1 == x.next) with
    | none => s
    | some e =>
      let y := { x with next := (x.next + 1) % 2 ^ 24, filled := x.filled.filter (fun f => f.1 != x.next) }
      ((s.setRestore c y).releaseHeld e.2).runRestore fuel c

/-- The wait for NEXT runs while positions beyond it are filled; it starts anew as NEXT moves (`old`: NEXT before) (R439). -/
def State.waitFollow (s : State) (c old : Nat) : State :=
  let x := s.restore c
  let since := if x.filled.isEmpty then none else if x.next = old ∧ x.since.isSome then x.since else some s.time.us
  (s.setRestore c { x with since := since }).sprFollow

/-- The wait has lasted TIMEOUT. -/
def State.waitOver (s : State) (c : Nat) : Bool :=
  match (s.restore c).since with
  | some t => decide (t + ctxTimeout (s.ctxWord c) ≤ s.time.us)
  | none => false

/-- The end of a wait (R439): the positions up to the first filled one are lost. -/
def State.expire (s : State) (c : Nat) : State :=
  let x := s.restore c
  match x.inOrder.head? with
  | none => s
  | some e =>
    let s1 := (s.setRestore c { x with next := e.1 }).gapsLost c (x.ahead e.1)
    (s1.runRestore x.filled.length c).waitFollow c x.next

/-- RESTORE_TIMEOUT of a context. -/
def execRestoreTimeout (c : Fin 65536) (s : State) : Result := answer (if s.waitOver c then s.expire c else s)

/-! ## Recording (R436 to R443, R481) -/

/-- The frame goes on without restore; one that resolution has dropped is gone. -/
def State.passOn (s : State) (id : Nat) : State := if (s.pkt id).dead then s.dropPkt id else s.toAdmission id

/-- A late frame (R441). -/
def State.lateFrame (s : State) (c id : Nat) : State :=
  if (s.pkt id).dead then s.dropPkt id
  else if Word.bit (s.ctxWord c) 46 then ((s.count Page.spr SPR.C_LATE_DROPPED).raise Page.spr SPR.S_LATE).dropPkt id
  else ((s.count Page.spr SPR.C_LATE_DELIVERED).raise Page.spr SPR.S_LATE).toAdmission id

/-- A frame to be held takes its descriptor and its buffers (R481): the state, and whether it is held. -/
def State.holdFrame (s : State) (id : Nat) (arrived : Option Nat) : State × Bool :=
  let x := s.pkt id
  let p := x.parcel
  let early := arrived.isSome && x.early
  let size := if early then Nat.max (arrived.getD 0) (s.maxFrame x.lp - 4) else x.bytes.length
  let band := if early then arrived.getD 0 else x.bytes.length
  let b := s.buffersFor id p size band
  let free := s.fld Page.tmc TMC.DESC_STATUS_FREE
  if x.dead then (s.dropPkt id, false)
  else if free = 0 then (((s.count Page.tmc TMC.C_DROP_NO_DESC).raise Page.tmc TMC.S_DESC_EXHAUSTED).dropPkt id, false)
  else if s.fld Page.spr SPR.SPR_CTL_RESTORE_MAX_CELLS < s.heldCells + b.cells size then
    (((s.count Page.spr SPR.C_RESTORE_FULL).raise Page.spr SPR.S_RESTORE_FULL).dropPkt id, false)
  else
    let s1 := (s.setFld Page.tmc TMC.DESC_STATUS_FREE (free - 1)).setPkt id { x with desc := true }
    match b with
    | .noSet => ((s1.noBuffers p b).dropPkt id, false)
    | .exhausted _ => (((s1.raise Page.bpm BPM.S_CHAIN_EXHAUSTED).noBuffers p b).dropPkt id, false)
    | _ =>
      let g := ((s1.dfqJudge id p).1).takeBuffers id p size b
      if g.2 then
        let s2 := if early then g.1.trimChain ((g.1.pkt id).chain - 1) x.bytes.length else g.1
        (s2.setPkt id { s2.pkt id with stage := .held }, true)
      else (g.1.dropPkt id, false)

/-- The position of a frame ahead of NEXT is filled, with the frame or without. -/
def State.fillAhead (s : State) (c seq id : Nat) (arrived : Option Nat) : State :=
  let g := s.holdFrame id arrived
  let x := g.1.restore c
  g.1.setRestore c { x with filled := x.filled ++ [(seq, if g.2 then some id else none)] }

/-- A frame beyond the window moves it (R442). -/
def State.slide (s : State) (c seq : Nat) : State :=
  let x := s.restore c
  let next := (seq + 2 ^ 24 - 2047) % 2 ^ 24
  let span := x.ahead next
  let passed := x.inOrder.filter (fun e => decide (x.ahead e.1 < span))
  let s1 := (s.setRestore c { x with next := next, filled := x.filled.filter (fun e => !decide (x.ahead e.1 < span)) }).count Page.spr
    SPR.C_WINDOW_SLIDES
  passed.foldl (fun (s : State) (e : Nat × Option Nat) => s.releaseHeld e.2) (s1.gapsLost c (span - passed.length))

/-- Frame `id` with sequence number `seq` is recorded in context `c` (R438). -/
def State.record_ (s : State) (c seq id : Nat) (arrived : Option Nat) : State :=
  let x0 := s.restore c
  let s0 := if x0.synced then s else s.setRestore c { x0 with synced := true, next := seq }
  let x := s0.restore c
  let d := x.ahead seq
  let s1 :=
    if d = 0 then
      let s1 := s0.setRestore c { x with next := (seq + 1) % 2 ^ 24 }
      if (s1.pkt id).dead then s1.dropPkt id else s1.releaseHeld (some id)
    else if 2 ^ 23 ≤ d ∨ x.filled.any (fun e => e.1 == seq) then s0.lateFrame c id
    else if d < 2048 then s0.fillAhead c seq id arrived
    else (s0.slide c seq).fillAhead c seq id arrived
  (s1.runRestore ((s1.restore c).filled.length) c).waitFollow c x.next

/-- RESTORE_RECORD of a sequenced frame that resolution has passed; a wait that is over ends first. -/
def execRestoreRecord (id : Nat) (arrived : Option Nat) (s : State) : Result :=
  answer (
    let x := s.pkt id
    match x.shim with
    | none => s
    | some (ctx, seq) =>
      if x.stage = .restore ∧ s.isFirst x ∧ s.inService Page.spr then
        let c := ctx % 2 ^ 16
        let w := s.ctxWord c
        if !Word.bit w 47 then (s.count Page.spr SPR.C_UNRESTORED).passOn id
        else if Word.bits w 42 4 ≠ ctx / 2 ^ 16 then
          ((s.count Page.spr SPR.C_TAG_MISMATCH).raise Page.spr SPR.S_TAG_MISMATCH).passOn id
        else
          let s0 := if s.waitOver c then s.expire c else s
          if x.dead then s0.record_ c seq id arrived
          else
            let u := s0.useResource x.parcel (ctxParcel w) .forward
            match u.1 with
            | none => (u.2.setPkt id { u.2.pkt id with dead := true }).record_ c seq id arrived
            | some p => (u.2.setPkt id { u.2.pkt id with parcel := p }).record_ c seq id arrived
      else s)

/-- VALID = 0 written to a context (R445): what it holds is released in order. -/
def State.emptyContext (s : State) (c : Nat) : State :=
  let x := s.restore c
  let l := x.inOrder
  let gaps := match l.head?, l.getLast? with
    | some a, some b => x.ahead b.1 - x.ahead a.1 + 1 - l.length
    | _, _ => 0
  let s1 := (s.setRestore c { x with filled := [], since := none }).count Page.spr SPR.C_GAPS_LOST gaps
  let s2 := if gaps = 0 then s1 else s1.survey 22 { parcel := some (ctxParcel (s.ctxWord c)), addr := some c } gaps
  (l.foldl (fun (s : State) (e : Nat × Option Nat) => s.releaseHeld e.2) s2).sprFollow

/-! ## Indirect registers (R447) -/

def sprSize (tgt : Nat) : Nat :=
  match tgt with
  | 0 => 1024 | 1 => 16384 | 2 => 65536 | 3 => 65536 | _ => 0

/-- A group as written; its members' credits start again. -/
def State.writeGroup (s : State) (g : Nat) (d : List Word) : State × Nat :=
  let w := keep 0xFFFFFFFFFC00 (d.getD 0 0)
  let v := keep 0xFFFFF (d.getD 1 0)
  let n := groupCount w
  let log := Word.bits w 10 4
  if 16384 < groupBase w + n ∨ n = 0 ∨ 64 < n ∨ 8 < log ∨ 2 ^ 20 < v.toNat + 2 ^ log then (s, 6)
  else ((s.setEnt spSpray 0 g [w, v]).clearCredits g, 0)

/-- A member as written; it is present, or not, as R427 has it, and the credits of its groups start again. -/
def State.writeMember (s : State) (m : Nat) (d : List Word) : State × Nat :=
  let w := keep 0xFFFFF0000000 (d.getD 0 0)
  if Word.bits w 28 8 = 0 then (s, 6)
  else
    let s1 := s.setEnt spSprayMember 0 m [w]
    let s2 : State := { s1 with present := s1.present.set m (if s1.memberReady m then s1.effWeight m + 1 else 0) 0 }
    ((s2.groupsOf m).foldl (fun (s : State) (g : Nat) => s.clearCredits g) s2, 0)

/-- A context as written; a wait that is over ends first (R446). -/
def State.writeContext (s : State) (c : Nat) (d : List Word) : State × Nat :=
  let w := keep 0xFFFFFFF00000 (d.getD 0 0)
  let was := Word.bit (s.ctxWord c) 47
  if !Word.bit w 47 then
    let s0 := if s.waitOver c then s.expire c else s
    ((s0.emptyContext c).setEnt spContext 0 c [w], 0)
  else
    let s1 := s.setEnt spContext 0 c [w]
    (if was then s1 else s1.setRestore c { s1.restore c with synced := false }, 0)

def State.sprWrite (s : State) (tgt i : Nat) (d : List Word) : State × Nat :=
  match tgt with
  | 0 => s.writeGroup i d
  | 1 => s.writeMember i d
  | 2 => s.writeContext i d
  | _ => (s.setEnt spSendSeq 0 i [keep 0xFFFFFF (d.getD 0 0)], 0)

/-- The words of an entry as a read fills them. -/
def State.sprWords (s : State) (tgt i : Nat) : List Word :=
  match tgt with
  | 0 =>
    let l := s.ent spSpray 0 i
    [l.getD 0 0, Word.setBits (l.getD 1 0) 40 7 (s.groupMembers i).length]
  | 1 =>
    let w := s.sprayMember i
    [Word.setBits (Word.setBit w 27 (s.present.get i 0 != 0)) 19 8 (s.effWeight i)]
  | 2 =>
    let x := s.restore i
    [s.ctxWord i, BitVec.ofNat 48 (b2n x.synced * 2 ^ 47 + x.next * 2 ^ 23 + x.frames.length * 2 ^ 11 + b2n x.since.isSome * 2 ^ 10)]
  | _ => [s.entWord spSendSeq 0 i 0]

/-- A write of SPR.IND_CMD: a read or a write, as its bit 44 says. -/
def State.sprCommand (s : State) (r : Req) (data : Word) : State :=
  s.indCommand r Page.spr SPR.IND_CMD sprInd fun s =>
    let tgt := Word.bits data 45 3
    let i := Word.bits data 0 16
    let x := if sprSize tgt = 0 then (s, 1)
      else if sprSize tgt ≤ i then (s, 2)
      else if Word.bit data 44 then s.sprWrite tgt i (s.indData Page.spr SPR.IND_DATA 2)
      else (s.fillData Page.spr SPR.IND_DATA 2 (s.sprWords tgt i), 0)
    (x.1, x.2, false)

def execSprIndRead (r : Req) (data : Word) (s : State) : Result := answer (s.sprCommand r data)
def execSprIndWrite (r : Req) (data : Word) (s : State) : Result := answer (s.sprCommand r data)

end Sys2Proof.Machine
end

