-- ==== Sys2Proof/Machine/Telemetry.lean ====
section
/-!
DEFINITION. Sys2Proof/Machine/Telemetry.lean: bandwidth meters, survey counters, wrap bits, the flow area and its sweeper, staking
settings, export rings and dumps (18_telemetry_and_counters.md).
Readings and choices (notes/assumptions): DEDUCED 68, 69, 71; DESIGN CHOICE 70, 72.
-/
namespace Sys2Proof.Machine

/-! ## Bandwidth meters (R564 to R568) -/

/-- The window of a meter, in microseconds (R565). -/
def State.meterWindow (s : State) : Nat :=
  let c := Nat.min 18 (s.fld Page.tel TEL.METER_CFG_WIN)
  ([1, 2, 5].getD (c % 3) 1) * 10 ^ (c / 3)

/-- A meter shows VALID. -/
def State.meterValid (s : State) (k : Nat) : Bool := s.wOn && (s.meters.get k dflt.meter).valid

/-- Windows close in the microsecond in which a whole second or a window's end lies. -/
def State.atWindow (s : State) : Bool := s.wOn && decide (s.time.w % (1000000000 * nsUnits) % (s.meterWindow * usUnits) < usUnits)

/-- The window of meter `m` closes; one that did not begin after the restart is not counted. -/
def execMeterWindowClose (m : Fin 1536) (s : State) : Result :=
  answer (
    let x := s.meters.get m dflt.meter
    if s.works Page.tel && s.atWindow && x.shut != s.time.us + 1 then
      let y : Meter :=
        if x.whole then { now := 0, last := x.now, peak := Nat.max x.peak x.now, valid := true, whole := true, shut := s.time.us + 1,
                                     prev := x.peak }
        else { x with now := 0, whole := true, shut := s.time.us + 1 }
      { s with meters := s.meters.set m y dflt.meter }
    else s)

def execMeterCfgWrite (r : Req) (data : Word) (s : State) : Result :=
  answer (s.hostWrite r Page.tel TEL.METER_CFG 0 false fun s =>
    let new := (mergeHalf r.size (s.reg Page.tel TEL.METER_CFG) data).toNat
    (s.setReg Page.tel TEL.METER_CFG (BitVec.ofNat 48 (new % 2 ^ 13))).restartMeters (fun _ => true))

/-! ## Survey counters (R569 to R572, R600) -/

/-- Valid survey counters of parcel `p` other than `i`. -/
def State.surveysOf (s : State) (p i : Nat) : Nat :=
  (s.ents.filter (fun e => e.1 / 2 ^ 32 == spSurvey * 2 ^ 16 && e.1 % 2 ^ 32 != i && Word.bit (e.2.getD 0 0) 47
    && Word.bits (e.2.getD 0 0) 35 12 == p)).length

/-- The lowest of the 480 slots of parcel `p`'s block that shows no survey counter. -/
def State.surveyFree (s : State) (p : Nat) : Option Nat :=
  (List.range 480).find? (fun k => !(s.surveySlot.any (fun e => e.2 == k + 1 && s.surveyOwner e.1 == p)))

/-- A survey counter's settings are written: refused, or stored with the counter at zero. -/
def State.surveyWrite (s : State) (i : Nat) (d : List Word) : State × Nat :=
  let w0 := keep 0xFFFFFFFFFFE0 (d.getD 0 0)
  let w1 := keep 0xFFFFFFFF8000 (d.getD 1 0)
  let p := Word.bits w0 35 12
  if 26 ≤ Word.bits w0 29 6 then (s, 6)
  else if Word.bit w0 47 && decide (s.pclFld p PCL.RES_QUOTA_COUNTERS < s.surveysOf p i + 1) then (s.quotaHit p, 7)
  else
    let s1 : State := { s.zeroCounter (surveyCtr i) with surveySlot := s.surveySlot.set i 0 0 }
    let s2 := s1.setEnt spSurvey 0 i [w0, w1, d.getD 2 0, d.getD 3 0]
    match Word.bit w0 47, s1.surveyFree p with
    | true, some k => ({ s2 with surveySlot := s2.surveySlot.set i (k + 1) 0 }, 0)
    | _, _ => (s2, 0)

/-- A write of SVC.IND_CMD: a read or a write, as its bit 47 says. -/
def State.svcCommand (s : State) (r : Req) (data : Word) : State :=
  s.indCommand r Page.svc SVC.IND_CMD svcInd fun s =>
    let i := Word.bits data 0 12
    let x := if Word.bit data 47 then s.surveyWrite i (s.indData Page.svc SVC.IND_DATA 4)
      else (s.fillData Page.svc SVC.IND_DATA 4 (s.ent spSurvey 0 i), 0)
    (x.1, x.2, false)

def execSvcIndRead (r : Req) (data : Word) (s : State) : Result := answer (s.svcCommand r data)
def execSvcIndWrite (r : Req) (data : Word) (s : State) : Result := answer (s.svcCommand r data)

/-! ## Wrap bits (R562, R563) -/

def execWrapAddrWrite (r : Req) (data : Word) (s : State) : Result :=
  answer (s.hostWrite r Page.svc SVC.WRAP_ADDR 0 false fun s =>
    (s.setReg Page.svc SVC.WRAP_ADDR (mergeHalf r.size (s.reg Page.svc SVC.WRAP_ADDR) data)).showWraps)

/-- Writing 1 to a bit of WRAP_MAP clears that wrap bit. -/
def execWrapMapClear (r : Req) (data : Word) (s : State) : Result :=
  answer (s.hostWrite r Page.svc SVC.WRAP_MAP 0 false fun s =>
    let w := mergeHalf r.size 0 data
    (List.range 48).foldl (fun (s : State) (j : Nat) =>
      if Word.bit w j && s.wrapOf (s.wrapSlot j) then s.setWrap (s.wrapSlot j) false else s) s)

/-! ## The flow area and the sweeper (R577, R578) -/

/-- The first of the eight slots of a key's bucket. -/
def State.flowBucket (s : State) (key : Nat) : Nat := s.flowKeyHash key * (s.flowUnits * 65536) / 2 ^ 32 * 8

/-- Device address of slot `k` of the flow area (R513). -/
def State.flowAddr (s : State) (k : Nat) : Nat := s.tblUnits * 3 * 2 ^ 26 + 128 * k

/-- The slot of the bucket that a record goes to: that of its key, a free one, or the one whose LAST is oldest. -/
def State.flowSlot (s : State) (key : Nat) : Nat :=
  let b := s.flowBucket key
  let slots := (List.range 8).map (fun i => b + i)
  match slots.find? (fun k => (s.flowStore.get k dflt.flow).valid && (s.flowStore.get k dflt.flow).key == key) with
  | some k => k
  | none =>
    match slots.find? (fun k => !(s.flowStore.get k dflt.flow).valid) with
    | some k => k
    | none =>
      slots.foldl (fun m k => if (s.flowStore.get k dflt.flow).last < (s.flowStore.get m dflt.flow).last then k else m) b

/-- Record `f` lands in the flow area: the bucket is read and the record's slot written. -/
def State.landFlow (s : State) (f : Flow) : State :=
  let k := s.flowSlot f.key
  let old := s.flowStore.get k dflt.flow
  let s1 := if old.valid && old.key != f.key then
      ({ s with flowStore := s.flowStore.set k dflt.flow dflt.flow } : State).exportFlow old 4 else s
  let g := if old.valid && old.key == f.key then old.join f else f
  ((({ s1 with flowStore := s1.flowStore.set k g dflt.flow } : State).hbmSurvey 3 (s.flowAddr (s.flowBucket f.key)) 1024).hbmSurvey 3
    (s.flowAddr k) 128).flowFollow

/-- FLOW_WRITEBACK: the oldest record of the write-back queue lands; exported where the backing has gone. -/
def execFlowWriteback (s : State) : Result :=
  answer (match s.flowBack with
    | [] => s
    | f :: q =>
      let s1 := ({ s with flowBack := q } : State).flowFollow
      if !s1.works Page.tel then s else if s1.flowBacked then s1.landFlow f else s1.exportFlow f 4)

/-- W less a record's timestamp is at least `ns` nanoseconds. -/
def State.pastNs (s : State) (t ns : Nat) : Bool := decide (t + ns * nsUnits ≤ s.time.w)

/-- Why a record leaves at the sweeper's visit (R578): ACTIVE_TIMEOUT in bit 3. -/
def State.sweepFlags (s : State) (f : Flow) : Option Nat :=
  let idle := Nat.max 1 (s.fld Page.tel TEL.FLOW_TIMEOUT_IDLE_MS)
  let act := s.fld Page.tel TEL.FLOW_TIMEOUT_ACTIVE_S
  if act ≠ 0 ∧ s.pastNs f.first (act * 1000000000) then some 8
  else if s.pastNs f.last (idle * 1000000) then some 0
  else none

/-- The sweeper has read stored records that are poisoned: they are discarded. -/
def State.dropPoisoned (s : State) (slots : List Nat) : State :=
  slots.foldl (fun (s : State) (k : Nat) =>
    if (s.flowStore.get k dflt.flow).valid then
      (({ s with flowStore := s.flowStore.set k dflt.flow dflt.flow } : State).count Page.tel TEL.C_FLOW_POISONED).raise Page.tel
        TEL.S_FLOW_POISONED
    else s) s

/-- FLOW_SWEEP: one sweep of every cached and every stored record; `poisoned`: the slots of the flow area that read as
poisoned. -/
def execFlowSweep (poisoned : List Nat) (s : State) : Result :=
  answer (if s.works Page.tel && s.wOn then
      let bad := (poisoned.filter (fun k => (s.flowStore.get k dflt.flow).valid)).map (fun k => (s.flowStore.get k dflt.flow).key)
      let s1 := if s.hbmUp then s.dropPoisoned poisoned else s
      let visit (s : State) (f : Flow) : State :=
        let held := s.flows.any (fun e => e.2 == f) || (s.hbmUp && s.flowStore.any (fun e => e.2 == f))
        match held, s.sweepFlags f with
        | true, some n =>
          let x := s.takeParts f.key
          match x.2 with
          | [] => s
          | a :: l => x.1.exportAlone (l.foldl Flow.join a) (n + (if bad.contains f.key then 2 else 0))
        | _, _ => s
      (s1.flows.map (·.2) ++ s1.flowStore.map (·.2)).foldl visit s1
    else s)

/-! ## Staking settings (R580) -/

def execStakeCfgWrite (r : Req) (t : Fin 25) (data : Word) (s : State) : Result :=
  answer (s.hostWrite r (Page.trc t) TRC.STAKE_CFG 0 false fun s =>
    let new := (mergeHalf r.size (s.reg (Page.trc t) TRC.STAKE_CFG) data).toNat
    ({ s with lfsrs := s.lfsrs.set t 0 0 } : State).setReg (Page.trc t) TRC.STAKE_CFG (BitVec.ofNat 48 (new % 2 ^ 37)))

/-! ## Export rings (R585 to R588) -/

/-- Entry bytes of a stream; the byte that holds PHASE; where RING_SEQ lies and its bytes; where CRC lies. -/
structure Stream where
  size  : Nat
  phase : Nat
  seq   : Nat × Nat
  crc   : Nat
deriving DecidableEq, Repr

def streamOf (n : Nat) : Stream :=
  match n with
  | 0 => ⟨128, 0x03, (0x60, 8), 0x7C⟩
  | 1 => ⟨64, 0x34, (0x38, 4), 0x3C⟩
  | 2 => ⟨4096, 0x07, (0, 0), 0x3C⟩
  | _ => ⟨128, 0x6C, (0x70, 8), 0x7C⟩

/-- Export ring `r` serves this function. -/
def State.xringFn (s : State) (r : Nat) : Nat := 128 * s.fld Page.dmp DMP.XCFG_PORT r

/-- The ring's function can be written to (R588). -/
def State.xringReady (s : State) (r : Nat) : Bool :=
  let f := s.xringFn r
  s.portUp (portOf f) && !(s.fn f).d3hot && (s.fn f).bme && !(s.fn f).flr

def State.xringOn (s : State) (r : Nat) : Bool := s.flag Page.dmp DMP.XCFG_ENABLE r

/-- The device disables the rings whose function cannot be written to (R588). -/
def State.xringsCut (s : State) : State :=
  (List.range 8).foldl (fun (s : State) (r : Nat) =>
    if s.xringOn r && !s.xringReady r then
      { s.setFlag Page.dmp DMP.XCFG_ENABLE false r with xcut := s.xcut.set r true }
    else s) s

/-- Entries of a ring; the entry after one. -/
def State.xringSize (s : State) (r : Nat) : Nat := 2 ^ (6 + s.fld Page.dmp DMP.XCFG_SIZE r)
def State.xringNext (s : State) (r i : Nat) : Nat := (i + 1) % s.xringSize r

/-- The ring is full (R587). -/
def State.xringFull (s : State) (r : Nat) : Bool :=
  s.xringNext r (s.fld Page.dmp DMP.XPROD_INDEX r) == s.fld Page.dmp DMP.XCONS_INDEX r % s.xringSize r

/-- An entry as it stands in host memory: RING_SEQ and CRC filled in, PHASE apart. -/
def sealEntry (q : Stream) (seq : Nat) (l : List Byte) : List Byte :=
  let l1 := overwrite l q.seq.1 (leBytes q.seq.2 seq)
  if q.size = 4096 then overwrite l1 q.crc (leBytes 4 (crc32c l1)) else overwrite l1 q.crc (leBytes 4 (crc32c (l1.take q.crc)))

/-- The entry is written, PHASE last, and XPROD advances (R586). -/
def State.xringPut (s : State) (r : Nat) (l : List Byte) : State :=
  let p := Page.dmp
  let q := streamOf (s.fld p DMP.XCFG_STREAM r)
  let i := s.fld p DMP.XPROD_INDEX r
  let at_ := s.fld p DMP.XBASE_ADDR r * 4096 + i * q.size
  let e := sealEntry q (s.reg p DMP.RECORDS r).toNat l
  let ph := s.xphase.getD r true
  let f := s.xringFn r
  let s1 := ((s.emit (.hostWrite f at_ (e.take q.phase))).emit (.hostWrite f (at_ + q.phase + 1) (e.drop (q.phase + 1)))).emit
    (.hostWrite f (at_ + q.phase) [BitVec.ofNat 8 (byteAt e q.phase + 128 * b2n ph)])
  let n := s.xringNext r i
  let s2 : State := { s1 with xphase := if n = 0 then s1.xphase.set r (!ph) else s1.xphase }
  ((s2.setFld p DMP.XPROD_INDEX n r).count p DMP.RECORDS 1 r).raise p DMP.S_XRING_DATA

/-- A record for ring `r`: written, the oldest entry overwritten, or lost (R587). -/
def State.xringRecord (s : State) (r : Nat) (l : List Byte) : State :=
  let p := Page.dmp
  if !s.xringFull r then s.xringPut r l
  else if s.flag p DMP.XCFG_OVERWRITE r then
    (s.setFld p DMP.XCONS_INDEX (s.xringNext r (s.fld p DMP.XCONS_INDEX r)) r).xringPut r l
  else s.count p DMP.XLOST 1 r

/-- A record of a stream reaches every enabled ring of it; a ring that the device has disabled counts it lost. -/
def State.xrings (s : State) (stream : Nat) (l : List Byte) : State :=
  (List.range 8).foldl (fun (s : State) (r : Nat) =>
    if s.fld Page.dmp DMP.XCFG_STREAM r = stream then
      (if s.xringOn r then s.xringRecord r l else if s.xcut.getD r false && !s.xringReady r then s.count Page.dmp DMP.XLOST 1 r else s)
    else s) s.xringsCut

/-- EXPORT_WRITE: the oldest flow or in-band record, or that of a traverse's trace FIFO, is written. -/
def execExportWrite (t : Option (Fin 25)) (s : State) : Result :=
  answer (if !s.works Page.dmp then s else
    match t with
    | none =>
      match s.exports with
      | [] => s
      | e :: q => ({ s with exports := q } : State).xrings e.1 e.2
    | some t =>
      match s.traces.get t [] with
      | [] => s
      | e :: q => ((({ s with traces := s.traces.set t q [] } : State).setFld (Page.trc t) TRC.TRC_STATUS_FIFO q.length).xrings 1 e))

def execXconsWrite (r : Req) (ring : Fin 8) (data : Word) (s : State) : Result :=
  answer (s.hostWrite r Page.dmp DMP.XCONS ring false fun s =>
    s.setReg Page.dmp DMP.XCONS (BitVec.ofNat 48 ((mergeHalf r.size (s.reg Page.dmp DMP.XCONS ring) data).toNat % 2 ^ 15)) ring)

/-! ## Dumps (R589 to R594) -/

/-- Slots of each section (R591). -/
def sectionSlots : List Nat := [49152, 2304, 3072, 131072, 4096, 69632, 4608]

/-- Queue `n`'s counter `k` as a slot key. -/
def queueCtr (n k : Nat) : Nat :=
  if n < 12288 then slotAddr (Page.tmw (n / 16)) (TMW.C_TX_PKTS.plus k) (n % 16) else bulkKey (0x300 * 2 ^ 24 + (n - 12288) * 0x40 + 8 * k)

/-- The counter that slot `i` of a section records; meters are no counters. -/
def sectionCtr (sec i : Nat) : Option Nat :=
  match sec with
  | 0 => some (slotAddr (Page.pen (i / 256)) (PEN.C_RX_OCTETS_OK.plus (i % 64)) (i / 64 % 4))
  | 1 => some (slotAddr (Page.pen (i / 12)) (PEN.C_PEER_LOSTS.plus (i % 12)) 0)
  | 2 => none
  | 3 => some (queueCtr (i / 8) (i % 8))
  | 4 => some (surveyCtr i)
  | 5 => some (parcelCtr (i / 17) (8 * (i % 17)))
  | _ => some (slotAddr (Page.tmw (i / 6)) (TMW.C_DROP_PORT_DOWN.plus (i % 6)) 0)

/-- What a dump records of slot `i` of a section. -/
def State.sectionSlot (s : State) (sec i : Nat) : Nat :=
  match sectionCtr sec i with
  | some a => (s.slot (s.counterAt a)).toNat + 2 ^ 63 * b2n (s.wrapOf a)
  | none =>
    let k := i / 2
    let m := s.meters.get k dflt.meter
    (if i % 2 = 0 then m.last else m.peak) % 2 ^ 48 + 2 ^ 62 * b2n (s.meterValid k)

/-- The sections of a dump, in ascending order, and its blocks: section, first slot, slots used. -/
def sectionsOf (n : Nat) : List Nat := (List.range 7).filter (fun b => Nat.bitAt n b)
def dumpBlocks (n : Nat) : List (Nat × Nat × Nat) :=
  (sectionsOf n).flatMap (fun b =>
    let k := sectionSlots.getD b 0
    (List.range ((k + 503) / 504)).map (fun j => (b, 504 * j, Nat.min 504 (k - 504 * j))))

/-- Block `n` of a dump but CRC and PHASE (R592). -/
def Dump.block (d : Dump) (n total : Nat) (b : Nat × Nat × Nat) : List Byte :=
  leBytes 4 0x504D5544 ++ leBytes 2 1 ++ leBytes 1 b.1 ++ leBytes 1 (b2n (n + 1 == total) + 2 * b2n d.wValid) ++ leBytes 8 d.seq
    ++ leBytes 8 (datumSec d.time) ++ leBytes 4 (datumNs d.time) ++ leBytes 4 n ++ leBytes 4 total ++ leBytes 4 b.2.1
    ++ leBytes 2 b.2.2 ++ leBytes 2 d.sections ++ zeros 20
    ++ ((List.range 504).flatMap (fun j => leBytes 8 (if j < b.2.2 then d.latched.get (b.1 * 2 ^ 18 + b.2.1 + j) 0 else 0)))

/-- Every island latches (R590): the selected slots that are not zero. -/
def State.latchSlots (s : State) (n : Nat) : Tab Nat :=
  (sectionsOf n).flatMap (fun b => ((List.range (sectionSlots.getD b 0)).map (fun i => (b * 2 ^ 18 + i, s.sectionSlot b i))).filter
    (fun e => e.2 != 0))

/-- The latch clears the wrap bits that it records (R594). -/
def State.clearLatched (s : State) (l : Tab Nat) : State :=
  l.foldl (fun (s : State) (e : Nat × Nat) =>
    match sectionCtr (e.1 / 2 ^ 18) (e.1 % 2 ^ 18) with
    | some a => if 2 ^ 63 ≤ e.2 then s.setWrap a false else s
    | none => s) s

/-- The window of a meter closed exactly at a latch that falls due now: it belongs to the interval that follows (R567). -/
def State.shutNow (s : State) (due : Bool) (m : Meter) : Bool := due && m.shut == s.time.us + 1

/-- PEAK as a latch finds it. -/
def State.peaksAtLatch (s : State) (due : Bool) : State :=
  { s with meters := s.meters.map (fun e => (e.1, if s.shutNow due e.2 then { e.2 with peak := e.2.prev } else e.2)) }

/-- A latch that includes METER starts a new dump interval (R567). -/
def State.newInterval (s : State) (due : Bool) : State :=
  { s with
    meters := (s.meters.map (fun e => (e.1, { e.2 with peak := if s.shutNow due e.2 then e.2.last else 0 }))).filter
      (fun e => e.2 != dflt.meter) }

/-- The DUMP rings that take a dump of `total` blocks; the others count them lost. -/
def State.dumpRings (s : State) (total : Nat) : State × List Nat :=
  (List.range 8).foldl (fun (x : State × List Nat) (r : Nat) =>
    let s := x.1
    let room := (s.fld Page.dmp DMP.XCONS_INDEX r + s.xringSize r - s.fld Page.dmp DMP.XPROD_INDEX r - 1) % s.xringSize r
    if s.fld Page.dmp DMP.XCFG_STREAM r ≠ 2 then x
    else if s.xringOn r then
      (if total ≤ room ∨ s.flag Page.dmp DMP.XCFG_OVERWRITE r then (s, x.2 ++ [r]) else (s.count Page.dmp DMP.XLOST total r, x.2))
    else if s.xcut.getD r false && !s.xringReady r then (s.count Page.dmp DMP.XLOST total r, x.2)
    else x) (s.xringsCut, [])

/-- A dump falls due at the datum value `at_` (R589, R593), by its period (`due`) or by NOW: skipped, or latched and begun. -/
def State.takeDump (s : State) (at_ : Nat) (due : Bool) : State :=
  let p := Page.dmp
  let seq := (s.reg p DMP.DMP_SEQ).toNat
  let s1 := s.setReg p DMP.DMP_SEQ (BitVec.ofNat 48 (seq + 1))
  let hbm := s1.flag p DMP.DMP_CFG_DEST
  if s1.dump.isSome || (hbm && (!s1.hbmUp || s1.dumpUnits == 0)) then (s1.count p DMP.C_DUMPS_SKIPPED).raise p DMP.S_DUMP_SKIPPED
  else
    let n := s1.fld p DMP.DMP_CFG_SECTIONS
    let l := (s1.peaksAtLatch due).latchSlots n
    let s2 := if s1.flag p DMP.DMP_CFG_CLEAR_WRAP then s1.clearLatched l else s1
    let s3 := if Nat.bitAt n 2 then s2.newInterval due else s2
    let x := if hbm then (s3, []) else s3.dumpRings (dumpBlocks n).length
    ({ x.1 with dump := some { seq := seq, time := at_, wValid := s.wOn, sections := n, latched := l, rings := x.2, hbm := hbm } } : State).setFlag
      p DMP.DMP_STATUS_BUSY true

/-- The period of dumps, in microseconds. -/
def State.dumpPeriod (s : State) : Nat := Nat.min 10000000 (Nat.max 1000 (s.fld Page.dmp DMP.DMP_PERIOD_PERIOD_US))

/-- A periodic dump falls due in this microsecond. -/
def State.dumpDueNow (s : State) : Bool :=
  if s.wOn then decide (s.time.w % (s.dumpPeriod * usUnits) < usUnits)
  else decide (s.dmpSince < s.time.us) && (s.time.us - s.dmpSince) % s.dumpPeriod == 0

def execDumpDue (s : State) : Result :=
  answer (if s.works Page.dmp && s.flag Page.dmp DMP.DMP_CFG_EN && s.dumpDueNow && s.dumpAt != s.time.us + 1 then
      ({ s with dumpAt := s.time.us + 1 } : State).takeDump (s.wNow / (s.dumpPeriod * usUnits) * (s.dumpPeriod * usUnits)) true
    else s)

def execDumpNow (r : Req) (data : Word) (s : State) : Result :=
  answer (s.hostWrite r Page.dmp DMP.DMP_CMD 0 true fun s => if Word.bit data 0 then s.takeDump s.wNow false else s)

/-- A block is written to a ring that takes the dump; one disabled meanwhile counts it lost. -/
def State.dumpToRing (s : State) (r : Nat) (l : List Byte) : State :=
  if s.xringOn r then s.xringRecord r l else s.count Page.dmp DMP.XLOST 1 r

/-- Device address of block `n` of the HBM log. -/
def State.dumpAddr (s : State) (n : Nat) : Nat := s.tblUnits * 3 * 2 ^ 26 + s.flowUnits * 2 ^ 26 + n * 4096

/-- A block is written at the log's next place. -/
def State.dumpToHbm (s : State) (l : List Byte) : State :=
  let n := s.fld Page.dmp DMP.DMP_STATUS_HBM_NEXT
  let a := s.dumpAddr n
  let put (m : Tab Byte) (i : Nat) : Tab Byte := m.set (a + i) (l.getD i 0) 0
  ((({ s with hbmBytes := (List.range l.length).foldl put s.hbmBytes } : State).hbmSurvey 4 a 4096).setFld Page.dmp
    DMP.DMP_STATUS_HBM_NEXT ((n + 1) % (s.dumpUnits * 16384)))

/-- The blocks of dump `d` are written, in order. -/
def State.writeDump (s : State) (d : Dump) : State :=
  let bs := dumpBlocks d.sections
  (List.range bs.length).foldl (fun (s : State) (n : Nat) =>
    let l := d.block n bs.length (bs.getD n (0, 0, 0))
    let s1 := if d.hbm then s.dumpToHbm (overwrite l 0x3C (leBytes 4 (crc32c l))) else d.rings.foldl (fun s r => s.dumpToRing r l) s
    s1.count Page.dmp DMP.C_BLOCKS_WRITTEN) s

/-- DUMP_COMPLETE: the last block of the dump is written. A dump to HBM whose service is lost meanwhile ends without it. -/
def execDumpComplete (s : State) : Result :=
  answer (match s.dump with
    | none => s
    | some d =>
      let s1 := ({ s with dump := none } : State).setFlag Page.dmp DMP.DMP_STATUS_BUSY false
      if !s.works Page.dmp then s
      else if d.hbm && (!s.hbmUp || s.dumpUnits == 0) then s1
      else
        ((s1.xringsCut.writeDump d).setFld Page.dmp DMP.DMP_STATUS_BLOCKS (dumpBlocks d.sections).length).count Page.dmp
          DMP.C_DUMPS_TAKEN)

/-- DMP_CFG_WRITE: refused where it enables dumps to HBM without a dump area (R593). -/
def execDmpCfgWrite (r : Req) (data : Word) (s : State) : Result :=
  answer (s.hostWrite r Page.dmp DMP.DMP_CFG 0 false fun s =>
    let p := Page.dmp
    let old := s.reg p DMP.DMP_CFG
    let new := keep 0xFFC0 (mergeHalf r.size old data)
    if Word.bit new 15 && Word.bit new 14 && s.dumpUnits == 0 then s.raise p DMP.S_DUMP_REFUSED
    else
      let s1 := s.setReg p DMP.DMP_CFG new
      if Word.bit new 15 && !Word.bit old 15 then { s1 with dmpSince := s1.time.us } else s1)

end Sys2Proof.Machine
end

