-- ==== Sys2Proof/Machine/Resets.lean ====
section
/-!
DEFINITION. Sys2Proof/Machine/Resets.lean: what each reset clears (20_power_reset_lifecycle.md, R638): pages, the units behind
them, block resets (R690), a switch-off of a domain, device soft reset and power-on reset.
Readings and choices (notes/assumptions): DEDUCED 10, 76.
-/
namespace Sys2Proof.Machine

/-! ## Pages -/

/-- PAGE_OWNER and SCRATCH, which the always-on domain holds for every page (R31). -/
def keptOff (o : Nat) : Bool := o == TB.PAGE_OWNER.off || o == TB.SCRATCH.off

/-- The slot at address `a` belongs to a page that satisfies `q`. -/
def slotIn (q : Page → Bool) (a : Nat) : Bool := decide (a < 2 ^ 48) && q (pageOfAddr a)

/-- Every register of the pages of `q` is as after reset, but for the addresses `kept`; their hidden records too. -/
def State.clearPages (s : State) (q : Page → Bool) (kept : Nat → Bool) : State :=
  let gone (a : Nat) : Bool := slotIn q a && !kept a
  ({ s with regs := s.regs.clear gone, wraps := s.wraps.clear gone, pages := s.pages.clear q } : State)

/-- The fields that a reset of a block returns to their reset values (R690): what host software does not configure. -/
def Acc.isStatus : Acc → Bool
  | .ro | .rc | .w1c | .wo => true
  | _ => false

/-- A register's word after a block reset: its status fields from the reset value `init`. -/
def RegRow.blockWord (r : RegRow) (old init : Word) : Word :=
  r.fields.foldl (fun w f => if f.acc.isStatus then Word.setBits w f.lo f.w (Word.bits init f.lo f.w) else w) old

/-- Status, capture, FIFO and counter registers of page `p` return to their reset values, but for the offsets `kept`; counters lose
their wrap bits (R690, R562). -/
def State.clearStatus (s : State) (p : Page) (kept : Nat → Bool) : State :=
  let one (s : State) (e : Nat × Word) : State :=
    let o := e.1 - p * 0x1000
    if slotIn (fun q => q == p) e.1 && decide (0x100 ≤ o) && !kept o then
      match Page.kind p with
      | some (k, _) => match rowAt k o with
        | some r => s.setSlot e.1 (r.blockWord e.2 (regReset e.1))
        | none => s
      | none => s
    else s
  let s1 := s.regs.foldl one s
  { s1 with wraps := s1.wraps.clear (fun a => slotIn (fun q => q == p) a) }

/-- The register of `f` and its instances up to `n` lie at these offsets. -/
def Fld.at (f : Fld) (n o : Nat) : Bool := decide (f.off ≤ o) && decide (o < f.off + n * f.st) && decide ((o - f.off) % f.st = 0)

/-- Offsets whose registers show what a block reset keeps, by page type: uses and charges (R697), the host port's link, the engine's
presence and temperature, sets of ports, the key lock (R638), the image (R235), ROLE (R386), parser banks (R696), retired rows (R472,
R421), what queues and overflow memory hold, DMP_SEQ (R638). -/
def keptStatus (k : Kind) (o : Nat) : Bool :=
  match k with
  | .dev => true
  | .hif => o == HIF.LINK_STATUS.off || Fld.at HIF.VF_SUMMARY 3 o
  | .pcl => o != PCL.QUOTA_HIT_LO.off && o != PCL.QUOTA_HIT_HI.off && o != PCL.IND_STATUS.off
  | .oen => o == OEN.OEN_STATUS.off || Fld.at OEN.SPARE_STATUS 8 o
  | .pen => Fld.at PEN.LP_STATUS 4 o
  | .msg => o == MSG.KEY_LOCK.off
  | .lsq => o == LSQ.IMG_STATUS.off || o == LSQ.IMG_VERSION.off || o == LSQ.SEQ_STATUS.off || o == LSQ.THREAD_MODE.off
  | .trv => o == TRV.TRV_STATUS.off
  | .prs => o == PRS.BANK_STATUS.off
  | .tbc => o == TBC.ROW_STATUS.off
  | .tmc => o == TMC.DESC_STATUS.off
  | .tmw => o == TMW.LP_TM_STATUS.off || Fld.at TMW.PG_STATUS 8 o || Fld.at TMW.Q_STATUS 16 o || Fld.at TMW.Q_HBM 16 o
  | .bpm => o == BPM.ISLAND_CTL.off || o == BPM.ROW_STATUS.off
  | .ovm => o == OVM.LAYOUT_STATUS.off || o == OVM.CHUNKS_FREE.off || o == OVM.RES_STATUS.off || o == OVM.STAGING_STATUS.off
      || Fld.at OVM.RES_EFFECTIVE 5 o || Fld.at OVM.STACK_STATUS 4 o || Fld.at OVM.PC_RET_LO 4 o || Fld.at OVM.PC_RET_HI 4 o
  | .dmp => o == DMP.DMP_SEQ.off
  | .pwr => o == PWR.PWR_STATUS.off
  | .clk => o == CLK.CLK_STATUS.off || o == CLK.ISLAND_OK0.off || o == CLK.ISLAND_OK1.off
  | .fls => o == FLS.FLS_STATUS.off
  | .thm => o == THM.FAULT_STATUS.off
  | _ => false

/-! ## Packets and tables of a traverse -/

/-- The packets that satisfy `q` are dropped. -/
def State.dropWhere (s : State) (q : Pkt → Bool) : State :=
  ((s.pkts.filter (fun (e : Nat × Pkt) => q e.2)).map (·.1)).foldl (fun (s : State) (i : Nat) => (s.stampLost i).dropPkt i) s

/-- The elements of station `st` of traverse `t` are zero and their meters full (R696). -/
def State.clearStation (s : State) (t st : Nat) : State :=
  { s with seEnts := (s.seEnts.map (fun e =>
      if e.1 / 2 ^ 24 = 20 * t + st then
        (e.1, { mode := e.2.mode, cir := e.2.cir, pir := e.2.pir, cbs := e.2.cbs, ebs := e.2.ebs })
      else e)).filter (fun e => e.2 != dflt.seEntry) }

/-- A table command of traverse `t` that is under way ends with status 7 (R696). -/
def State.endTableCmd (s : State) (t : Nat) : State :=
  if s.tbcWait.any (fun e => e.1 == t) then
    let s1 : State := { s with tbcWait := s.tbcWait.filter (fun e => e.1 != t) }
    let s2 := if s1.tbcWait.isEmpty then
        (List.range 25).foldl (fun s u => s.setFlag (Page.tbc u) TBC.TBC_STATUS_BUSY false) s1
      else s1
    ((s2.setFlag (Page.tbc t) TBC.TBC_STATUS_BUSY false).setFlag (Page.tbc t) TBC.TBC_STATUS_DONE true).setFld (Page.tbc t)
      TBC.TBC_STATUS_STATUS 7
  else s

def State.clearLearnQ (s : State) (t : Nat) : State :=
  ({ s with learnQ := s.learnQ.set t [] [], notes := s.notes.set t [] [] } : State).noteFollow t

def State.clearTrace (s : State) (t : Nat) : State := { s with traces := s.traces.set t [] [], lfsrs := s.lfsrs.set t 0 0 }

/-- The counters of page `p`, whatever else its status shows. -/
def State.statusOf (s : State) (p : Page) : State :=
  match Page.kind p with
  | some (k, _) => s.clearStatus p (keptStatus k)
  | none => s

/-- A block reset of the TRV page resets the region (R386). -/
def State.resetRegion (s : State) (t : Nat) : State :=
  let inRegion (x : Pkt) : Bool := inDatapath t x || (x.trav == t && x.stage == .parse)
  let s1 := (((s.endTableCmd t).dropWhere inRegion).disarm t).clearElements t
  let pages := [Page.prs t, Page.dpr t, Page.tbc t, Page.lrn t, Page.trc t, Page.res t] ++ (List.range 20).map (Page.stn t)
  pages.foldl (fun (s : State) (p : Page) => s.statusOf p) ((s1.clearLearned t).clearTrace t)

/-! ## Block resets (R690) -/

/-- A block reset of the BPM page (R698): packets in buffers and host copies of them are gone, charges and reserve are zero, and the
free lists are those of the carve; a packet whose record lies in overflow memory's chunks stays there. -/
def State.resetBuffers (s : State) : State :=
  let flush (s : State) (n : Nat) : State :=
    let l := (s.queue n).ready.filter (fun i => (s.pkt i).chain != 0)
    let s1 := l.foldl (fun (s : State) (i : Nat) => (s.stampLost i).dropPkt i) (s.qCount n 5 l.length)
    let q := s1.queue n
    ((s1.setQueue n { q with ready := q.ready.filter (fun i => !l.contains i), cells := 0 }).askRefill n).qFollow n
  let s1 := (s.queues.map (·.1)).foldl flush s
  let s2 := s1.dropWhere (fun x => x.chain != 0 && x.stage != .spilled)
  let s3 := (s2.chains.filter (fun (e : Nat × Chain) => e.2.cells != 0)).foldl
    (fun (s : State) (e : Nat × Chain) => s.freeChain e.1 1) ({ s2 with
      hostCopies := s2.hostCopies.filter (fun h => h.chain == 0) } : State)
  let s4 : State := { s3 with chains := [], alloc := [], refFree := [],
                              pkts := s3.pkts.map (fun e => (e.1, { e.2 with chain := 0 })),
                              restores := s3.restores.map (fun e => (e.1, { e.2 with filled := [] })) }
  ((s4.showRows).bpmFollow)

/-- A block reset of the TMC page: what is being admitted, replicated or queued on chip is gone. -/
def State.resetTm (s : State) : State :=
  let flush (s : State) (n : Nat) : State :=
    let q := s.queue n
    ((s.setRefillFill (s.refillFill - q.refill.length)).setQueue n { q with ready := [], cells := 0, refill := [] }).qFollow n
  let inTm (x : Pkt) : Bool := x.stage == .admission || x.stage == .repl || x.stage == .queued || x.stage == .refill
  let s1 := (s.dropWhere inTm)
  let s2 := (s1.queues.map (·.1)).foldl flush s1
  { s2 with replQ := [], sched := [], turns := [], holdEnds := [] }

/-- A block reset of the SPR page: held packets are gone; contexts and credits are as after reset. -/
def State.resetSpray (s : State) : State :=
  { s.dropWhere (fun x => x.stage == .restore || x.stage == .held) with restores := [], credits := [] }

/-- A block reset of the DTM page (R541, R543): W stops and is kept in W_LAST; each datum stays armed. -/
def State.resetDatum (s : State) : State :=
  let w := s.time.w
  let set := s.flag Page.dtm DTM.DTM_STATUS_W_SET
  let s1 := s.statusOf Page.dtm
  let s2 := if set then s1.putTime DTM.W_LAST_SEC DTM.W_LAST_NS 0 w else s1
  (({ s2 with time := { us := s.time.us }, datums := { rose := s2.datums.rose, edges := s2.datums.edges } } : State).restartMeters
    (fun _ => true)).dtmFollow

/-- The key store and its staging registers are zeroised, every channel invalid and the lock broken (R650). -/
def State.zeroiseKeys (s : State) : State :=
  let s1 : State := { s with assocs := s.assocs.map (fun e => (e.1, { e.2 with key := 0, salt := 0, ssci := 0 })), staging := {},
                             channels := s.channels.map (fun e => (e.1, { e.2 with valid := false })) }
  if s1.holder = 0 then s1 else s1.breakLock

/-- A reset that reaches the MSG page in RETURN zeroises the key store again (R650). -/
def State.returnZeroise (s : State) : State :=
  if s.fld Page.dev DEV.LIFE_STATE_STATE = 4 then s.zeroiseKeys else s

/-- A block reset of the MSG page (R302, R638): the rekey agent restarts. -/
def State.resetMsg (s : State) : State :=
  let s1 := ({ s with retire := [], pnEvents := [] } : State).statusOf Page.msg
  (if s1.holder = 3 then s1.breakLock else s1).returnZeroise

/-- A block reset of a lane's page: the lane is DARK, its ring out of lock, its tests forgotten. -/
def State.resetLane (s : State) (l : Nat) : State :=
  let s1 := if s.laneUp l then s.portLosesLane l else s
  let s2 := ((if isOptical l then s1.ringTo l 0 else s1).toDark l).setLane l dflt.lane
  (((s2.statusOf (Page.lane l)).lanePageState l).portsFollow (l / 4)).judgeSuites l

/-- A block reset of a port engine: its ports bring their links up afresh, and its meters restart (R566). -/
def State.resetPe (s : State) (pe : Nat) : State :=
  let one (s : State) (i : Nat) : State :=
    if s.lpEnabled (4 * pe + i) then s.restartPort (4 * pe + i) (s.configured (4 * pe + i)) 0 else s
  let s1 := (List.range 4).foldl one s
  let s2 : State := { s1 with tsFifo := s1.tsFifo.set pe [] [], ports := s1.ports.clear (fun lp => lp / 4 == pe) }
  let s3 := (s2.statusOf (Page.pen pe)).restartMeters (fun m => m / 8 == pe)
  (List.range 4).foldl (fun s i => s.judgeSuites (4 * pe + i)) s3

/-- A block reset of a MACsec cluster: its frames are gone and its pairs are as after reset. -/
def State.resetCluster (s : State) (g : Nat) : State :=
  let inside (x : Pkt) : Bool := (x.stage == .secRx && x.lp / 32 == g) || (x.stage == .secTx && x.outLp / 32 == g)
  ((s.dropWhere inside).statusOf (Page.msc g)).pairsFollow g

/-- Host copies for rings of DMQ page `d` are discarded. -/
def State.dropCopies (s : State) (q : HostCopy → Bool) : State :=
  (s.hostCopies.filter q).foldl (fun (s : State) (h : HostCopy) => s.releaseDma h.chain)
    { s with hostCopies := s.hostCopies.filter (fun h => !q h) }

/-- DMQ page that holds ring `r` of port `h`, both in one number (1,024 × h + r) (R83). -/
def dmqOf (r : Nat) : Nat := 18 * (r / 1024) + r % 1024 / 32

/-- The export rings are as after reset (R638). -/
def State.resetExports (s : State) : State :=
  let p := Page.dmp
  let one (s : State) (i : Nat) : State :=
    ((s.setFlag p DMP.XCFG_ENABLE false i).setFld p DMP.XCONS_INDEX 0 i).setFld p DMP.XPROD_INDEX 0 i
  { (List.range 8).foldl one (s.statusOf p) with dump := none, exports := [], xphase := dflt.xphase, xcut := dflt.xcut,
                                                 dmpSince := s.time.us }

/-- Wear accounts and module state of a bay are as after reset (R638); the bay is to be read again. -/
def State.resetBay (s : State) (n : Nat) (wearOk : Bool) : State :=
  let s1 := s.lmEnFall n wearOk
  let s2 := (List.range 4).foldl (fun (s : State) (w : Nat) => if s.moveTo n w then s.dropMove n w else s) s1
  s2.setBay n dflt.bay

/-- All registers of an always-on page return to their reset values (R638); its events and held bits stay (R609). -/
def State.resetWhole (s : State) (p : Page) (k : Kind) : State :=
  let gone (a : Nat) : Bool := slotIn (fun q => q == p) a && decide (0x100 ≤ a - p * 0x1000) && !keptStatus k (a - p * 0x1000)
  { s with regs := s.regs.clear gone, wraps := s.wraps.clear gone }

/-- What a block reset does beyond the title block, by page type. -/
def State.resetUnit (s : State) (p : Page) (k : Kind) (n : Nat) (wearOk : Bool) : State :=
  match k with
  | .dev => s
  | .clk => s.resetWhole p k
  | .pwr =>
    let on := s.fld p PWR.PWR_CTL_ON
    let l := ((List.range 30).filter (fun d => !Nat.bitAt on d)).map (fun d => (d, true))
    ({ s with aon := { s.aon with queue := s.aon.queue ++ l } } : State).resetWhole p k
  | .fls => s.resetWhole p k
  | .thm => ({ s with sensorT := [], aon := { s.aon with failed := [] } } : State).resetWhole p k
  | .mgb => s.resetWhole p k
  | .lmp => (s.resetBay n wearOk).resetWhole p k
  | .hif => s.statusOf p
  | .dmq =>
    let s1 := (s.dropCopies (fun h => dmqOf h.ring == n)).statusOf p
    let mine (r : Nat) : Bool := dmqOf r == n
    { s1 with ringMsg := s1.ringMsg.clear mine, txParts := s1.txParts.clear mine, errHeld := s1.errHeld.clear (fun q => q == p) }
  | .pcl => s.statusOf p
  | .oen => ((s.resetFeeds n).statusOf p).calLoad n
  | .eln => s.resetLane (576 + n)
  | .oln => s.resetLane n
  | .lsq => (s.statusOf p).resyncSeq n
  | .pen => s.resetPe n
  | .msc => s.resetCluster n
  | .msg => s.resetMsg
  | .trv => (s.statusOf p).resetRegion n
  | .prs => ((s.dropWhere (fun x => x.trav == n && x.stage == .parse)).statusOf p).disarm n
  | .stn => ((s.dropWhere (fun x => x.trav == n / 20 && x.stage == .station (n % 20))).statusOf p).clearStation (n / 20) (n % 20)
  | .dpr => (s.dropWhere (fun x => x.trav == n && x.stage == .deparse)).statusOf p
  | .tbc => (s.statusOf p).endTableCmd n
  | .lrn => (s.statusOf p).clearLearnQ n
  | .trc => (s.statusOf p).clearTrace n
  | .res => (s.dropWhere (fun x => x.trav == n && x.stage == .resolve)).statusOf p
  | .tmc => s.resetTm.statusOf p
  | .tmw => s.statusOf p
  | .bpm => (s.statusOf p).resetBuffers
  | .ovm => s.statusOf p
  | .spr => s.resetSpray.statusOf p
  | .dtm => s.resetDatum
  | .tel => ((({ s with flows := [], flowBack := [] } : State).restartMeters (fun _ => true)).statusOf p).flowFollow
  | .svc =>
    let ctr (a : Nat) : Bool := decide (surveyCtr 0 ≤ a) && decide (a < surveyCtr 4096)
    (({ s with regs := s.regs.clear ctr, wraps := s.wraps.clear ctr } : State).statusOf p).showWraps
  | .dmp => s.resetExports
  | .vfe => s.statusOf p

/-- The title block at a block reset (R690): LOCK, ENABLE and TEST_REQ clear, severities at their defaults, a self-test under way
aborted; events, owner, routing and SCRATCH stay. -/
def State.resetTitle (s : State) (p : Page) : State :=
  let lo := slotAddr p TB.EVENT_SEVERITY_LO 0
  let hi := slotAddr p TB.EVENT_SEVERITY_HI 0
  let s1 := ((s.setFlag p TB.PAGE_STATE_LOCK false).setFlag p TB.PAGE_STATE_ENABLE false).setFlag p TB.PAGE_STATE_TEST_REQ false
  let s2 := (s1.setSlot lo (regReset lo)).setSlot hi (regReset hi)
  let s3 := if s2.flag p TB.SELFTEST_RUN then (s2.setFlag p TB.SELFTEST_RUN false).setFld p TB.SELFTEST_RESULT 3 else s2
  s3.setPg p { s3.pg p with wasReset := true }

/-- The state that RESET leads to (R607, R236, R511): HALTED under a held HALT bit, otherwise READY; the overflow memory waits for its
stacks. -/
def State.afterReset (s : State) (p : Page) (k : Kind) (n : Nat) : State :=
  match k with
  | .oln => s.lanePageState n
  | .eln => s.lanePageState (576 + n)
  | .lsq => s.lsqState n
  | .ovm =>
    let all := (List.range 4).all (fun i => s.domainUp (24 + i) && s.flag p OVM.STACK_STATUS_TRAINED i)
    s.setBlockState p (if !all then 1 else if (s.pg p).heldH != 0 then 5 else 2)
  | _ => s.setBlockState p (if (s.pg p).heldH != 0 then 5 else 2)

/-- A block reset of page `p`. -/
def State.blockReset (s : State) (p : Page) (wearOk : Bool) : State :=
  match Page.kind p with
  | some (k, n) =>
    let s1 := ((s.resetTitle p).resetUnit p k n wearOk).afterReset p k n
    if k = .ovm then s1.ovmFollow else s1
  | none => s

/-! ## A domain switched off (R633) -/

/-- The entry at key `k` of `State.ents` belongs to T24. -/
def t24Ent (k : Nat) : Bool :=
  let i := k / 2 ^ 32 % 2 ^ 16
  let space := k / 2 ^ 48
  if space < 10 then i / 2 == 24
  else if space = spCode ∨ space = spProgram then i / 20 == 24
  else if space ≤ spFlood then i == 24
  else false

/-- T24 loses its banks and tables (R326). -/
def State.loseT24 (s : State) : State :=
  let s1 := (s.endTableCmd 24).dropWhere (fun x => x.trav == 24 && (inDatapath 24 x || x.stage == .parse))
  { s1 with ents := s1.ents.clear t24Ent, tables := s1.tables.clear (fun k => k / 2 ^ 39 == 24),
            seEnts := s1.seEnts.clear (fun k => k / 2 ^ 24 / 20 == 24), cache := s1.cache.clear (fun k => k / 16384 == 24),
            entryCount := s1.entryCount.clear (fun k => k / 65536 == 24), fills := s1.fills.clear (fun k => k == 24),
            learnQ := s1.learnQ.clear (fun k => k == 24), notes := s1.notes.clear (fun k => k == 24),
            rowsUsed := s1.rowsUsed.clear (fun k => k / 160 == 24), lfsrs := s1.lfsrs.clear (fun k => k == 24),
            traces := s1.traces.clear (fun k => k == 24), stakes := s1.stakes.clear (fun k => k == 24) }

/-- The contents and the layout of HBM are lost (R511, R513, R534). -/
def State.loseHbm (s : State) : State :=
  let s1 := s.hbmLost
  { s1 with hbmBodies := [], hbmHits := [], flowStore := [], hbmBytes := [], hbmChunks := [], cache := [], fills := [], writeBacks := [],
            tblUnits := 0, flowUnits := 0, dumpUnits := 0, reserved := [0, 0, 0, 0, 0],
            relocating := [false, false, false, false], postponed := [], wrTokens := (0, 0),
            dump := (match s1.dump with
              | some d => if d.hbm then none else some d
              | none => none) }

/-- The threads and event flags of sequencers `lo` to `lo + 3` or `+ 7` are gone. -/
def State.loseSeqs (s : State) (lo n : Nat) : State :=
  let mine (k : Nat) : Bool := decide (lo ≤ k) && decide (k < lo + n)
  { s with threads := s.threads.clear (fun k => mine (k / 16)), eventFlags := s.eventFlags.clear mine,
           stalledAt := s.stalledAt.clear mine, laneRegs := s.laneRegs.clear (fun k => mine (k / 256 / 16)) }

/-- The lanes of 32 from `lo` on are OFF and their ports DOWN. -/
def State.loseLanes (s : State) (lo : Nat) : State :=
  let dark (s : State) (i : Nat) : State :=
    let l := lo + i
    let s1 := if isOptical l then s.ringTo l 0 else s
    if s1.lstate l = lsDark then s1 else s1.toDark l
  let s1 := (List.range 32).foldl dark s
  (List.range 8).foldl (fun (s : State) (i : Nat) => s.portsFollow (lo / 4 + i)) s1

/-- What the always-on domain keeps showing of LSQ0's image registers (R232). -/
def keptImage (a : Nat) : Bool :=
  a == slotAddr (Page.lsq 0) LSQ.IMG_STATUS 0 || a == slotAddr (Page.lsq 0) LSQ.IMG_VERSION 0

/-- The pages of domain `d` lose everything but PAGE_OWNER and SCRATCH (R31, R609). -/
def State.clearDomain (s : State) (d : Nat) : State :=
  s.clearPages (fun p => Page.domain p == some d) (fun a => keptOff (a - pageOfAddr a * 0x1000) || keptImage a)

/-- ISLAND_OK bit of island `i` becomes `b`. -/
def State.setIsland (s : State) (i : Nat) (b : Bool) : State :=
  if i < 48 then s.setReg Page.clk CLK.ISLAND_OK0 (Word.setBit (s.reg Page.clk CLK.ISLAND_OK0) i b)
  else s.setReg Page.clk CLK.ISLAND_OK1 (Word.setBit (s.reg Page.clk CLK.ISLAND_OK1) (i - 48) b)

/-- The island that goes with a domain as a whole (R630); the islands of PD0 to PD23 also serve the core. -/
def domainIsland (d : Nat) : Option Nat :=
  if d < 24 then none else if d < 28 then some (d - 13) else if d = 28 then some 63 else some 5

/-- UP of domain `d`, with the clock of its island. -/
def State.setUpBit (s : State) (d : Nat) (b : Bool) : State :=
  let s1 := s.setFld Page.pwr PWR.PWR_STATUS_UP (setBitN (s.fld Page.pwr PWR.PWR_STATUS_UP) d b)
  match domainIsland d with
  | some i => ({ s1 with aon := { s1.aon with lostClk := s1.aon.lostClk.filter (fun j => j != i) } } : State).setIsland i b
  | none => s1

/-- Domain `d` is off (R633). -/
def State.powerOff (s : State) (d : Nat) (wearOk : Bool) : State :=
  let s1 := (s.setUpBit d false).sensorsOff d
  if d < 18 then
    let s2 := ((s1.lmEnFall (2 * d) wearOk).lmEnFall (2 * d + 1) wearOk).resetFeeds d
    let s3 := ((s2.loseLanes (32 * d)).loseSeqs (4 * d) 4).clearDomain d
    { s3 with cals := s3.cals.clear (fun k => k == d), engineT := s3.engineT.clear (fun k => k == d), lanes := s3.lanes.clear (fun l => l / 32 == d) }
  else if d < 24 then
    let s2 := ((s1.loseLanes (32 * d)).loseSeqs (4 * d) 4).clearDomain d
    { s2 with lanes := s2.lanes.clear (fun l => l / 32 == d) }
  else if d < 28 then
    let s2 := (s1.setFlag Page.ovm OVM.STACK_STATUS_TRAINED false (d - 24)).loseHbm
    if d = 24 then s2.clearDomain 24 else s2
  else if d = 28 then s1.loseT24.clearDomain 28
  else { s1.clearDomain 29 with dump := none, exports := [], xphase := dflt.xphase, xcut := dflt.xcut }

/-! ## Device-wide resets (R637 to R639) -/

/-- What power-on reset leaves: the flash devices, the OTP, and the model's own fields. The datum clock's count goes on. -/
def State.powerReset (s : State) : State :=
  let otp (a : Nat) : Bool := a == slotAddr Page.dev DEV.DEVICE_ID_LO 0 || a == slotAddr Page.dev DEV.DEVICE_ID_HI 0
    || a == slotAddr Page.dev DEV.OTP_SEC 0
  { State.reset with
    regs := s.regs.clear (fun a => !otp a), flash := s.flash, otp := s.otp, out := s.out, draws := s.draws, pending := s.pending,
    nextPkt := s.nextPkt, time := { us := s.time.us }, hosts := s.hosts }

/-- The registers that a device soft reset does not reach (R638): the always-on pages, RESET_CAUSE, LIFE_STATE and what the OTP holds,
the link state of the host ports, DMP_SEQ. -/
def softKept (a : Nat) : Bool :=
  let p := pageOfAddr a
  decide (a < 2 ^ 48)
    && ((match Page.kind p with | some (k, _) => k.alwaysOn | none => false)
        || [slotAddr Page.dev DEV.RESET_CAUSE 0, slotAddr Page.dev DEV.LIFE_STATE 0, slotAddr Page.dev DEV.DEVICE_ID_LO 0,
            slotAddr Page.dev DEV.DEVICE_ID_HI 0, slotAddr Page.dev DEV.OTP_SEC 0, slotAddr (Page.hif 0) HIF.LINK_STATUS 0,
            slotAddr (Page.hif 1) HIF.LINK_STATUS 0, slotAddr Page.dmp DMP.DMP_SEQ 0].contains a)

/-- A page that a device soft reset does not reach. -/
def softPage (p : Page) : Bool := match Page.kind p with | some (k, _) => k.alwaysOn | none => false

/-- The device soft reset takes effect (R639): every LM_EN falls, the hold starts again and the image load starts; the engines whose
domains are on load their calibration. -/
def State.softReset (s : State) (wearOk : Bool) : State :=
  let s0 := (List.range 36).foldl (fun (s : State) (n : Nat) => s.lmEnFall n wearOk) s
  let s1 := (List.range 18).foldl (fun (s : State) (k : Nat) => s.resetFeeds k) s0
  let life := s1.otp
  let s2 : State := { State.reset with
    regs := s1.regs.clear (fun a => !softKept a), wraps := s1.wraps.clear (fun a => !softKept a),
    pages := s1.pages.clear (fun p => !softPage p),
    msix := s1.msix, fns := s1.fns, hosts := s1.hosts, time := { us := s1.time.us }, out := s1.out, draws := s1.draws,
    pending := s1.pending, nextPkt := s1.nextPkt, bays := s1.bays, sensorT := s1.sensorT, flash := s1.flash, otp := life,
    aon := { s1.aon with pending := none, armed := none, holdEnd := s1.time.us + 1000000, loadDue := false } }
  let s3 := ((s2.setFlag Page.dev DEV.DEV_STATUS_SOFT_BUSY true).setFlag Page.dev DEV.DEV_STATUS_OTP_OK true).setFld Page.dev
    DEV.RESET_CAUSE_CAUSE 1
  let s4 := (List.range 18).foldl (fun (s : State) (k : Nat) => if s.domainUp k then s.calLoad k else s) s3
  let s5 := if s4.domainUp 24 then s4.setFld Page.ovm TB.PAGE_STATE_STATE 1 else s4
  s5.startLoad

end Sys2Proof.Machine
end

