-- ==== Sys2Proof/Machine/Power.lean ====
section
/-!
DEFINITION. Sys2Proof/Machine/Power.lean: power-good, switched domains, clocks, device soft reset, the power-up hold and the flash
command (20_power_reset_lifecycle.md), and the life-cycle state that power-on reset derives from the OTP (R652).
Readings and choices (notes/assumptions): DEDUCED 73, 74, 75, 76; DESIGN CHOICE 7.
-/
namespace Sys2Proof.Machine

def State.setAon (s : State) (x : Aon) : State := { s with aon := x }

/-! ## Flash discovery (R644) -/

/-- Presence of a device: 0 absent, 1 usable, 2 UNUSABLE: without SFDP, below 8 MiB or without a 4 KiB erase. -/
def flashFoundStatus : FlashFound → Nat
  | .absent => 0
  | .found log sfdp erase4k => if sfdp && erase4k && decide (23 ≤ log.val) then 1 else 2
def flashFoundLog : FlashFound → Nat
  | .absent => 0
  | .found log _ _ => log.val

/-- Both devices are discovered. -/
def State.discover (s : State) (fa fb : FlashFound) : State :=
  let p := Page.fls
  let s1 := ((s.setFld p FLS.FLS_STATUS_FA (flashFoundStatus fa)).setFld p FLS.FLS_STATUS_FB (flashFoundStatus fb)).setFld p FLS.FLS_STATUS_FA_LOG (flashFoundLog fa)
  let s2 := s1.setFld p FLS.FLS_STATUS_FB_LOG (flashFoundLog fb)
  if (flashFoundStatus fa) = 2 ∨ (flashFoundStatus fb) = 2 then s2.raise p FLS.S_FLASH_UNUSABLE else s2.clearCause p FLS.S_FLASH_UNUSABLE

/-! ## The life cycle in the OTP (R649, R650, R652) -/

/-- The INTENT word of a transition from `st` to the next state. -/
def intentWord (st : Nat) : Nat :=
  let hi := 0x4C000000 + st * 2 ^ 20 + (st + 1) * 2 ^ 16
  hi * 2 ^ 32 + crc32c (beBytes 4 hi)

/-- The intent passes its check, `st` being the state derived from the earlier slots. -/
def intentOk (st w : Nat) : Bool :=
  let hi := w / 2 ^ 32
  w / 2 ^ 56 == 0x4C && w % 2 ^ 32 == crc32c (beBytes 4 hi) && w / 2 ^ 52 % 16 == st && w / 2 ^ 48 % 16 == st + 1

/-- The commit is present. -/
def commitOk (w : Nat) : Bool := decide (32 ≤ ((List.range 64).filter (fun i => Nat.bitAt w i)).length)

def slotUsed (e : Nat × Nat) : Bool := e.1 != 0 || e.2 != 0

/-- State code and place of the first slot after the last good one, after reading the slots in order. -/
def readSlots (l : List (Nat × Nat)) : Nat × Nat :=
  l.zipIdx.foldl (fun a e => if intentOk a.1 e.1.1 && commitOk e.1.2 then (a.1 + 1, e.2 + 1) else a) (0, 0)

def slotCount (l : List (Nat × Nat)) : Nat := (l.filter slotUsed).length

/-- The first unused slot after every used one. -/
def nextSlot (l : List (Nat × Nat)) : Nat := (l.reverse.dropWhile (fun e => !slotUsed e)).length

/-- The stores that a transition to `st` zeroises: the key store and the working copy of the identity key. -/
def State.zeroiseFor (s : State) (st : Nat) : State :=
  if st = 4 then (s.zeroiseKeys).setFlag Page.dev DEV.LIFE_STATE_KEY_READY false else s

/-- The OTP bits that the action of the transition to `st` programs (R650). -/
def State.actLife (s : State) (st : Nat) : State :=
  match st with
  | 2 => { s with otp := { s.otp with keyEnabled := true } }
  | 4 => { s with otp := { s.otp with keyDestroyed := true } }
  | _ => s

def State.putSlot (s : State) (i : Nat) (e : Nat × Nat) : State :=
  let s1 : State := { s with otp := { s.otp with slots := s.otp.slots.set i e } }
  s1.setFld Page.dev DEV.LIFE_STATE_SLOTS_USED (slotCount s1.otp.slots)

/-- The slots are read, and a transition that lacks its COMMIT is completed (R652); `ok`: its OTP programs succeed. -/
def State.deriveLife (s : State) (ok : Bool) : State :=
  let p := Page.dev
  let l := s.otp.slots
  let d := readSlots l
  let s1 := (s.setFld p DEV.LIFE_STATE_STATE d.1).setFld p DEV.LIFE_STATE_SLOTS_USED (slotCount l)
  match l.zipIdx.find? (fun e => decide (d.2 ≤ e.2) && intentOk d.1 e.1.1) with
  | some (e, i) =>
    let s2 := s1.zeroiseFor (d.1 + 1)
    if ok then
      (((s2.actLife (d.1 + 1)).putSlot i (e.1, 2 ^ 64 - 1)).setFld p DEV.LIFE_STATE_STATE (d.1 + 1)).raise p DEV.S_LIFE_RECOVERED
    else ((s2.setFlag p DEV.LIFE_STATE_INTENT_PENDING true).raise p DEV.S_OTP_ERROR).raise p DEV.S_LIFE_INTENT_PENDING
  | none =>
    if (l.drop d.2).any slotUsed then (s1.setFlag p DEV.LIFE_STATE_INTENT_PENDING true).raise p DEV.S_LIFE_INTENT_PENDING else s1

/-! ## References (R40, R634) -/

def State.refOk (s : State) (i : Nat) : Bool := Nat.bitAt (s.fld Page.clk CLK.CLK_STATUS_REF_OK) i
def State.setRefOk (s : State) (i : Nat) (b : Bool) : State :=
  s.setFld Page.clk CLK.CLK_STATUS_REF_OK (setBitN (s.fld Page.clk CLK.CLK_STATUS_REF_OK) i b)

/-- The preferred reference: codes 5 to 7 act as 0. -/
def State.refSel (s : State) : Nat := let v := s.fld Page.clk CLK.CLK_CTL_REF_SEL; if v ≤ 4 then v else 0
def State.refInUse (s : State) : Nat := s.fld Page.clk CLK.CLK_STATUS_REF_IN_USE

/-- The next valid reference in the order system, lane references 0 to 3. -/
def State.nextRef (s : State) : Option Nat := (List.range 5).find? s.refOk

/-- The synthesisers lock to reference `i`. -/
def State.lockRef (s : State) (i : Nat) : State :=
  let p := Page.clk
  let s1 := (s.setFld p CLK.CLK_STATUS_REF_IN_USE i).count p CLK.REF_SWITCHES
  (s1.raise p CLK.S_REF_SWITCH).clearCause p CLK.S_REF_LOST

/-! ## Power-on reset (R628, R629, R637) -/

/-- Bytes that a failed operation may have programmed: any subset of the zeros it was to write. -/
def mixBytes (l rnd : List Byte) : List Byte := l.zipWith (fun a b => a ||| b) rnd

/-- What a program or an erase leaves in the flash; one that does not complete (`ok` false) leaves a program some of its zeros, an erase
anything. -/
def State.flashLands (s : State) (op : Bool × Nat × Nat × List Byte) (ok : Bool) : State :=
  let (program, d, a, l) := op
  match program, ok with
  | true, true => s.flashProgram d a l
  | true, false => (s.flashProgram d a (mixBytes l (s.freeBytes l.length))).drawnBy l.length
  | false, true => s.flashErase d a
  | false, false => ((s.flashErase d a).flashProgram d (a / 4096 * 4096) (s.freeBytes 4096)).drawnBy 4096

/-- A flash operation under way is cut off. -/
def State.flashCut (s : State) : State :=
  match s.aon.flashOp with
  | some op => s.flashLands op false
  | none => s

/-- The device enters power-on reset; a flash operation under way leaves its bytes open. -/
def State.enterPor (s : State) (x : Aon) : State := (s.flashCut.powerReset).setAon { x with por := true }

/-- Power-on reset ends (R629) with the valid references `refs` and PCIe references `pcie`. -/
def State.leavePor (s : State) (refs pcie : Nat) (boot : Boot) : State :=
  let a := s.aon
  let s0 := (s.powerReset).setAon { tap := a.tap, holdEnd := s.time.us + 1000000 }
  let p := Page.clk
  let s1 := (s0.setFld p CLK.CLK_STATUS_REF_OK refs).setFld p CLK.CLK_STATUS_PCIE_OK pcie
  let s2 := s1.setFld p CLK.CLK_STATUS_REF_IN_USE (match s1.nextRef with | some i => i | none => 7)
  let s3 := (s2.deriveLife boot.otpOk).setFlag Page.dev DEV.DEV_STATUS_OTP_OK true
  (s3.setFld Page.dev DEV.RESET_CAUSE_CAUSE (if a.byTrip && boot.aonStayed then 2 else 0)).discover boot.fa boot.fb

/-- PWRGOOD rises; with a valid reference power-on reset ends. A device that still drives THERMTRIP_N low has not seen PWRGOOD fall. -/
def execPwrgoodRise (refs : Fin 32) (pcie : Fin 4) (boot : Boot) (s : State) : Result :=
  answer (
    if s.aon.pwrgood then s
    else
      let s1 := s.setAon { s.aon with pwrgood := true }
      if refs.val = 0 then (s1.enterPor s1.aon).setFld Page.clk CLK.CLK_STATUS_PCIE_OK pcie else s1.leavePor refs pcie boot)

def execPwrgoodFall (s : State) : Result :=
  answer (s.enterPor { pwrgood := false, byTrip := s.aon.byTrip || s.aon.tripped, tap := s.aon.tap })

/-- A reference becomes valid; it ends power-on reset while PWRGOOD is high and no trip holds it. -/
def execReferenceValid (ref : Fin 5) (boot : Boot) (s : State) : Result :=
  answer (
    if s.aon.por then
      if s.aon.pwrgood && !s.aon.tripped then s.leavePor (2 ^ ref.val) (s.fld Page.clk CLK.CLK_STATUS_PCIE_OK) boot else s
    else s.setRefOk ref true)

/-! ## Switched domains (R630 to R633, R642) -/

def State.domainOn (s : State) (d : Nat) : Bool := Nat.bitAt (s.fld Page.pwr PWR.PWR_CTL_ON) d
def State.setOn (s : State) (d : Nat) (b : Bool) : State :=
  s.setFld Page.pwr PWR.PWR_CTL_ON (setBitN (s.fld Page.pwr PWR.PWR_CTL_ON) d b)

/-- After power-on reset the domains with ON = 1 are switched on in ascending order (R642). -/
def execDomainBringupStart (s : State) : Result :=
  answer (
    if s.aon.por || s.aon.started then s
    else
      let l := ((List.range 30).filter s.domainOn).map (fun d => (d, true))
      s.setAon { s.aon with started := true, queue := s.aon.queue ++ l })

/-- The image load after power-on reset: once every domain of PD0 to PD23 whose ON bit is 1 is up. -/
def execBootImageLoad (s : State) : Result :=
  answer (
    if !s.aon.por && s.aon.started && s.aon.loadDue && (List.range 24).all (fun d => !s.domainOn d || s.domainUp d) then
      (s.setAon { s.aon with loadDue := false }).startLoad
    else s)

/-- A write of PWR_CTL.ON queues what it changes, in ascending domain number (R631). -/
def execPwrCtlWrite (r : Req) (data : Word) (s : State) : Result :=
  answer (s.hostWrite r Page.pwr PWR.PWR_CTL 0 false fun s =>
    let old := s.fld Page.pwr PWR.PWR_CTL_ON
    let new := Word.bits (mergeHalf r.size (s.reg Page.pwr PWR.PWR_CTL) data) 0 30
    let l := ((List.range 30).filter (fun d => Nat.bitAt old d != Nat.bitAt new d)).map (fun d => (d, Nat.bitAt new d))
    (s.setFld Page.pwr PWR.PWR_CTL_ON new).setAon { s.aon with queue := s.aon.queue ++ l })

/-- The transition at the front of the queue leaves it. -/
def State.popSwitch (s : State) : State := s.setAon { s.aon with queue := s.aon.queue.drop 1 }

/-- PWR_STATUS shows the transition under way, or none. -/
def State.showRun (s : State) : State :=
  match s.aon.run with
  | some (d, _) => (s.setFlag Page.pwr PWR.PWR_STATUS_BUSY true).setFld Page.pwr PWR.PWR_STATUS_DOMAIN d
  | none => (s.setFlag Page.pwr PWR.PWR_STATUS_BUSY false).setFld Page.pwr PWR.PWR_STATUS_DOMAIN 0

/-- No switch-on begins less than 5 ms after the previous one began. -/
def State.mayStart (s : State) : Bool := s.aon.lastOn == 0 || decide (s.aon.lastOn - 1 + 5000 ≤ s.time.us)

def execDomainSwitchOn (s : State) : Result :=
  answer (match s.aon.queue, s.aon.run with
    | (d, true) :: _, none =>
      if s.domainUp d then s.popSwitch
      else if s.mayStart then
        (s.setAon { s.aon with queue := s.aon.queue.drop 1, run := some (d, s.time.us), lastOn := s.time.us + 1 }).showRun
      else s
    | _, _ => s)

/-- The blocks of a domain that has come up pass through RESET: an engine's feeds and calibration (R117, R165); the overflow memory
stays in RESET until its stacks are trained. -/
def State.domainStarts (s : State) (d : Nat) : State :=
  if d < 18 then (s.resetFeeds d).calLoad d
  else if d = 24 then s.setFld Page.ovm TB.PAGE_STATE_STATE 1
  else s

def execDomainPowerGood (s : State) : Result :=
  answer (match s.aon.run with
    | some (d, _) =>
      let s1 := ((s.setAon { s.aon with run := none }).setUpBit d true).showRun
      (s1.domainStarts d).raise Page.pwr PWR.S_DOMAIN_CHANGE
    | none => s)

def execDomainPowerTimeout (s : State) : Result :=
  answer (match s.aon.run with
    | some (d, _) => (((s.setOn d false).setAon { s.aon with run := none }).showRun).raise Page.pwr PWR.S_DOMAIN_FAIL
    | none => s)

/-- R632: the switch-off of domain `d` is refused. -/
def State.refuseOff (s : State) (d : Nat) : Bool :=
  if d = 28 then s.role 24 == roleStandingIn || s.role 24 == roleClearing
  else if 24 ≤ d ∧ d < 28 then s.fld Page.ovm TB.PAGE_STATE_STATE == 3 || s.fld Page.ovm TB.PAGE_STATE_STATE == 4
  else false

/-- A refused switch-off: ON is restored and the first one since the last read is captured. -/
def State.offRefused (s : State) (d : Nat) : State :=
  let p := Page.pwr
  let s1 := s.setOn d true
  let s2 := if s1.flag p PWR.PWR_REFUSED_VALID then s1
    else (s1.setFlag p PWR.PWR_REFUSED_VALID true).setFld p PWR.PWR_REFUSED_DOMAIN d
  s2.raise p PWR.S_DOMAIN_REFUSED

def execDomainSwitchOff (wearOk : Bool) (s : State) : Result :=
  answer (match s.aon.queue, s.aon.run with
    | (d, false) :: _, none =>
      let s1 := s.popSwitch
      if s1.refuseOff d then s1.offRefused d
      else (if s1.domainUp d then s1.powerOff d wearOk else s1).raise Page.pwr PWR.S_DOMAIN_CHANGE
    | _, _ => s)

/-! ## Clocks (R634 to R636) -/

/-- A reference is lost; losing the one in use puts the synthesisers into holdover. -/
def execRefLoss (ref : Fin 5) (s : State) : Result :=
  answer (
    let s1 := s.setRefOk ref false
    if s.refInUse = ref.val then (s1.setFld Page.clk CLK.CLK_STATUS_REF_IN_USE 7).raise Page.clk CLK.S_REF_LOST else s1)

/-- With AUTO = 1 the synthesisers in holdover lock to the next valid reference. -/
def execRefSwitchDone (s : State) : Result :=
  answer (match s.nextRef with
    | some i => if s.refInUse = 7 && s.flag Page.clk CLK.CLK_CTL_AUTO then s.lockRef i else s
    | none => s)

/-- A write of CLK_CTL: the preferred reference is taken where it is valid. -/
def execClkCtlWrite (r : Req) (data : Word) (s : State) : Result :=
  answer (s.hostWrite r Page.clk CLK.CLK_CTL 0 false fun s =>
    let v := mergeHalf r.size (s.reg Page.clk CLK.CLK_CTL) data
    let s1 := s.setReg Page.clk CLK.CLK_CTL (BitVec.ofNat 48 (v.toNat % 16))
    if s1.refOk s1.refSel && s1.refInUse != s1.refSel then s1.lockRef s1.refSel else s1)

/-- The lanes whose circuits lie in clock island `i` settle, and their ports follow. -/
def State.islandLanes (s : State) (i : Nat) : State :=
  if 15 ≤ i ∧ i < 39 then (List.range 8).foldl (fun (s : State) (j : Nat) => s.portsFollow (8 * (i - 15) + j)) s else s

/-- An island's clock stops (R635): its blocks stop; in the island of a traverse a takeover starts. -/
def execIslandClkLoss (island : Fin 64) (s : State) : Result :=
  answer (
    let p := Page.clk
    let i := island.val
    let s1 := ((s.setIsland i false).setFlag p CLK.CLK_STATUS_LOST_VALID true).setFld p CLK.CLK_STATUS_LOST_ISLAND i
    let s2 := (s1.setAon { s1.aon with lostClk := if s1.aon.lostClk.contains i then s1.aon.lostClk else i :: s1.aon.lostClk }).raise p
      CLK.S_ISLAND_CLK_LOST
    let s3 := s2.islandLanes i
    if 39 ≤ i ∧ i < 63 ∧ s3.role (i - 39) = roleInService then s3.takeover (i - 39) else s3)

def execPcieRefLoss (h : Fin 2) (s : State) : Result :=
  answer ((s.setFld Page.clk CLK.CLK_STATUS_PCIE_OK (setBitN (s.fld Page.clk CLK.CLK_STATUS_PCIE_OK) h false)).raise Page.clk
    CLK.S_PCIE_REF_LOST)

/-! ## Life-cycle requests (R650, R651) -/

def State.lifeBusy (s : State) : Bool := s.flag Page.dev DEV.LIFE_STATE_BUSY

/-- A request is refused. -/
def State.lifeRefuse (s : State) (reason : Nat) : State :=
  let p := Page.dev
  ((s.setFlag p DEV.LIFE_STATE_ERROR true).setFld p DEV.LIFE_STATE_REASON reason).raise p DEV.S_LIFE_REFUSED

/-- The request is armed now. -/
def State.lifeArmed (s : State) : Bool :=
  match s.aon.armed with
  | some t => decide (s.time.us < t)
  | none => false

/-- Why a request for state `dest` is refused before it touches the OTP; 0: it is not. -/
def State.lifeReason (s : State) (dest : Nat) : Nat :=
  let st := s.fld Page.dev DEV.LIFE_STATE_STATE
  if dest ≠ st + 1 ∨ 4 < dest then 1
  else if st < 2 then 2
  else if !s.lifeArmed then 3
  else if 8 ≤ nextSlot s.otp.slots then 4
  else 0

/-- Step 1 of R650. A failed INTENT write leaves some of its bits, never all of them: which ones is free. -/
def State.lifeIntent (s : State) (ok : Bool) : State :=
  let p := Page.dev
  let st := s.fld p DEV.LIFE_STATE_STATE
  let i := nextSlot s.otp.slots
  let s0 := (s.setFlag p DEV.LIFE_STATE_ERROR false).setFld p DEV.LIFE_STATE_REASON 0
  if ok then (s0.putSlot i (intentWord st, 0)).setFlag p DEV.LIFE_STATE_BUSY true
  else
    let some_ := Nat.land (s.free + 2 ^ 48 * s.drawn.free) (Nat.land (intentWord st) (2 ^ 64 - 1 - 2 ^ 58))
    (((s0.drawn).drawn.putSlot i (some_, 0)).lifeRefuse 5).raise p DEV.S_OTP_ERROR

/-- A write of LIFE_CMD. -/
def State.lifeWrite (s : State) (r : Req) (data : Word) (ok : Bool) : State :=
  s.hostWrite r Page.dev DEV.LIFE_CMD 0 true fun s =>
    if s.lifeBusy then s.lifeRefuse 1
    else if Word.bit data 3 then s.setAon { s.aon with armed := some (s.time.us + 1000000) }
    else
      let why := s.lifeReason (Word.bits data 0 3)
      let s1 := s.setAon { s.aon with armed := none }
      if why ≠ 0 then s1.lifeRefuse why else s1.lifeIntent ok

def execLifeArm (r : Req) (data : Word) (s : State) : Result := answer (s.lifeWrite r data true)
def execLifeTransitionRequest (r : Req) (data : Word) (intentOk : Bool) (s : State) : Result := answer (s.lifeWrite r data intentOk)

def execLifeArmExpiry (s : State) : Result :=
  answer (if s.lifeArmed then s else s.setAon { s.aon with armed := none })

/-- The transition under way ends (R650 steps 2 and 3). -/
def State.lifeEnd (s : State) (met : LifeEnd) : State :=
  let p := Page.dev
  if s.lifeBusy then
    let st := s.fld p DEV.LIFE_STATE_STATE
    let i := nextSlot s.otp.slots - 1
    let s1 := (s.setFlag p DEV.LIFE_STATE_BUSY false).zeroiseFor (st + 1)
    let fail (s : State) : State :=
      ((s.setFlag p DEV.LIFE_STATE_INTENT_PENDING true).lifeRefuse 5).raise p DEV.S_OTP_ERROR
    match met with
    | .actionFails => fail s1
    | .commitFails => fail (s1.actLife (st + 1))
    | .done =>
      (((s1.actLife (st + 1)).putSlot i (intentWord st, 2 ^ 64 - 1)).setFld p DEV.LIFE_STATE_STATE (st + 1)).setFlag p
        DEV.LIFE_STATE_INTENT_PENDING false
  else s

def execLifeTransitionDone (met : LifeEnd) (s : State) : Result := answer (s.lifeEnd met)

/-! ## Device soft reset and the hold (R637, R639, R641) -/

/-- The soft reset with what it meets; a life-cycle transition under way completes first (R657). -/
def State.softly (s : State) (x : Restart) : State :=
  (((s.lifeEnd .done).softReset x.wearOk).discover x.fa x.fb).returnZeroise

/-- A write of DEV_RESET: any other KEY sets ACCESS_SIZE. -/
def execSoftReset (r : Req) (data : Word) (x : Restart) (s : State) : Result :=
  answer (s.hostWrite r Page.dev DEV.DEV_RESET 0 true fun s =>
    if Word.bits data 32 16 ≠ 0x5A5A then s.raise Page.dev TB.S_ACCESS_SIZE
    else if Word.bit data 0 then s.softly x else s)

/-- The image load has ended and the pages are READY. -/
def execSoftResetComplete (s : State) : Result :=
  answer (
    if s.flag Page.dev DEV.DEV_STATUS_SOFT_BUSY && !s.flag (Page.lsq 0) LSQ.IMG_STATUS_BUSY then
      s.setFlag Page.dev DEV.DEV_STATUS_SOFT_BUSY false
    else s)

/-- The hold ends: enabled lanes enter DETECT (R194, R200). -/
def execHoldEnd (s : State) : Result :=
  answer (
    if s.flag Page.dev DEV.DEV_STATUS_HOLD && !s.aon.por && decide (s.aon.holdEnd ≤ s.time.us) then
      let s1 := (s.setFlag Page.dev DEV.DEV_STATUS_HOLD false).setFld Page.dev DEV.DEV_STATUS_HOLD_LEFT 0
      (List.range 192).foldl (fun (s : State) (pe : Nat) => s.portsFollow pe) (s1.raise Page.dev DEV.S_HOLD_DONE)
    else s)

/-! ## The flash command (R645 to R647) -/

def State.flashStatus (s : State) (d : Nat) : Nat := s.fld Page.fls (if d = 0 then FLS.FLS_STATUS_FA else FLS.FLS_STATUS_FB)
def State.flashLog (s : State) (d : Nat) : Nat := s.fld Page.fls (if d = 0 then FLS.FLS_STATUS_FA_LOG else FLS.FLS_STATUS_FB_LOG)

/-- Bytes of device `d` that software reaches: its first 512 MiB. -/
def State.flashSize (s : State) (d : Nat) : Nat :=
  if s.flashStatus d = 0 then 0 else Nat.min (2 ^ 29) (2 ^ s.flashLog d)

/-- Host writes to `n` bytes from `a` are refused: the calibration area, and the image slots under IMG_WP. -/
def State.flashProtected (s : State) (a n : Nat) : Bool :=
  let meets (lo hi : Nat) : Bool := decide (a < hi) && decide (lo < a + n)
  (meets 0x40000 0x64000 && !s.flag Page.fls FLS.FLS_PROTECT_CAL_HOST) || (meets 0 0x40000 && s.flag Page.fls FLS.FLS_PROTECT_IMG_WP)

/-- A command ends; a CODE other than 0 is an error. -/
def State.flsEnd (s : State) (code : Nat) : State :=
  let p := Page.fls
  let s1 := ((s.setFlag p FLS.FLS_CMD_STATUS_BUSY false).setFlag p FLS.FLS_CMD_STATUS_DONE true).setFlag p FLS.FLS_CMD_STATUS_ERROR
    (code != 0)
  let s2 := s1.setFld p FLS.FLS_CMD_STATUS_CODE code
  if code = 3 then s2.raise p FLS.S_PROTECT_REFUSED
  else if 5 ≤ code then (s2.count p FLS.FLS_ERRORS).raise p FLS.S_FLASH_ERROR
  else s2

def flashEndCode : FlashEnd → Nat
  | .done => 0 | .error => 5 | .timeout => 6

/-- Why a command is refused at once; 0: it is not. -/
def State.flsCode (s : State) (op d len a : Nat) : Nat :=
  let at_ := if op = 3 then a / 4096 * 4096 else a
  let n := if op = 3 then 4096 else len
  if op = 0 ∨ 3 < op ∨ (op ≠ 3 ∧ (len = 0 ∨ 48 < len)) then 1
  else if s.flashStatus d ≠ 1 then 4
  else if s.flashSize d < at_ + n then 2
  else if op ≠ 1 ∧ s.flashProtected at_ n then 3
  else 0

/-- The bytes of FLS_DATA, byte 6i of register i lowest. -/
def State.flsBytes (s : State) (n : Nat) : List Byte :=
  ((List.range 8).flatMap (fun i => leBytes 6 (s.reg Page.fls FLS.FLS_DATA i).toNat)).take n

/-- The words that read bytes define. -/
def State.putFlsData (s : State) (l : List Byte) : State :=
  (List.range ((l.length + 5) / 6)).foldl (fun (s : State) (i : Nat) =>
    let part := (l.drop (6 * i)).take 6
    let rest := (leBytes 6 (s.reg Page.fls FLS.FLS_DATA i).toNat).drop part.length
    s.setReg Page.fls FLS.FLS_DATA (BitVec.ofNat 48 (leAt (part ++ rest) 0 6)) i) s

/-- A write of FLS_CMD: a READ completes, a PROGRAM or ERASE_4K runs until its completion is polled. -/
def State.flsCommand (s : State) (r : Req) (data : Word) (met : FlashEnd) : State :=
  s.hostWrite r Page.fls FLS.FLS_CMD 0 true fun s =>
    let p := Page.fls
    let op := Word.bits data 45 3
    let d := Word.bits data 44 1
    let len := Word.bits data 38 6
    let a := Word.bits data 0 32
    if s.flag p FLS.FLS_CMD_STATUS_BUSY then s.setFld p FLS.FLS_CMD_STATUS_CODE 1
    else
      let s1 := s.setReg p FLS.FLS_CMD_STATUS 0
      let code := s1.flsCode op d len a
      if code ≠ 0 then s1.flsEnd code
      else if op = 1 then
        (if met = .done then (s1.putFlsData (s1.flashRead d a len)).flsEnd 0 else s1.flsEnd (flashEndCode met))
      else
        let s2 := (s1.setFlag p FLS.FLS_CMD_STATUS_BUSY true).setFlag p FLS.FLS_STATUS_BUSY true
        (s2.setFld p FLS.FLS_STATUS_HOLDER 3).setAon { s2.aon with flashOp := some (op = 2, d, a, s1.flsBytes len) }

def execFlsRead (r : Req) (data : Word) (met : FlashEnd) (s : State) : Result := answer (s.flsCommand r data met)
def execFlsProgram (r : Req) (data : Word) (s : State) : Result := answer (s.flsCommand r data .done)
def execFlsErase4k (r : Req) (data : Word) (s : State) : Result := answer (s.flsCommand r data .done)

/-- A program or an erase completes. A failed one leaves its bytes open: a program some of its zeros, an erase anything. -/
def execFlashOpComplete (met : FlashEnd) (s : State) : Result :=
  answer (match s.aon.flashOp with
    | none => s
    | some op =>
      let s0 := ((s.setAon { s.aon with flashOp := none }).setFlag Page.fls FLS.FLS_STATUS_BUSY false).setFld Page.fls
        FLS.FLS_STATUS_HOLDER 0
      (s0.flashLands op (met == .done)).flsEnd (flashEndCode met))

/-! ## OTP commands (R653) -/

/-- An OTP command ends. -/
def State.otpEnd (s : State) (code : Nat) : State :=
  let p := Page.dev
  let s1 := ((s.setReg p DEV.OTP_STATUS 0).setFlag p DEV.OTP_STATUS_DONE true).setFlag p DEV.OTP_STATUS_ERROR (code != 0)
  let s2 := s1.setFld p DEV.OTP_STATUS_CODE code
  if code = 5 then s2.raise p DEV.S_OTP_ERROR else s2

/-- The image of the active bank, where it is verified. -/
def State.activeImage (s : State) : Option Image :=
  if s.flag (Page.lsq 0) LSQ.IMG_STATUS_VERIFIED then
    some (if s.flag (Page.lsq 0) LSQ.IMG_STATUS_BANK then s.bank1 else s.bank0)
  else none

/-- Why an OTP command is refused; 0: it is not. -/
def State.otpCode (s : State) (op arg : Nat) : Nat :=
  let st := s.fld Page.dev DEV.LIFE_STATE_STATE
  let revoked := s.fld Page.dev DEV.OTP_SEC_REVOKED
  let min := s.fld Page.dev DEV.OTP_SEC_MIN_SVN
  if op = 0 ∨ op = 3 ∨ (op = 1 ∧ 3 < arg) then 1
  else if st ≠ 2 ∧ st ≠ 3 then 4
  else if op = 1 then
    let mine := match s.activeImage with | some i => i.key == arg | none => false
    if mine || setBitN revoked arg true == 15 then 2 else 0
  else
    let svn := match s.activeImage with | some i => i.svn | none => 0
    if arg ≤ min ∨ svn < arg ∨ 64 < arg then 3 else 0

/-- A write of OTP_CMD; `ok`: the OTP program succeeds. -/
def State.otpWrite (s : State) (r : Req) (data : Word) (ok : Bool) : State :=
  s.hostWrite r Page.dev DEV.OTP_CMD 0 true fun s =>
    let op := Word.bits data 46 2
    let arg := Word.bits data 0 7
    let code := s.otpCode op arg
    if code ≠ 0 then s.otpEnd code
    else if !ok then s.otpEnd 5
    else if op = 1 then
      (s.setFld Page.dev DEV.OTP_SEC_REVOKED (setBitN (s.fld Page.dev DEV.OTP_SEC_REVOKED) arg true)).otpEnd 0
    else (s.setFld Page.dev DEV.OTP_SEC_MIN_SVN arg).otpEnd 0

def execOtpRevoke (r : Req) (data : Word) (ok : Bool) (s : State) : Result := answer (s.otpWrite r data ok)
def execOtpRaiseSvn (r : Req) (data : Word) (ok : Bool) (s : State) : Result := answer (s.otpWrite r data ok)

/-! ## Identity and measurement report (R654 to R656) -/

def execIdentityKeyReady (s : State) : Result :=
  answer (if !s.aon.por && s.otp.keyEnabled && !s.otp.keyDestroyed then s.setFlag Page.dev DEV.LIFE_STATE_KEY_READY true else s)

/-- Bytes 0x000 to 0x0AF of a report, the `seq`th. -/
def State.reportBody (s : State) (seq : Nat) : List Byte :=
  let img := s.activeImage
  let st := s.fld Page.dev DEV.LIFE_STATE_STATE
  let lsq := Page.lsq 0
  let pending := s.flag Page.dev DEV.LIFE_STATE_INTENT_PENDING
  let flags := (if img.isSome then 1 else 0) + (if pending then 2 else 0) + (if st < 2 ∨ st = 4 then 4 else 0)
  let signed := match img with | some i => i.signed | none => []
  let bit (b : Bool) : Nat := if b then 1 else 0
  let otp := [s.deviceId] ++ s.otp.slots.flatMap (fun e => [e.1, e.2])
    ++ [s.fld Page.dev DEV.OTP_SEC_REVOKED, s.fld Page.dev DEV.OTP_SEC_MIN_SVN, bit s.otp.keyEnabled, bit s.otp.keyDestroyed]
  leBytes 4 0x54525052 ++ leBytes 2 1 ++ leBytes 1 st ++ leBytes 1 0xB1 ++ leBytes 8 s.deviceId
    ++ (List.range 4).flatMap (fun i => leBytes 6 (s.reg Page.dev DEV.NONCE i).toNat)
    ++ leBytes 8 (seq % 2 ^ 48) ++ leBytes 2 (s.fld lsq LSQ.SEQ_STATUS_ROM_ID) ++ leBytes 1 (s.fld Page.dev DEV.OTP_SEC_MIN_SVN)
    ++ leBytes 1 (s.fld Page.dev DEV.OTP_SEC_REVOKED) ++ leBytes 4 (match img with | some i => i.version | none => 0)
    ++ leBytes 1 (match img with | some i => i.svn | none => 0) ++ leBytes 1 (match img with | some i => i.key | none => 0)
    ++ leBytes 1 (s.fld lsq LSQ.IMG_STATUS_COPY) ++ leBytes 1 flags ++ zeros 4 ++ fit 48 (Config.sha384 signed)
    ++ fit 48 (Config.otpDigest otp)
    ++ leBytes 8 (if s.flag Page.dtm DTM.DTM_STATUS_W_SET then datumSec s.time.w else 0)
    ++ leBytes 4 (if s.flag Page.dtm DTM.DTM_STATUS_W_SET then datumNs s.time.w else 0) ++ zeros 4

/-- GENERATE = 1 starts a report; while one runs it is ignored. -/
def execReportGenerate (r : Req) (data : Word) (s : State) : Result :=
  answer (s.hostWrite r Page.dev DEV.REPORT_CMD 0 true fun s =>
    let p := Page.dev
    if Word.bit data 0 && !s.flag p DEV.REPORT_STATUS_BUSY then
      ((s.setReg p DEV.REPORT_STATUS 0).setFlag p DEV.REPORT_STATUS_BUSY true).setAon
        { s.aon with pending := some (s.reportBody (s.aon.reports + 1)) }
    else s)

/-- The report is signed and replaces the previous one; without a ready key it stays unsigned. -/
def execReportDone (s : State) : Result :=
  answer (match s.aon.pending with
    | none => s
    | some body =>
      let p := Page.dev
      let key := s.flag p DEV.LIFE_STATE_KEY_READY
      let sig := if key then fit 96 (Config.identitySign (Config.sha384 body)) else zeros 96
      let s1 := s.setAon { s.aon with pending := none, reports := s.aon.reports + 1, report := body ++ sig }
      ((s1.setFlag p DEV.REPORT_STATUS_BUSY false).setFlag p DEV.REPORT_STATUS_DONE true).setFlag p DEV.REPORT_STATUS_SIGNED key)

end Sys2Proof.Machine
end

