-- ==== Sys2Proof/Machine/Host.lean ====
section
/-!
DEFINITION. Sys2Proof/Machine/Host.lean: the host ports (02_host_interface_and_pages.md): where an access leads, plain register writes
and reads, the title block's commands (ownership, ENABLE, TEST_REQ, LOCK, block reset, events, log snapshots, self-tests), bulk
windows, and the events of the ports: links, PERST#, Function Level Resets, MSI-X.
Readings and choices (notes/assumptions): DEDUCED 10, 11, 13, 14, 16, 18, 19, 21, 25, 33; DESIGN CHOICE 12, 17, 78, 79; PRESUMED 8, 9.
-/
namespace Sys2Proof.Machine

/-! ## Where an access leads (R51, R52, R54, R65, R693) -/

/-- What lies at an address: a slot of a page; a slot of the function's own DMA rings through the alias; slot `off` of the counter
block of binding slot `i`; a 64-bit slot of the MSI-X table or of the pending-bit array; an offset of a virtual function's BAR0 that
R52 does not assign; or no register at all (a bulk window, or beyond the BAR). -/
inductive Spot where
  | slot (a : Nat)
  | ring (a : Nat)
  | counters (i off : Nat)
  | table (j : Nat)
  | pending (j : Nat)
  | unassigned (off : Nat)
  | outside
deriving DecidableEq, Repr

/-- First ring of a virtual function within its port (R83). -/
def vfRing (fn : Nat) : Nat := 64 + 4 * (fn % 128 - 1)

/-- Key of ring `r` of port `h`. -/
def ringKey (h r : Nat) : Nat := 1024 * h + r

/-- A page window leads to the page it names, at the same offset; one that names none to nowhere (R693). -/
def State.windowSlot (s : State) (fn off : Nat) : Option Nat :=
  let x := s.windows.get (16 * fn + off / 0x1000) dflt.window
  if x.valid then some (x.page * 0x1000 + off % 0x1000) else none

/-- What a virtual function's BAR0 holds at `off` (R52). -/
def vfSpot (fn off : Nat) : Spot :=
  if off < 0x1100 then .slot (Page.vfe fn * 0x1000 + off)
  else if 0x2000 ≤ off ∧ off < 0x2100 then
    let r := vfRing fn + (off - 0x2000) / 0x40
    .ring (ringPage (portOf fn) r * 0x1000 + 0x100 + 0x40 * ringSlot r + off % 0x40)
  else if 0x3000 ≤ off ∧ off < 0x3100 then .table ((off - 0x3000) / 8)
  else if 0x3800 ≤ off ∧ off < 0x3808 then .pending 0
  else if 0x4000 ≤ off ∧ off < 0x10000 then .counters ((off - 0x4000) / 0x1000) (off % 0x1000)
  else .unassigned off

/-- Where function `fn` comes with `at_`; an address is rounded down to its slot. -/
def State.spot (s : State) (fn : Nat) (at_ : BarAddr) : Spot :=
  match at_ with
  | .bar0 off => if isPF fn && decide (off < 0x8000000) then .slot (off / 8 * 8) else .outside
  | .pfBar2 off =>
    if !isPF fn then .outside
    else if off < 0x8000 then .table (off / 8)
    else if off < 0x8100 then .pending ((off - 0x8000) / 8)
    else .outside
  | .vfBar0 off => if isPF fn ∨ 0x10000 ≤ off then .outside else vfSpot fn (off / 8 * 8)
  | .vfBar2 off =>
    if isPF fn ∨ 0x10000 ≤ off then .outside
    else match s.windowSlot fn (off / 8 * 8) with
      | some a => .slot a
      | none => .unassigned (off / 8 * 8)

/-- The function's link answers and it accepts requests (R46, R692). -/
def State.open_ (s : State) (fn : Nat) : Bool := s.portUp (portOf fn) && s.accepting fn

/-- An access that R53 refuses: recorded in the function's VFE page. -/
def State.refuse53 (s : State) (fn off : Nat) (write : Bool) : State :=
  (s.raise (Page.vfe fn) VFE.S_UNMAPPED).capture fn 3 write off

/-! ## Plain register writes (R13, R62) -/

/-- The access covers bits of the field `lo`, `w` of a slot. -/
def meetsField (z : AccSize) (lo w : Nat) : Bool :=
  match z with
  | .w64 => true
  | .lo => decide (lo < 32)
  | .hi => decide (32 < lo + w)
  | .bad => false

/-- The word that a write leaves: each field by its access code (R13), the bits outside the access as they were. -/
def RegRow.stored (row : RegRow) (z : AccSize) (old data : Word) (locked : Bool) : Word :=
  let new := mergeHalf z old data
  let ones := mergeHalf z 0 data
  let put (w : Word) (f : RowField) : Word :=
    let was := Word.bits old f.lo f.w
    match f.acc with
    | .rw | .rwh => Word.setBits w f.lo f.w (Word.bits new f.lo f.w)
    | .rwl => if locked then w else Word.setBits w f.lo f.w (Word.bits new f.lo f.w)
    | .w1c => Word.setBits w f.lo f.w (was - Nat.land was (Word.bits ones f.lo f.w))
    | .w1s => Word.setBits w f.lo f.w (Nat.lor was (Word.bits ones f.lo f.w))
    | .ro | .rc | .wo => w
  row.fields.foldl put old

/-- The write reaches a locked field. -/
def RegRow.hitsLock (row : RegRow) (z : AccSize) : Bool := row.fields.any (fun f => f.acc == .rwl && meetsField z f.lo f.w)

/-- The register of `f` and its instances, up to `n`. -/
def isReg (o : Nat) (f : Fld) (n : Nat) : Bool := Fld.at f n o

/-- Registers whose writes have rows of their own, as offsets of the page types. -/
def ownRow (k : Kind) (o : Nat) : Bool :=
  if o < 0x100 then [TB.PAGE_OWNER.off, TB.PAGE_STATE.off, TB.EVENT_STATUS.off, TB.EVENT_ENABLE.off, TB.SELFTEST.off].contains o
  else match k with
  | .dev => [DEV.DEV_RESET.off, DEV.LIFE_CMD.off, DEV.OTP_CMD.off, DEV.REPORT_CMD.off].contains o
  | .clk => o == CLK.CLK_CTL.off
  | .pwr => o == PWR.PWR_CTL.off
  | .fls => o == FLS.FLS_CMD.off
  | .mgb => o == MGB.MGB_CTL.off
  | .hif => o == HIF.LOG_SEL.off
  | .dmq => isReg o DMQ.RING_TAIL 32
  | .vfe => o == VFE.LOG_SNAP.off || isReg o VFE.CMD_TAIL 4
  | .pcl => o == PCL.IND_CMD.off || isReg o PCL.BUF_QUOTA 64 || isReg o PCL.PARCEL_CFG 64 || isReg o PCL.RATE_QUOTA 64
  | .lmp => o == LMP.LMP_CTL.off || o == LMP.MEM_CMD.off
  | .oen => o == OEN.CAL_CMD.off || o == OEN.SPARE_CMD.off || o == OEN.TAP_SEL.off
  | .eln => o == ELN.TX_EQ.off || o == LN.PAT_CTL.off || o == LN.INJ_CMD.off
  | .oln => o == LN.PAT_CTL.off || o == LN.INJ_CMD.off
  | .lsq => o == LSQ.IMG_CTL.off || o == LSQ.MBX_CMD.off
  | .pen => o == PEN.PE_CFG.off || isReg o PEN.LP_CTL 4
  | .msc => o == MSC.PAIR_CMD.off
  | .msg => [MSG.KEY_LOCK.off, MSG.SC_CMD.off, MSG.SA_CMD.off, MSG.SSCI.off].contains o || isReg o MSG.KEY_DATA 6 || isReg o MSG.SALT 2
  | .trv => o == TRV.SPARE_CMD.off || isReg o TRV.BRIDGE_MASK 4
  | .prs => o == PRS.IND_CMD.off || o == PRS.FLIP_CTL.off
  | .stn => o == STN.STN_CFG.off || o == STN.IND_CMD.off || isReg o STN.LT_CFG 8 || isReg o STN.SE_CFG 8
  | .dpr => o == DPR.IND_CMD.off
  | .tbc => o == TBC.TBC_CMD.off
  | .lrn => o == LRN.FLOOD_CMD.off
  | .trc => o == TRC.STAKE_CFG.off
  | .tmc => o == TMC.IND_CMD.off
  | .tmw => isReg o TMW.Q_CFG 16 || isReg o TMW.PG_CFG 8
  | .bpm => [BPM.CARVE_CMD.off, BPM.PSET_CMD.off, BPM.ROW_CMD.off, BPM.ISLAND_CTL.off].contains o
  | .ovm => o == OVM.RES_CMD.off || o == OVM.LAYOUT_CMD.off
  | .spr => o == SPR.IND_CMD.off
  | .dtm => [DTM.W_CMD.off, DTM.DTM_CTL.off, DTM.TIME_SNAP.off].contains o || isReg o DTM.D_CMD 2 || isReg o DTM.D_ADJ 2
      || isReg o DTM.D_RATE 2 || isReg o DTM.D_CTL 2
  | .tel => o == TEL.METER_CFG.off
  | .svc => [SVC.IND_CMD.off, SVC.WRAP_ADDR.off, SVC.WRAP_MAP.off].contains o
  | .dmp => o == DMP.DMP_CMD.off || o == DMP.DMP_CFG.off || isReg o DMP.XCONS 8
  | _ => false

/-- A ring's configuration (R54, R84): ENABLE = 1 with SIZE above 9 is ignored; through the alias PARCEL, QUEUE, INGRESS_T and DIR stay
as host software set them. -/
def ringCfgWord (old new : Word) (viaAlias : Bool) : Word :=
  let keepFld (f : Fld) (w : Word) : Word := Word.setBits w f.lo f.w (Word.bits old f.lo f.w)
  let w := if viaAlias then
      keepFld DMQ.RING_CFG_PARCEL (keepFld DMQ.RING_CFG_QUEUE (keepFld DMQ.RING_CFG_INGRESS_T (keepFld DMQ.RING_CFG_DIR new)))
    else new
  if 9 < Word.bits w 2 4 ∧ Word.bit w 0 then keepFld DMQ.RING_CFG_ENABLE w else w

/-- The ring ENABLE of a write that its SIZE makes void stays as it was. -/
def enableWord (old new : Word) (sizeLo limit : Nat) : Word :=
  if limit < Word.bits new sizeLo 4 ∧ Word.bit new 0 then Word.setBit new 0 (Word.bit old 0) else new

/-- What a register's own rules make of the word `new` that a write would store: the word to be stored, or none where the write is
discarded. -/
def State.admits (s : State) (p : Page) (k : Kind) (o : Nat) (old new : Word) : Option Word :=
  if o = TB.EVENT_SEVERITY_LO.off then some (BitVec.ofNat 48 (new.toNat % 2 ^ (2 * Nat.min 24 (numSources k))))
  else if o = TB.EVENT_SEVERITY_HI.off then some (BitVec.ofNat 48 (new.toNat % 2 ^ (2 * (numSources k - 24))))
  else match k with
  | .dmq =>
    if ((Page.kind p).any fun e => e.2 % 18 == 17) && decide (0x800 ≤ o) && decide (o < 0x900) then none
    else some (if isReg o DMQ.RING_CFG 32 then ringCfgWord old new false else new)
  | .vfe => some (if isReg o VFE.CMD_CFG 4 then enableWord old new 1 8 else new)
  | .dmp => some (if isReg o DMP.XCFG 8 then enableWord old new 7 9 else new)
  | .stn =>
    if decide (STN.KEYF.off ≤ o) && decide (o < STN.KEYF.off + 0x200) && decide (48 < Word.bits new 30 6 + Word.bits new 24 6 + 1) then none
    else some new
  | .dtm =>
    if o = DTM.LAUNCH_CFG.off ∧ 167 < Word.bits new 0 8 then some (Word.setBits new 0 8 (Word.bits old 0 8)) else some new
  | .ovm => if o = OVM.SELFTEST_PC.off ∧ s.flag p TB.SELFTEST_RUN then none else some new
  | .tbc => if isReg o TBC.TBC_DATA 16 && s.flag p TBC.TBC_STATUS_BUSY then none else some new
  | _ => some new

/-- RX_EQ_STATUS of a receiver that adapts (R193): what it has settled on is open, but for a CTLE held by MANUAL. -/
def State.equalised (s : State) (p : Page) : Word :=
  let w := s.reg p ELN.RX_EQ_STATUS
  let c := if s.flag p ELN.RX_EQ_CTL_MANUAL then Word.bits w 0 4 else s.free % 16
  Word.setBits (Word.setBits (Word.setBits w 0 4 c) 8 4 (s.free / 2 ^ 8)) 16 32 (s.free / 2 ^ 16)

/-- The receiver of RX_EQ_STATUS at `a` goes on adapting: it has trained and is not frozen. -/
def State.adaptsAt (s : State) (a : Nat) : Bool :=
  match Page.kind (pageOfAddr a) with
  | some (.eln, n) => decide (a - pageOfAddr a * 0x1000 = ELN.RX_EQ_STATUS.off) && (s.lane (576 + n)).adapts
      && !s.flag (pageOfAddr a) ELN.RX_EQ_CTL_FREEZE
  | _ => false

/-- What follows a write at once: a station refuses a key field; a lane's rate is judged against the
suites of its port (R282); an engine's TX_EN reaches its lanes (R168); a ring in TEST takes its
manual code (R162); a port engine's CTR_WRAP clears wrap bits (R562); an export ring starts its first lap (R586); an enabled 1PPS
input starts to be watched (R554); a receiver freezes what it has settled on, and its CTLE takes its manual code (R193); the temperature thresholds are judged again
(R682). `ones`: the 1s of the write. -/
def State.afterWrite (s : State) (p : Page) (k : Kind) (n o : Nat) (old ones : Word) (stored : Bool) : State :=
  match k with
  | .stn => if stored then s else s.raise p STN.S_LT_INVALID
  | .oen =>
    if o = OEN.OEN_CTL.off then (List.range 8).foldl (fun (s : State) (i : Nat) => s.portsFollow (8 * n + i)) s else s
  | .eln =>
    if o = LN.LANE_CTL.off then s.judgeSuites (576 + n)
    else if o = ELN.RX_EQ_CTL.off then
      let s1 : State :=
        if (s.lane (576 + n)).adapts && !Word.bit old 5 && s.flag p ELN.RX_EQ_CTL_FREEZE then
          (s.setReg p ELN.RX_EQ_STATUS (s.equalised p)).drawn
        else s
      if s.flag p ELN.RX_EQ_CTL_MANUAL then s1.setFld p ELN.RX_EQ_STATUS_CTLE (s.fld p ELN.RX_EQ_CTL_CTLE_CODE) else s1
    else s
  | .thm => if o = THM.THM_CFG.off then s.thermJudge else s
  | .oln =>
    if o = LN.LANE_CTL.off then s.judgeSuites n
    else if o = OLN.RING_CTL.off ∧ s.lstate n = lsTest then
      (if s.flag p OLN.RING_CTL_MODE then (s.ringTo n 3).setFld p OLN.RING_STATUS_CODE (s.fld p OLN.RING_CTL_MANUAL_CODE)
       else if Word.bit old 16 then s.ringTo n 0 else s)
    else s
  | .pen =>
    if decide (0x700 ≤ o) && decide (o < 0x740) then
      let sub := (o - 0x700) / 16
      let base := if (o - 0x700) % 16 = 0 then 0 else 48
      (List.range 48).foldl (fun (s : State) (i : Nat) =>
        let a := p * 0x1000 + 0x800 + 0x200 * sub + 8 * (base + i)
        if Word.bit ones i && decide (base + i < 64) && s.wrapOf a then s.setWrap a false else s) s
    else s
  | .dmp =>
    if isReg o DMP.XCFG 8 then
      let r := (o - DMP.XCFG.off) / DMP.XCFG.st
      let s1 : State := if s.xringOn r && !Word.bit old 0 then
          { s with xphase := s.xphase.set r true, xcut := s.xcut.set r false } else s
      s1.xringsCut
    else s
  | .dtm =>
    if o = DTM.PPS_IN_CTL.off then
      (List.range 2).foldl (fun (s : State) (i : Nat) =>
        if s.ppsInEn i && !Word.bit old i then
          { s with datums := { s.datums with edges := s.datums.edges.set i (s.time.us, 0) } } else s) s
    else s
  | _ => s

/-- The 64-bit word of a write as a slot takes it (R59). -/
def slotWord (data : BitVec 64) : Word := data.setWidth 48

/-- A judged write to the slot at `a` takes effect. -/
def State.writeSlot (s : State) (r : Req) (a : Nat) (data : Word) : State :=
  let p := pageOfAddr a
  let o := a - p * 0x1000
  match Page.kind p with
  | none => s
  | some (k, n) =>
    match rowAt k o with
    | none => s
    | some row =>
      let old := s.slot a
      let locked := s.flag p TB.PAGE_STATE_LOCK
      let s0 := if locked && row.hitsLock r.size then (s.raise p TB.S_LOCKED_WRITE).capture r.fn 2 true (errOffset a) else s
      let ones := mergeHalf r.size 0 data
      match s0.admits p k o old (row.stored r.size old data locked) with
      | some w => ((if k = .pen ∧ 0x700 ≤ o ∧ o < 0x740 then s0 else s0.setSlot a w)).afterWrite p k n o old ones true
      | none => s0.afterWrite p k n o old ones false

/-- A write through the alias of the function's own DMA rings (R54). -/
def State.writeAlias (s : State) (r : Req) (a : Nat) (data : Word) : State :=
  let o := (a - pageOfAddr a * 0x1000 - 0x100) % 0x40
  let old := s.slot a
  if o = 0 then s.setSlot a (mergeHalf r.size old data)
  else if o = 8 then s.setSlot a (ringCfgWord old (BitVec.ofNat 48 ((mergeHalf r.size old data).toNat % 2 ^ 39)) true)
  else s

/-! ## MSI-X tables (R51, R55, R58) -/

/-- An MSI-X entry is masked or unmasked: an unmasked pending message leaves. -/
def State.setMask (s : State) (fn vec : Nat) (b : Bool) : State :=
  let k := msixKey fn vec
  let e := s.msix.get k dflt.msix
  if !b && e.pend then ({ s with msix := s.msix.set k { e with mask := false, pend := false } dflt.msix } : State).sendMsix fn vec
  else { s with msix := s.msix.set k { e with mask := b } dflt.msix }

/-- The bits of a 64-bit slot after a write: the halves that the access covers. -/
def merge64 (z : AccSize) (old new : BitVec 64) : BitVec 64 :=
  match z with
  | .w64 => new
  | .lo => BitVec.ofNat 64 (old.toNat / 2 ^ 32 * 2 ^ 32 + new.toNat % 2 ^ 32)
  | .hi => BitVec.ofNat 64 (new.toNat % 2 ^ 32 * 2 ^ 32 + old.toNat % 2 ^ 32)
  | .bad => old

/-- Slot `j` of the MSI-X table: the address of entry j / 2, or its data and mask bit. -/
def State.tableSlot (s : State) (fn j : Nat) : BitVec 64 :=
  let e := s.msix.get (msixKey fn (j / 2)) dflt.msix
  if j % 2 = 0 then e.addr else BitVec.ofNat 64 ((if e.mask then 2 ^ 32 else 0) + e.data.toNat)

def State.writeTable (s : State) (z : AccSize) (fn j : Nat) (data : BitVec 64) : State :=
  let k := msixKey fn (j / 2)
  let e := s.msix.get k dflt.msix
  let w := merge64 z (s.tableSlot fn j) data
  if j % 2 = 0 then { s with msix := s.msix.set k { e with addr := w } dflt.msix }
  else ({ s with msix := s.msix.set k { e with data := w.setWidth 32 } dflt.msix } : State).setMask fn (j / 2) (w.toNat / 2 ^ 32 % 2 == 1)

/-- Slot `j` of the pending-bit array. -/
def State.pendingSlot (s : State) (fn j : Nat) : BitVec 64 :=
  BitVec.ofNat 64 ((List.range 64).foldl (fun (v i : Nat) =>
    if (s.msix.get (msixKey fn (64 * j + i)) dflt.msix).pend then v + 2 ^ i else v) 0)

/-! ## Register writes and reads -/

/-- R54, R60: an access to the function's own BAR0 beside its pages: judged by its size alone. -/
def State.ownAccess (s : State) (r : Req) (p : Page) (off : Nat) (write bad : Bool) (eff : State → State) : State :=
  if !s.portUp (portOf r.fn) then s
  else if !s.accepting r.fn then
    (let s1 := s.unaccepted r.fn
     if write then s1 else s1.emit (.unsupported r.fn))
  else if r.size = .bad || bad then
    let s1 := (s.raise p TB.S_ACCESS_SIZE).capture r.fn 1 write off
    if write then s1 else s1.emit (.readData r.fn 0)
  else eff s

/-- Page that records a wrong size of an access to a function's own tables: its VFE page, or the port's HIF page. -/
def ownPage (fn : Nat) : Page := if isPF fn then Page.hif (portOf fn) else Page.vfe fn

/-- The whole register is marked "64-bit write only" (R62). -/
def RegRow.marked (row : RegRow) : Bool :=
  let w := row.fields.filter (fun f => f.acc != .ro && f.acc != .rc)
  row.mark != 0 && (w.all (fun f => f.acc == .wo) || w.length == 1)

def rowOf (a : Nat) : Option RegRow :=
  let p := pageOfAddr a
  match Page.kind p with
  | none => none
  | some (k, _) => rowAt k (a - p * 0x1000)

def execRegisterWrite (r : Req) (at_ : BarAddr) (data : BitVec 64) (s : State) : Result :=
  answer (
    match s.spot r.fn at_ with
    | .slot a =>
      let p := pageOfAddr a
      let o := a - p * 0x1000
      let own := match Page.kind p with
        | some (k, _) => ownRow k o
        | none => false
      let marked := match rowOf a with
        | some row => row.marked
        | none => false
      if own then s
      else match s.fate r a marked with
        | .ok => (s.writeSlot r a (slotWord data)).survey 17 { fn := some r.fn.val, addr := bar0Attr a }
        | f => s.refuse r a f
    | .ring a =>
      if (a - pageOfAddr a * 0x1000 - 0x100) % 0x40 = 0x18 then s
      else s.ownAccess r (Page.vfe r.fn) (errOffset a) true false fun s =>
        (s.writeAlias r a (slotWord data)).survey 17 { fn := some r.fn.val, addr := none }
    | .counters _ _ => s.ownAccess r (Page.vfe r.fn) 0x4000 true false fun s => s
    | .table j => s.ownAccess r (ownPage r.fn) (8 * j) true false fun s => s.writeTable r.size r.fn j data
    | .pending _ => s.ownAccess r (ownPage r.fn) 0 true false fun s => s
    | .unassigned off => s.ownAccess { r with size := .w64 } (Page.vfe r.fn) off true false fun s => s.refuse53 r.fn off true
    | .outside => s)

/-- Slot `off` of parcel `p`'s counter block (R116): present charges, and counters. -/
def State.parcelSlot (s : State) (p off : Nat) : Nat :=
  if off = 0x060 then s.pclFld p PCL.BUF_USE_CELLS
  else if off = 0x068 then s.pclFld p PCL.BUF_USE_PEAK
  else if off = 0x070 then s.pclFld p PCL.HBM_USE_CHUNKS
  else (s.slot (s.counterAt (parcelCtr p (off / 8 * 8)))).toNat

/-- A read of a counter window of a virtual function: binding slot `i`; an empty one reads as zero. -/
def State.windowSlotOf (s : State) (fn i off : Nat) : Nat :=
  let p := (s.bindings.get fn dflt.binding).getD i 0
  if p = 0 then 0 else s.parcelSlot p off

/-- A slot of a lane's page: LANE_STATUS shows the milliseconds left of a backoff, one that has begun as a whole one (R196). -/
def State.backoffView (s : State) (l a : Nat) : Word :=
  if (s.lane l).backoff ∧ a = slotAddr (Page.lane l) LN.LANE_STATUS 0 then
    Word.setBits (s.slot a) 24 16 (((s.lane l).backEnd - s.time.us + 999) / 1000)
  else s.slot a

/-- What follows the instant of a read: the time left of a hold and the state of a queue in a TM window, the datums in service, what a
receiver has settled on, and the time left of a backoff. -/
def State.liveView (s : State) (a : Nat) : Word :=
  let p := pageOfAddr a
  let o := a - p * 0x1000
  match Page.kind p with
  | some (.tmw, lp) =>
    let e := s.holdEnds.get lp 0
    if o = TMW.LP_TM_STATUS.off then
      Word.setBits (s.slot a) 28 20 (if s.fld p TMW.LP_TM_STATUS_PSTATE = 2 then e - 1 - s.time.us else 0)
    else if Fld.at TMW.Q_STATUS 16 o then s.qStatus (16 * lp + (o - TMW.Q_STATUS.off) / 0x80)
    else s.slot a
  | some (.eln, n) => if s.adaptsAt a then s.equalised p else s.backoffView (576 + n) a
  | some (.oln, n) => s.backoffView n a
  | some (.dtm, _) =>
    if o = DTM.DTM_STATUS.off then Word.setBit (s.slot a) 2 s.wOn
    else if Fld.at DTM.D_STATUS 2 o then Word.setBit (s.slot a) 2 (s.dOn (o != DTM.D_STATUS.off))
    else s.slot a
  | _ => s.slot a

/-- The slot at `a` as a read returns it: PAGE_STATE reports OFF while its domain is off and RESET during a reset; of an OFF page only
PAGE_ID, PAGE_OWNER and SCRATCH read otherwise (R31, R35). -/
def State.slotView (s : State) (a : Nat) : Word :=
  let p := pageOfAddr a
  let o := a - p * 0x1000
  if !s.powered p then (if o = TB.PAGE_ID.off ∨ o = TB.PAGE_OWNER.off ∨ o = TB.SCRATCH.off then s.slot a else 0)
  else if o = TB.PAGE_STATE.off ∧ s.inReset p then Word.setBits (s.slot a) 0 3 1
  else s.liveView a

/-- RC fields of the register at `a` are zero (R13). -/
def State.clearRc (s : State) (a : Nat) (row : RegRow) : State :=
  let s1 := s.setSlot a (row.fields.foldl (fun w f => if f.acc == .rc then Word.setBits w f.lo f.w 0 else w) (s.slot a))
  match Page.kind (pageOfAddr a) with
  | some (.dmq, _) => { s1 with errHeld := s1.errHeld.set (pageOfAddr a) false false }
  | _ => s1

/-- Reads that have rows of their own. -/
def ownRead (a : Nat) : Bool :=
  let p := pageOfAddr a
  let o := a - p * 0x1000
  match Page.kind p with
  | some (.hif, _) => o == HIF.ERR_ADDR.off
  | some (.msg, _) => o == MSG.PN_EVENT.off
  | some (.pen, _) => o == PEN.TS_META.off
  | some (.lrn, _) => o == LRN.NOTE0.off
  | _ => false

def execRcRegisterRead (r : Req) (at_ : BarAddr) (s : State) : Result :=
  answer (
    match s.spot r.fn at_ with
    | .slot a =>
      let row := rowOf a
      let rc := match row with
        | some x => x.fields.any (fun f => f.acc == .rc)
        | none => false
      let counted := rc || (match row with | some x => x.ctr | none => false)
      if ownRead a then s
      else
        let done (s : State) : State := s.survey 18 { fn := some r.fn.val, addr := bar0Attr a }
        match s.readFate r a counted with
        | .ok =>
          let s0 := done (s.emit (.readData r.fn (readPart r.size (s.slotView a))))
          let s1 := if s.adaptsAt a then s0.drawn else s0
          (match row with
            | some x => if rc then s1.clearRc a x else s1
            | none => s1)
        | .noLink => s
        | .unsupported => (s.unaccepted r.fn).emit (.unsupported r.fn)
        | .off =>
          if s.mayRead r.fn (pageOfAddr a) && r.size != .bad then done (s.emit (.readData r.fn (readPart r.size (s.slotView a))))
          else (s.refuse r a .off false).emit (.readData r.fn 0)
        | f => (s.refuse r a f false).emit (.readData r.fn 0)
    | .ring a =>
      let counted := decide ((a - pageOfAddr a * 0x1000 - 0x100) % 0x40 = 0x20) || decide ((a - pageOfAddr a * 0x1000 - 0x100) % 0x40 = 0x28)
      s.ownAccess r (Page.vfe r.fn) (errOffset a) false (counted && r.size != .w64) fun s =>
        (s.emit (.readData r.fn (readPart r.size (s.slot a)))).survey 18 { fn := some r.fn.val, addr := none }
    | .counters i off =>
      s.ownAccess r (Page.vfe r.fn) (0x4000 + 0x1000 * i + off) false (r.size != .w64) fun s =>
        s.emit (.readData r.fn (BitVec.ofNat 64 (s.windowSlotOf r.fn i off)))
    | .table j => s.ownAccess r (ownPage r.fn) (8 * j) false false fun s => s.emit (.readData r.fn (s.tableSlot r.fn j))
    | .pending j => s.ownAccess r (ownPage r.fn) (8 * j) false false fun s => s.emit (.readData r.fn (s.pendingSlot r.fn j))
    | .unassigned off => s.ownAccess { r with size := .w64 } (Page.vfe r.fn) off false false fun s =>
        (s.refuse53 r.fn off false).emit (.readData r.fn 0)
    | .outside => s)

def execErrAddrRead (r : Req) (h : Fin 2) (s : State) : Result :=
  answer (s.hostRead r (Page.hif h) HIF.ERR_ADDR 0 true (fun s => s.reg (Page.hif h) HIF.ERR_ADDR) fun s =>
    s.setReg (Page.hif h) HIF.ERR_ADDR 0)

/-- The address that ERR_ADDR records for an access (R691). -/
def Spot.offset : Spot → Nat
  | .slot a => errOffset a
  | .ring a => errOffset a
  | .counters i off => 0x4000 + 0x1000 * i + off
  | .table j => 8 * j
  | .pending j => 8 * j
  | .unassigned off => off
  | .outside => 0

/-- The target island has not answered within 8 µs (R32). -/
def execRegTimeout (r : Req) (at_ : BarAddr) (write : Bool) (s : State) : Result :=
  answer (
    if !s.open_ r.fn then s
    else
      let h := Page.hif (portOf r.fn)
      let s1 := (s.raise h HIF.S_REG_TIMEOUT).capture r.fn 5 write (s.spot r.fn at_).offset
      if write then s1 else s1.emit (.readData r.fn 0))

/-- R692: nothing of the request is carried out. -/
def execUnacceptedFunctionRequest (fn : Fin 256) (write : Bool) (s : State) : Result :=
  answer (
    if !s.portUp (portOf fn) || s.accepting fn then s
    else if write then s.unaccepted fn
    else (s.unaccepted fn).emit (.unsupported fn))

/-! ## Bulk windows (R68) -/

/-- Internal target of an access: base and offset in one address. -/
def State.bulkTarget (s : State) (fn n off : Nat) : Nat := s.fld (Page.hif (portOf fn)) HIF.BW_BASE_BASE n * 2 ^ 24 + off

/-- What the meters of logical port `lp` show at `off` (R568). -/
def State.meterSlot (s : State) (lp off : Nat) : Nat :=
  let rx := s.meters.get (2 * lp) dflt.meter
  let tx := s.meters.get (2 * lp + 1) dflt.meter
  match off with
  | 0x00 => rx.last
  | 0x08 => rx.peak
  | 0x10 => tx.last
  | 0x18 => tx.peak
  | 0x20 => b2n (s.meterValid (2 * lp)) + 2 * b2n (s.meterValid (2 * lp + 1))
  | _ => 0

/-- Eight bytes of a list from `o`, as a word. -/
def word64 (l : List Byte) (o : Nat) : BitVec 64 := BitVec.ofNat 64 (leAt (fit (o + 8) l) o 8)

/-- The 128 bytes of slot `k` of the flow area: the stored record (R579), or what was written there. -/
def State.flowSlotBytes (s : State) (k : Nat) : List Byte :=
  let f := s.flowStore.get k dflt.flow
  if f.valid then overwrite (flowBytes f 0) 0x7C (leBytes 4 (crc32c ((flowBytes f 0).take 0x7C)))
  else (List.range 128).map (fun i => s.hbmBytes.get (s.flowAddr k + i) 0)

/-- A datum value from a chunk stamp. -/
def datumOfStamp (v : Nat) : Nat := datumOf (v / 2 ^ 30) (v % 2 ^ 30) 0

/-- A stored record as its bytes give it (R579). -/
def flowOfBytes (l : List Byte) (old : Flow) : Flow :=
  let stamp (o was : Nat) : Nat := if chunkStamp was = leAt l o 8 then was else datumOfStamp (leAt l o 8)
  { old with
    key := (leAt l 0 2 % 4096) * 2 ^ 304 + (leAt l 0 2 / 4096) * 2 ^ 296 + beAt l 8 16 * 2 ^ 168 + beAt l 0x18 16 * 2 ^ 40
      + byteAt l 2 * 2 ^ 32 + leAt l 4 2 * 2 ^ 16 + leAt l 6 2,
    wrapped := Nat.bitAt (byteAt l 3) 4, pkts := leAt l 0x28 8 % 2 ^ 48, byts := leAt l 0x30 8 % 2 ^ 48,
    drops := leAt l 0x38 8 % 2 ^ 48, first := stamp 0x40 old.first, last := stamp 0x48 old.last, flags := byteAt l 0x50,
    tc := byteAt l 0x51 % 16, lastDrop := byteAt l 0x52, lastLp := leAt l 0x54 2 % 1024, staked := leAt l 0x58 4,
    travs := leAt l 0x5C 4 }

/-- Eight bytes of the flow or dump area. -/
def State.putHbm (s : State) (a : Nat) (l : List Byte) : State :=
  (List.range l.length).foldl (fun (s : State) (i : Nat) => { s with hbmBytes := s.hbmBytes.set (a + i) (l.getD i 0) 0 }) s

/-- A traverse holds a valid descriptor of type HBM. -/
def State.hbmDescribed (s : State) : Bool :=
  s.ents.any (fun e => e.1 / 2 ^ 48 == spDesc && (descOf e.2).valid && (descOf e.2).type == 5)

/-- The 64-bit word at device address `a` of HBM (R402, R513, R515). -/
def State.hbmWord (s : State) (a : Nat) : BitVec 64 :=
  let split := s.tblUnits * 2 ^ 27
  match s.areaOf (a / 64) with
  | 0 =>
    if a < split then BitVec.ofNat 64 (s.body (a / 16) / 2 ^ (64 * (a % 16 / 8)))
    else BitVec.ofNat 64 (if s.bodyHit ((a - split) / 8) then 2 ^ 63 else 0)
  | 1 =>
    let k := (a - s.flowAddr 0) / 128
    word64 (s.flowSlotBytes k) ((a - s.flowAddr 0) % 128)
  | 2 => word64 ((List.range 8).map (fun i => s.hbmBytes.get (a + i) 0)) 0
  | _ => 0

def State.writeHbm (s : State) (a : Nat) (v : BitVec 64) : State :=
  let split := s.tblUnits * 2 ^ 27
  match s.areaOf (a / 64) with
  | 0 =>
    if s.hbmDescribed then s
    else if a < split then
      let old := s.body (a / 16)
      let sh := 2 ^ (64 * (a % 16 / 8))
      s.setBody (a / 16) (old - old / sh % 2 ^ 64 * sh + v.toNat * sh)
    else s.setBodyHit ((a - split) / 8) (Nat.bitAt v.toNat 63)
  | 1 =>
    let k := (a - s.flowAddr 0) / 128
    let f := s.flowStore.get k dflt.flow
    if f.valid then
      let l := overwrite (s.flowSlotBytes k) ((a - s.flowAddr 0) % 128) (leBytes 8 v.toNat)
      { s with flowStore := s.flowStore.set k (flowOfBytes l f) dflt.flow }
    else s.putHbm a (leBytes 8 v.toNat)
  | 2 => s.putHbm a (leBytes 8 v.toNat)
  | _ => s

/-- An access to HBM: a request of class DUMP (R515). An uncorrectable unit of the table area loses its line or reads HIT as 1; data of
the flow and dump areas come back poisoned (R531, R593). With HBM out of service a read returns an open value and a write is lost. -/
def State.hbmAccess (s : State) (fn a : Nat) (data : Option (BitVec 64)) (ecc : EccFound) : State :=
  let area := s.areaOf (a / 64)
  if !s.hbmUp then
    match data with
    | none => (s.emit (.readData fn (BitVec.ofNat 64 s.free))).drawn
    | some _ => s
  else
    let s1 := s.hbmSurvey 4 a 8
    let s2 := match ecc with
      | .clean => s1
      | .fixed => if area < 3 then s1.hbmFixed else s1
      | .lost => if area < 3 then s1.hbmUe (a / 64) else s1
    match data with
    | some v => s2.writeHbm a v
    | none =>
      if ecc = .lost ∧ area = 0 then
        (if a < s.tblUnits * 2 ^ 27 then (s2.loseLine (a / 64)).emit (.readData fn 0)
         else (s2.setBodyHit ((a - s.tblUnits * 2 ^ 27) / 8) true).emit (.readData fn (BitVec.ofNat 64 (2 ^ 63))))
      else if ecc = .lost ∧ area = 1 then s2.emit (.poisoned fn)
      else if ecc = .lost ∧ area = 2 then ((s2.count Page.dmp DMP.C_POISONED_READS).raise Page.dmp DMP.S_POISONED).emit (.poisoned fn)
      else s2.emit (.readData fn (s2.hbmWord a))

/-- An access to flash device `d` at byte `a` (R647): a write programs eight bytes unless they are protected. -/
def State.flashAccess (s : State) (fn d a : Nat) (data : Option (BitVec 64)) : State :=
  let inside := decide (a + 8 ≤ s.flashSize d) && s.flashStatus d == 1
  match data with
  | none => s.emit (.readData fn (if inside then word64 (s.flashRead d a 8) 0 else 0))
  | some v =>
    if !inside then s
    else if s.flashProtected a 8 then s.raise Page.fls FLS.S_PROTECT_REFUSED
    else s.flashProgram d a (leBytes 8 v.toNat)

/-- The value of a read-only target of the windows; none where no chapter gives the target. -/
def State.bulkValue (s : State) (b off : Nat) : Option (BitVec 64) :=
  let ctr : BitVec 64 := (s.slot (s.counterAt (bulkKey (b * 2 ^ 24 + off)))).setWidth 64
  if b = 0x100 then some (BitVec.ofNat 64 (s.parcelSlot (off / 0x1000) (off % 0x1000)))
  else if b = 0x200 then some (if off < 0x200000 then ctr else 0)
  else if b = 0x300 then some (if off < 0x40000 then ctr else 0)
  else if b = 0x400 then some (if off < 768 * 0x40 then BitVec.ofNat 64 (s.meterSlot (off / 0x40) (off % 0x40)) else 0)
  else if b = 0x500 then some (if off < 4096 * 8 then ctr else 0)
  else if b = 0x700 then
    some (if off < 0x1000 then word64 s.aon.report off
      else if s.flag Page.dev DEV.LIFE_STATE_KEY_READY && decide (off < 0x1060) then word64 (fit 96 Config.identityPublic) (off - 0x1000)
      else 0)
  else none

def execBulkWindowAccess (r : Req) (n : Fin 8) (off : Fin 16777216) (data : Option (BitVec 64)) (ecc : EccFound) (s : State) : Result :=
  answer (
    let h := Page.hif (portOf r.fn)
    if !s.portUp (portOf r.fn) then s
    else if !s.accepting r.fn then (if data.isSome then s.unaccepted r.fn else (s.unaccepted r.fn).emit (.unsupported r.fn))
    else if !isPF r.fn || r.size != .w64 || off.val % 8 != 0 || !s.flag h HIF.HIF_CTL_BULK_EN then
      let s1 := (s.raise h TB.S_ACCESS_SIZE).capture r.fn 1 data.isSome (0x8000000 + n.val * 2 ^ 24 + off)
      if data.isSome then s1 else s1.emit (.readData r.fn 0)
    else
      let b := s.fld h HIF.BW_BASE_BASE n
      if 0x4000 ≤ b ∧ b < 0x5800 then s.hbmAccess r.fn ((b - 0x4000) * 2 ^ 24 + off) data ecc
      else if 0x600 ≤ b ∧ b < 0x640 then s.flashAccess r.fn ((b - 0x600) / 0x20) ((b - 0x600) % 0x20 * 2 ^ 24 + off) data
      else match data, s.bulkValue b off with
        | some _, _ => s
        | none, some v => s.emit (.readData r.fn v)
        | none, none => (s.emit (.readData r.fn (BitVec.ofNat 64 s.free))).drawn)

/-! ## The title block's own commands (R70, R606, R607, R612) -/

/-- PAGE_OWNER as a write leaves it: on a system page it never names a virtual function (R75); on a VFE page nothing changes (R74). -/
def ownerWord (k : Kind) (old new : Word) : Word :=
  let w := keep 0x3FF0FFF new
  if k = .vfe then old
  else if k.system then keep 0x2800FFF w
  else w

def execPageOwnerWrite (r : Req) (page : Nat) (data : Word) (s : State) : Result :=
  answer (s.hostWrite r page TB.PAGE_OWNER 0 false fun s =>
    match Page.kind page with
    | some (k, _) =>
      let old := s.reg page TB.PAGE_OWNER
      s.setReg page TB.PAGE_OWNER (ownerWord k old (mergeHalf r.size old data))
    | none => s)

/-- The block follows ENABLE and TEST_REQ (R607); lanes, lane sequencers and the datum page as their chapters give. -/
def State.pageFollow (s : State) (p : Page) (k : Kind) (n : Nat) (wasTest : Bool) : State :=
  let test := s.flag p TB.PAGE_STATE_TEST_REQ
  let st := s.fld p TB.PAGE_STATE_STATE
  let general (s : State) : State :=
    if st = 2 ∨ st = 3 ∨ st = 4 ∨ st = 6 then s.setBlockState p (if test then 6 else s.serviceState p) else s
  let lane (s : State) (l : Nat) : State :=
    let s1 := if test != wasTest then s.laneTest l test else s
    s1.laneEnable l
  match k with
  | .oln => lane s n
  | .eln => lane s (576 + n)
  | .lsq => s.lsqState n
  | .dtm => (general s).dtmFollow
  | .ovm => (general s).ovmFollow
  | _ => general s

/-- A write of PAGE_STATE: LOCK is set, TEST_REQ and ENABLE are stored and act; BLOCK_RESET acts on a 64-bit write (R62, R690). -/
def State.pageState (s : State) (r : Req) (p : Page) (data : Word) (wearOk : Bool) : State :=
  s.hostWriteParts r p TB.PAGE_STATE 0x10 data fun s =>
    match Page.kind p with
    | none => s
    | some (k, n) =>
      if r.size = .hi then s
      else if r.size = .w64 ∧ Word.bit data 4 then s.blockReset p wearOk
      else
        let was := s.flag p TB.PAGE_STATE_TEST_REQ
        let s1 := if Word.bit data 7 then s.setFlag p TB.PAGE_STATE_LOCK true else s
        ((s1.setFlag p TB.PAGE_STATE_TEST_REQ (Word.bit data 6)).setFlag p TB.PAGE_STATE_ENABLE (Word.bit data 5)).pageFollow p k n was

/-- The data of a PAGE_STATE write that carries no block reset. -/
def noReset (data : Word) : Word := Word.setBit data 4 false

def execPageLockSet (r : Req) (page : Nat) (data : Word) (s : State) : Result := answer (s.pageState r page (noReset data) true)
def execPageEnableWrite (r : Req) (page : Nat) (data : Word) (s : State) : Result := answer (s.pageState r page (noReset data) true)
def execTestReqWrite (r : Req) (page : Nat) (data : Word) (s : State) : Result := answer (s.pageState r page (noReset data) true)
def execBlockReset (r : Req) (page : Nat) (data : Word) (wearOk : Bool) (s : State) : Result := answer (s.pageState r page data wearOk)

/-- The bits of EVENT_STATUS that a clear of `ones` leaves: a held bit stays while its cause is present (R612). -/
def State.clearable (s : State) (p : Page) (ones : Nat) : Nat :=
  let x := s.pg p
  let held := Nat.lor x.heldD.toNat x.heldH.toNat
  let stuck := Nat.land held (s.reg p TB.FAULT_CAUSE).toNat
  ones - Nat.land ones stuck

/-- The bits of `w` that `m` does not name. -/
def without (w : Word) (m : Nat) : Word := BitVec.ofNat 48 (w.toNat - Nat.land w.toNat m)

/-- Bits of EVENT_STATUS clear, with their held bits; the block leaves HALTED with the last held HALT bit and DEGRADED with the last
held DEGRADE bit (R607, R612). -/
def State.clearEvents (s : State) (p : Page) (k : Kind) (n m : Nat) : State :=
  let x := s.pg p
  let s1 := (s.setReg p TB.EVENT_STATUS (without (s.reg p TB.EVENT_STATUS) m)).setPg p
    { x with heldD := without x.heldD m, heldH := without x.heldH m }
  let s2 := s1.vfSummary p
  let free := s2.isHalted p && (s2.pg p).heldH == 0
  let s3 := if free then s2.setBlockState p 2 else s2
  let st := s3.fld p TB.PAGE_STATE_STATE
  match k with
  | .oln => ((s3.lanePageState n).portsFollow (n / 4))
  | .eln => ((s3.lanePageState (576 + n)).portsFollow ((576 + n) / 4))
  | .lsq =>
    let s4 := s3.lsqState n
    if free then (s4.portsFollow (2 * n)).portsFollow (2 * n + 1) else s4
  | .dtm => (if st = 3 ∨ st = 4 then s3.setBlockState p (s3.serviceState p) else s3).dtmFollow
  | _ => if st = 3 ∨ st = 4 then s3.setBlockState p (s3.serviceState p) else s3

def execEventStatusClear (r : Req) (page : Nat) (data : Word) (s : State) : Result :=
  answer (s.hostWrite r page TB.EVENT_STATUS 0 false fun s =>
    match Page.kind page with
    | some (k, n) => s.clearEvents page k n (s.clearable page ((mergeHalf r.size 0 data).toNat % 2 ^ numSources k))
    | none => s)

/-- One message for each source newly enabled whose bit is set, at NOTIFY or above (R56). -/
def execEventEnableWrite (r : Req) (page : Nat) (data : Word) (s : State) : Result :=
  answer (s.hostWrite r page TB.EVENT_ENABLE 0 false fun s =>
    let old := s.reg page TB.EVENT_ENABLE
    let new := mergeHalf r.size old data
    (List.range 48).foldl (fun (s : State) (i : Nat) =>
      if !Word.bit old i && Word.bit new i && s.raised page i && s.mayNotify page i then s.pageMsix page else s)
      (s.setReg page TB.EVENT_ENABLE new))

/-! ## Log snapshots (R81) -/

/-- LOG_STATUS as a snapshot leaves it. -/
def logStatus (refused lost : Bool) (count : Nat) : Word :=
  BitVec.ofNat 48 (128 * b2n refused + 64 + 32 * b2n lost + count)

/-- The log of page `p` is copied into the registers `status` and `entry` of page `to_` and emptied. -/
def State.takeLog (s : State) (p to_ : Page) (status entry : Fld) : State :=
  let l := (s.pg p).log
  let lost := s.flag p TB.PAGE_STATE_LOST
  let s1 := (List.range l.length).foldl (fun (s : State) (i : Nat) => s.setReg to_ entry (l.getD i 0) i) s
  let s2 := s1.setPg p { s1.pg p with log := [] }
  ((s2.setFld p TB.PAGE_STATE_LOG_COUNT 0).setFlag p TB.PAGE_STATE_LOST false).setReg to_ status (logStatus false lost l.length)

/-- The fate of a snapshot of page `p` by function `fn`: a write under R70. -/
def State.snapFate (s : State) (fn : Nat) (p : Page) : Fate :=
  if (Page.kind p).isNone || decide (0x10000 ≤ p) then .unmapped
  else if !s.powered p || s.inReset p then .off
  else if !s.clocked p then .timeout
  else if !s.mayWrite fn p false then .owner
  else .ok

def execLogSnapshot (r : Req) (h : Fin 2) (data : Word) (s : State) : Result :=
  answer (s.hostWrite r (Page.hif h) HIF.LOG_SEL 0 true fun s =>
    let p := Word.bits data 0 16
    match s.snapFate r.fn p with
    | .ok => s.takeLog p (Page.hif h) HIF.LOG_STATUS HIF.LOG_ENTRY
    | .unmapped => ((s.raise (Page.hif (portOf r.fn)) HIF.S_UNMAPPED).capture r.fn 3 true (p * 0x1000)).setReg (Page.hif h)
        HIF.LOG_STATUS (logStatus true false 0)
    | f => (s.refuse r (p * 0x1000) f).setReg (Page.hif h) HIF.LOG_STATUS (logStatus true false 0))

def execVfeLogSnap (r : Req) (data : Word) (s : State) : Result :=
  answer (
    if isPF r.fn then s
    else s.hostWrite r (Page.vfe r.fn) VFE.LOG_SNAP 0 true fun s =>
      if Word.bit data 0 then s.takeLog (Page.vfe r.fn) (Page.vfe r.fn) VFE.LOG_STATUS VFE.LOG_ENTRY else s)

/-! ## Self-tests (R615) -/

/-- The codes that the chapters give. -/
def testGiven (k : Kind) (code : Nat) : Bool :=
  match k with
  | .oln | .trv | .res | .dpr | .ovm => code == 1
  | .eln | .stn | .tbc | .bpm => code == 1 || code == 2
  | .lsq => code == 1 || code == 2 || code == 3
  | _ => false

/-- The lane of a lane page. -/
def laneOfPage (k : Kind) (n : Nat) : Option Nat :=
  match k with
  | .oln => some n
  | .eln => some (576 + n)
  | _ => none

/-- A lane test can run: in SPARED or TEST; an optical lane's also needs the engine's tap and a modulating ring. -/
def State.laneTestable (s : State) (l : Nat) : Bool :=
  (s.lstate l == lsSpared || s.lstate l == lsTest)
    && (!isOptical l || (!s.flag (Page.oen (l / 32)) OEN.TAP_SEL_EN && s.ringModulates l))

/-- RESULT and DETAIL. -/
def State.testResult (s : State) (p : Page) (res detail : Nat) : State :=
  ((s.setFlag p TB.SELFTEST_RUN false).setFld p TB.SELFTEST_RESULT res).setFld p TB.SELFTEST_DETAIL detail

/-- The test named by SELECT starts, or ends at once with RESULT 3. -/
def State.testStart (s : State) (p : Page) (k : Kind) (n : Nat) : State :=
  let can := match laneOfPage k n with
    | some l => s.laneTestable l
    | none => true
  if testGiven k (s.fld p TB.SELFTEST_SELECT) && can then (s.testResult p 0 0).setFlag p TB.SELFTEST_RUN true
  else s.testResult p 3 0

def execSelftestRun (r : Req) (page : Nat) (data : Word) (s : State) : Result :=
  answer (s.hostWrite r page TB.SELFTEST 0 false fun s =>
    match Page.kind page with
    | none => s
    | some (k, n) =>
      let run := Word.bit (mergeHalf r.size 0 data) 0
      if !hasSelftest k || (run && s.flag page TB.SELFTEST_RUN) then s
      else
        let s1 := s.setFld page TB.SELFTEST_SELECT (Word.bits (mergeHalf r.size (s.reg page TB.SELFTEST) data) 8 8)
        if run then s1.testStart page k n else s1)

/-- Sources whose cause is a state of the block (R611): a passing self-test does not end it. -/
def conditionSources : Kind → List Nat
  | .oln => [LN.S_LANE_DEGRADED, LN.S_MODE_MISMATCH, OLN.S_RX_LOS, OLN.S_RING_UNLOCK, OLN.S_RING_LIMIT, OLN.S_TAP_FAIL]
  | .eln => [LN.S_LANE_DEGRADED, LN.S_MODE_MISMATCH]
  | .lsq => [LSQ.S_IMG_NONE]
  | .ovm => [OVM.S_HBM_LOST, OVM.S_PANIC, OVM.S_PC_RETIRED, OVM.S_SCRUB_LATE, OVM.S_SHED, OVM.S_STACK_HOT]
  | _ => []

/-- After a block reset a pass of code 1 ends the causes of the error sources of page `p` (R611). -/
def State.passAfterReset (s : State) (p : Page) (k : Kind) : State :=
  if (s.pg p).wasReset then
    let keepBits := (conditionSources k).foldl (fun (m i : Nat) => Nat.lor m (2 ^ i)) 0
    (s.setReg p TB.FAULT_CAUSE (keep keepBits (s.reg p TB.FAULT_CAUSE))).setPg p { s.pg p with wasReset := false }
  else s

/-- The pages that code 1 of page `p` tests: a TRV page's runs that of every station, the resolution and the deparser. -/
def testedPages (p : Page) (k : Kind) (n : Nat) : List (Page × Kind) :=
  if k = .trv then [(p, .trv), (Page.res n, .res), (Page.dpr n, .dpr)] ++ (List.range 20).map (fun i => (Page.stn n i, .stn))
  else [(p, k)]

/-- The end of a lane's test: two consecutive failures class it PERSISTENT, one runs it again; a pass of code 2 returns an electrical
lane to its port. -/
def State.laneTestEnd (s : State) (p : Page) (l : Nat) (met : TestEnd) (detail : Nat) : State :=
  let x := s.lane l
  match met with
  | .ended => s.testResult p 3 detail
  | .passed =>
    let s1 := ((s.setLane l { x with testOk := true, testFails := 0 }).clearCause p LN.S_SPARED_ENTRY).testResult p 1 detail
    if s1.fld p TB.SELFTEST_SELECT = 2 ∧ !isOptical l then s1.restorePort (s1.portOfLane l) else s1
  | .failed =>
    if x.testFails = 0 then s.setLane l { x with testOk := false, testFails := 1 }
    else ((s.setLane l { x with testOk := false, testFails := 2 }).clearCause p LN.S_SPARED_ENTRY).testResult p 2 detail

def execSelftestComplete (page : Nat) (met : TestEnd) (detail : BitVec 32) (s : State) : Result :=
  answer (
    match Page.kind page with
    | none => s
    | some (k, n) =>
      if !s.flag page TB.SELFTEST_RUN then s
      else
        let code := s.fld page TB.SELFTEST_SELECT
        let det := if k = .ovm then s.fld page OVM.SELFTEST_PC_PC + detail.toNat / 256 * 256 else detail.toNat
        let s1 := match laneOfPage k n with
          | some l => s.laneTestEnd page l met det
          | none => s.testResult page (match met with | .passed => 1 | .failed => 2 | .ended => 3) det
        if code = 1 ∧ met = .passed then
          (testedPages page k n).foldl (fun (s : State) (q : Page × Kind) => s.passAfterReset q.1 q.2) s1
        else s1)

/-! ## Host port events (R46 to R58, R637, R640, R642) -/

/-- The port's link is out of L0 (R46): its physical function loses the key lock (R302) and its export rings stop (R588). -/
def State.loseLink (s : State) (h : Nat) : State :=
  let p := Page.hif h
  let was := s.flag p HIF.LINK_STATUS_LINK_UP
  let s1 := (((s.setFlag p HIF.LINK_STATUS_LINK_UP false).setFld p HIF.LINK_STATUS_WIDTH 0).setFld p HIF.LINK_STATUS_RATE 0).setFlag p
    HIF.LINK_STATUS_FLIT false
  ((s1.raiseIf was p HIF.S_LINK_DOWN).breakLockOf (128 * h)).xringsCut

def execHostLinkDown (h : Fin 2) (s : State) : Result := answer (s.loseLink h)

/-- The port's link enters L0; while the port is in reset it trains nothing (R642, R687). RATE 1 to 6 and width 1, 2 or 4 (R47);
64 GT/s runs in Flit Mode. -/
def execHostLinkUp (h : Fin 2) (rate width : Fin 8) (flit : Bool) (s : State) : Result :=
  answer (
    let p := Page.hif h
    let good := decide (1 ≤ rate.val) && decide (rate.val ≤ 6) && [1, 2, 4].contains width.val && (flit || rate.val != 6)
    if s.aon.por || s.hosts.perst.getD h false || s.scanStops || !good then s
    else
      ((((s.setFlag p HIF.LINK_STATUS_LINK_UP true).setFld p HIF.LINK_STATUS_WIDTH width).setFld p HIF.LINK_STATUS_RATE rate).setFlag p
        HIF.LINK_STATUS_FLIT flit))

/-- Host software changes a function's command register or power state (R49, R692). -/
def execHostPowerState (fn : Fin 256) (mse bme d3hot : Bool) (s : State) : Result :=
  answer (
    if s.portUp (portOf fn) && !(s.fn fn).flr then
      (s.setFn fn { s.fn fn with mse := mse, bme := bme, d3hot := d3hot }).xringsCut
    else s)

/-- The transmit and receive state of the rings that satisfy `q` is gone. -/
def State.forgetRings (s : State) (q : Nat → Bool) : State :=
  { s with ringMsg := s.ringMsg.clear q, txParts := s.txParts.clear q }

/-- First and number of the DMA rings of a function within its port (R83). -/
def ringsOf (fn : Nat) : Nat × Nat := if isPF fn then (0, 64) else (vfRing fn, 4)

/-- A ring is disabled, with HEAD and TAIL zero (R89). -/
def State.stopRing (s : State) (h r : Nat) : State :=
  let p := ringPage h r
  let i := ringSlot r
  ((s.setFlag p DMQ.RING_CFG_ENABLE false i).setFld p DMQ.RING_HEAD_HEAD 0 i).setFld p DMQ.RING_TAIL_TAIL 0 i

/-- Command ring `c` of a virtual function is disabled and empty (R115). -/
def State.stopCmdRing (s : State) (fn c : Nat) : State :=
  let p := Page.vfe fn
  ((s.setFlag p VFE.CMD_CFG_ENABLE false c).setFld p VFE.CMD_HEAD_INDEX 0 c).setFld p VFE.CMD_TAIL_INDEX 0 c

/-- A Function Level Reset (R89, R115, R302, R588, R638): the function's configuration space and MSI-X table are as after reset, and a
physical function has no virtual functions enabled. -/
def State.flr (s : State) (fn : Nat) : State :=
  let h := portOf fn
  let lo := ringKey h (ringsOf fn).1
  let mine (k : Nat) : Bool := decide (lo ≤ k) && decide (k < lo + (ringsOf fn).2)
  let s1 := (List.range (ringsOf fn).2).foldl (fun (s : State) (i : Nat) => s.stopRing h ((ringsOf fn).1 + i)) s
  let s2 := (s1.dropCopies (fun c => mine c.ring)).forgetRings mine
  let s3 := (s2.setFn fn { flr := true })
  let s4 : State := { s3 with msix := s3.msix.clear (fun k => k / 2048 == fn) }
  if isPF fn then ((s4.setFld (Page.hif h) HIF.LINK_STATUS_NUM_VFS 0).breakLockOf fn).xringsCut
  else (List.range 4).foldl (fun (s : State) (c : Nat) => s.stopCmdRing fn c) s4

def execFunctionLevelReset (fn : Fin 256) (s : State) : Result :=
  answer (if s.portUp (portOf fn) then s.flr fn else s)

def execFlrComplete (fn : Fin 256) (s : State) : Result :=
  answer (
    if (s.fn fn).flr then
      let s1 := s.setFn fn { s.fn fn with flr := false }
      if isPF fn then s1 else s1.raise (Page.hif (portOf fn)) HIF.S_VF_FLR
    else s)

/-- Pages of host port `h` that PERST# resets: its HIF and DMQ pages and its virtual functions' pages (R638). -/
def portPage (h : Nat) (p : Page) : Bool :=
  match Page.kind p with
  | some (.hif, n) => n == h
  | some (.dmq, n) => n / 18 == h
  | some (.vfe, n) => n / 128 == h
  | _ => false

/-- What PERST# leaves in those pages: owner and SCRATCH (R640), and the events (R609). -/
def keptPerst (o : Nat) : Bool :=
  [TB.PAGE_OWNER.off, TB.SCRATCH.off, TB.EVENT_STATUS.off, TB.EVENT_FIRST.off, TB.FAULT_CAUSE.off].contains o

/-- PAGE_STATE of a page after PERST#: its log and held bits stay. -/
def State.perstState (s : State) (p : Page) : State :=
  let x := s.pg p
  let s1 := s.setFld p TB.PAGE_STATE_LOG_COUNT x.log.length
  if x.heldH = 0 then s1 else s1.setBlockState p 5

/-- PERST# of port `h` (R637, R638, R640). -/
def State.perst (s : State) (h : Nat) : State :=
  let s0 := s.loseLink h
  let s1 : State := { s0 with hosts := { perst := s0.hosts.perst.set h true } }
  let gone (a : Nat) : Bool := slotIn (portPage h) a && !keptPerst (a - pageOfAddr a * 0x1000)
  let mine (k : Nat) : Bool := k / 1024 == h
  let s2 : State := { s1 with
    regs := s1.regs.clear gone, wraps := s1.wraps.clear (fun a => slotIn (portPage h) a),
    fns := s1.fns.clear (fun f => f / 128 == h),
    msix := s1.msix.clear (fun k => k / 2048 / 128 == h), errHeld := s1.errHeld.clear (portPage h) }
  let s3 := ((s2.pages.map (·.1)).filter (portPage h)).foldl (fun (s : State) (p : Nat) => s.perstState p) s2
  let s4 := (List.range 127).foldl (fun (s : State) (i : Nat) => s.vfSummary (Page.vfe (128 * h + i + 1))) s3
  (s4.forgetRings mine).xringsCut

def execPerstAssert (h : Fin 2) (s : State) : Result := answer (s.perst h)

def execPerstDeassert (h : Fin 2) (s : State) : Result :=
  answer { s with hosts := { perst := s.hosts.perst.set h false } }

/-- Host software enables the first `n` virtual functions of a port (R50); one that is no longer enabled keeps nothing of its
configuration space. -/
def execSriovVfEnable (h : Fin 2) (n : Fin 128) (s : State) : Result :=
  answer (
    if s.portUp h && !(s.fn (128 * h.val)).flr then
      let s1 := s.setFld (Page.hif h) HIF.LINK_STATUS_NUM_VFS n
      let off (f : Nat) : Bool := f / 128 == h.val && decide (n.val < f % 128)
      { s1 with fns := s1.fns.clear off, msix := s1.msix.clear (fun k => off (k / 2048)) }
    else s)

def execMsixUnmask (fn : Fin 256) (vec : Fin 2048) (s : State) : Result :=
  answer (if s.portUp (portOf fn) && decide (vec.val < msixSize fn) then s.setMask fn vec false else s)

end Sys2Proof.Machine
end

