-- ==== Sys2Proof/Machine/Package.lean ====
section
/-!
DEFINITION. Sys2Proof/Machine/Package.lean: sensors, THERMTRIP#, GPIO pins and the test access port (22_package_and_electrical.md,
R679 to R688).
Readings and choices (notes/assumptions): DEDUCED 77.
-/
namespace Sys2Proof.Machine

/-! ## Sensors (R679, R682) -/

/-- THERMAL_SAMPLE: the sensors' readings, none of one that has not updated for 50 µs, and the engines' temperatures (R161, R679). -/
def execThermalSample (sensors : List (Option Int)) (engines : List Int) (s : State) : Result :=
  answer (
    if s.aon.por then s
    else
      let s1 := (List.range 48).foldl (fun (s : State) (j : Nat) => s.readSensor j (sensors.getD j none))
        (s.setAon { s.aon with failed := [] })
      (List.range 18).foldl (fun (s : State) (k : Nat) =>
        match engines[k]? with
        | some t => if s.domainUp k then s.readEngine k t else s
        | none => s) (s1.failFollow s.aon.failed).thermJudge)

/-! ## THERMTRIP# (R680, R681) -/

/-- A condition of R680 holds: a sensor or an engine at or above 158 °C, or an HBM stack at or above 115 °C. -/
def State.tripping (s : State) : Bool :=
  (List.range 48).any (fun j => match s.sensor j with
    | some t => decide (158 * 256 ≤ t)
    | none => false)
  || (List.range 18).any (fun k => s.domainUp k && decide (158 * 256 ≤ s.engTemp k))
  || (List.range 4).any (fun h => s.flag Page.ovm OVM.STACK_STATUS_TRAINED h
      && decide (115 * 256 ≤ signed 16 (s.fld Page.ovm OVM.STACK_STATUS_TEMP h)))

/-- A condition has held for 10 µs: THERMTRIP_N and every LM_EN go low and the device enters power-on reset; the test access port
returns to IDCODE (R688). -/
def execThermtrip (s : State) : Result :=
  answer (
    if !s.aon.por && s.tripping then s.enterPor { pwrgood := s.aon.pwrgood, tripped := true, byTrip := true, tap := 0x01 } else s)

/-! ## GPIO (R684) -/

/-- The level at a pin changes. -/
def execGpioEdge (pin : Fin 16) (high : Bool) (s : State) : Result :=
  answer (
    let p := Page.thm
    let was := Nat.bitAt (s.fld p THM.GPIO_IN_PINS) pin
    if s.aon.por || was == high then s
    else
      let s1 := s.setReg p THM.GPIO_IN (Word.setBit (s.reg p THM.GPIO_IN) pin high)
      let en := if high then s1.fld p THM.GPIO_EDGE_EN_RISE_EN else s1.fld p THM.GPIO_EDGE_EN_FALL_EN
      let seen := Word.bit (s1.reg p THM.GPIO_EDGE) pin
      if Nat.bitAt en pin then
        let s2 := s1.setReg p THM.GPIO_EDGE (Word.setBit (s1.reg p THM.GPIO_EDGE) pin true)
        if seen then s2 else s2.raise p THM.S_GPIO_EDGE
      else s1)

/-! ## The test access port (R685 to R687) -/

/-- The opcodes of R685 that stop all traffic: EXTEST, CLAMP, HIGHZ, EXTEST_PULSE, EXTEST_TRAIN. -/
abbrev opExtest : Nat := 0x00
abbrev opIdcode : Nat := 0x01
abbrev opSample : Nat := 0x02
abbrev opClamp : Nat := 0x04
abbrev opHighz : Nat := 0x05
abbrev opPulse : Nat := 0x09
abbrev opTrain : Nat := 0x0A
abbrev opBypass : Nat := 0xFF

/-- A factory opcode, and whether the life-cycle state lets it act: BLANK, TEST and RETURN only (R648). -/
def isFactory (op : Nat) : Bool := decide (0x80 ≤ op) && decide (op ≤ 0xFE)
def State.factoryOpen (s : State) : Bool := [0, 1, 4].contains (s.fld Page.dev DEV.LIFE_STATE_STATE)

/-- The opcode acts as an instruction of its own; any other acts as BYPASS (R685). -/
def State.tapAvailable (s : State) (op : Nat) : Bool :=
  op == opIdcode || op == opSample || (s.aon.pwrgood && [opExtest, opClamp, opHighz, opPulse, opTrain].contains op)
    || (isFactory op && s.factoryOpen)

/-- Every lane is DARK, every LM_EN low and the host links are lost while an instruction of R687 is in force. -/
def State.stopTraffic (s : State) (wearOk : Bool) : State :=
  let s1 := (List.range 36).foldl (fun (s : State) (n : Nat) => s.lmEnFall n wearOk) s
  let s2 := (List.range 24).foldl (fun (s : State) (d : Nat) => s.loseLanes (32 * d)) s1
  (s2.loseLink 0).loseLink 1

/-- An instruction that stops all traffic is selected. -/
def State.enterScan (s : State) (op : Nat) (wearOk : Bool) : State :=
  let s1 := s.setAon { s.aon with tap := op }
  if s1.scanStops && !s.scanStops && !s.aon.por then s1.stopTraffic wearOk else s1

/-- Any other instruction is selected: the device leaves one of R687 by a device soft reset. -/
def State.leaveScan (s : State) (op : Nat) (x : Restart) : State :=
  let s1 := s.setAon { s.aon with tap := op }
  if s.scanStops && !s.aon.por then s1.softly x else s1

def execExtest (wearOk : Bool) (s : State) : Result := answer (s.enterScan opExtest wearOk)
def execClamp (wearOk : Bool) (s : State) : Result := answer (s.enterScan opClamp wearOk)
def execHighz (wearOk : Bool) (s : State) : Result := answer (s.enterScan opHighz wearOk)
def execExtestPulse (wearOk : Bool) (s : State) : Result := answer (s.enterScan opPulse wearOk)
def execExtestTrain (wearOk : Bool) (s : State) : Result := answer (s.enterScan opTrain wearOk)
def execIdcode (x : Restart) (s : State) : Result := answer (s.leaveScan opIdcode x)
def execSamplePreload (x : Restart) (s : State) : Result := answer (s.leaveScan opSample x)

/-- BYPASS, by its opcode or by one that does not act; an opcode that acts is another command. -/
def execBypass (opcode : BitVec 8) (x : Restart) (s : State) : Result :=
  answer (if s.tapAvailable opcode.toNat then s else s.leaveScan opcode.toNat x)

/-- A factory instruction; what it does beyond leaving an instruction of R687 is not published. -/
def execFactoryInstruction (opcode : BitVec 8) (x : Restart) (s : State) : Result :=
  answer (if isFactory opcode.toNat then s.leaveScan opcode.toNat x else s)

/-- The instruction in force is left for BYPASS. -/
def execTapTestExit (x : Restart) (s : State) : Result := answer (s.leaveScan opBypass x)

/-- TRST_N low, or the Test-Logic-Reset state: IDCODE is selected. -/
def execTapReset (x : Restart) (s : State) : Result := answer (s.leaveScan opIdcode x)

end Sys2Proof.Machine
end

