-- ==== Sys2Proof/Machine/Rings.lean ====
section
/-!
DEFINITION. Sys2Proof/Machine/Rings.lean: the packet DMA rings (02_host_interface_and_pages.md, R83 to R90) and the command rings of
virtual functions (03_parcels_and_easements.md, R112 to R115).
Readings and choices (notes/assumptions): DEDUCED 15, 22, 23.
-/
namespace Sys2Proof.Machine

/-! ## Rings (R83 to R85) -/

/-- Descriptors of a packet DMA ring (R84). -/
def State.ringSize (s : State) (h ring : Nat) : Nat := 2 ^ (6 + s.ringFld h ring DMQ.RING_CFG_SIZE)

/-- HEAD, and the descriptors posted and not yet used (R84). -/
def State.ringHead (s : State) (h ring : Nat) : Nat := s.ringFld h ring DMQ.RING_HEAD_HEAD % s.ringSize h ring
def State.ringPosted (s : State) (h ring : Nat) : Nat :=
  (s.ringFld h ring DMQ.RING_TAIL_TAIL + s.ringSize h ring - s.ringHead h ring) % s.ringSize h ring

/-- Host address of descriptor `i` of a ring, counted from HEAD. -/
def State.descAddr (s : State) (h ring i : Nat) : Nat :=
  s.ringFld h ring DMQ.RING_BASE_ADDR * 4096 + 32 * ((s.ringHead h ring + i) % s.ringSize h ring)

/-- A function may issue DMA (R49, R640): its port up, not in D3hot nor in Function Level Reset, Bus Master Enable set, and a virtual
one enabled. -/
def State.mayDma (s : State) (fn : Nat) : Bool :=
  let x := s.fn fn
  s.portUp (portOf fn) && x.bme && !x.d3hot && !x.flr
    && decide (fn % 128 ≤ s.fld (Page.hif (portOf fn)) HIF.LINK_STATUS_NUM_VFS)

/-- A ring works (R89): enabled, its port's DMA_EN set, its function able to issue DMA. -/
def State.ringWorks (s : State) (h ring : Nat) : Bool :=
  s.powered (ringPage h ring) && s.clocked (ringPage h ring) && s.ringFld h ring DMQ.RING_CFG_ENABLE == 1
    && s.flag (Page.hif h) HIF.HIF_CTL_DMA_EN && s.mayDma (ringFn h ring)

/-- HEAD advances past `n` descriptors. -/
def State.advanceHead (s : State) (h ring n : Nat) : State :=
  s.setFld (ringPage h ring) DMQ.RING_HEAD_HEAD ((s.ringHead h ring + n) % s.ringSize h ring) (ringSlot ring)

/-- A ring raises DESC_ERROR or RING_DMA_ERROR: in its DMQ page, whose ERR_RING names the first such ring since the last read, and in
its virtual function's page. -/
def State.ringError (s : State) (h ring src vsrc : Nat) : State :=
  let p := ringPage h ring
  let s1 := s.raise p src
  let s2 := if s1.errHeld.get p false then s1
    else { (s1.setFld p DMQ.ERR_RING_SLOT (ringSlot ring)) with errHeld := s1.errHeld.set p true false }
  if isPF (ringFn h ring) then s2 else s2.raise (Page.vfe (ringFn h ring)) vsrc

/-- A DMA read of a ring failed. -/
def State.ringDmaError (s : State) (h ring : Nat) : State :=
  (s.raise (Page.hif h) HIF.S_DMA_ERROR).ringError h ring DMQ.S_RING_DMA_ERROR VFE.S_RING_DMA_ERROR

/-- A ring that completed descriptors sends its message when none is outstanding (R90); a VECTOR beyond the function's table sends none
(R58). -/
def State.ringMessage (s : State) (h ring : Nat) : State :=
  let fn := ringFn h ring
  let vec := s.ringFld h ring DMQ.RING_CFG_VECTOR
  if s.ringFld h ring DMQ.RING_CFG_INT_ENABLE = 0 ∨ s.ringMsg.get (ringKey h ring) false = true then s
  else
    let s1 := s.pageMsixTo fn vec
    if vec < msixSize fn then { s1 with ringMsg := s1.ringMsg.set (ringKey h ring) true false } else s1

/-- Bytes that a packet DMA ring carries (survey event 19, R570). -/
def State.dmaBytes (s : State) (h ring n : Nat) : State :=
  s.survey 19 { parcel := some (s.ringFld h ring DMQ.RING_CFG_PARCEL), fn := some (ringFn h ring), addr := some ring } n

/-! ## RING_TAIL (R84) -/

/-- The ring of a command, as port and number; a number beyond the last names none. -/
def ringOf (ring : Nat) : Option (Nat × Nat) := if ring / 1024 < 2 ∧ ring % 1024 < 572 then some (ring / 1024, ring % 1024) else none

/-- TAIL takes the value modulo the ring size, and the ring's message is no longer outstanding (R84, R90). -/
def State.writeTail (s : State) (z : AccSize) (h ring : Nat) (data : Word) : State :=
  let v := Word.bits (mergeHalf z (s.reg (ringPage h ring) DMQ.RING_TAIL (ringSlot ring)) data) 0 15
  let s1 := s.setFld (ringPage h ring) DMQ.RING_TAIL_TAIL (v % s.ringSize h ring) (ringSlot ring)
  { s1 with ringMsg := s1.ringMsg.set (ringKey h ring) false false }

/-- A doorbell: through the DMQ page by a physical function, through the alias by the virtual function that owns the ring (R54). -/
def execRingTailWrite (r : Req) (ring : Nat) (data : Word) (s : State) : Result :=
  answer (
    match ringOf ring with
    | none => s
    | some (h, n) =>
      if isPF r.fn then
        s.hostWrite r (ringPage h n) DMQ.RING_TAIL (ringSlot n) false fun s => s.writeTail r.size h n data
      else if ringFn h n = r.fn.val then
        s.ownAccess r (Page.vfe r.fn) (0x2018 + 0x40 * (n - vfRing r.fn)) true false fun s =>
          (s.writeTail r.size h n data).survey 17 { fn := some r.fn.val, addr := none }
      else s)

/-! ## Receive rings (R85 to R89) -/

/-- Buffer address and length of a descriptor. -/
def bufAddr (d : List Byte) : Nat := leAt d 0 8
def bufLen (d : List Byte) : Nat := leAt d 8 2

/-- The shortest run of descriptors that holds `n` bytes, with the bytes that each holds; none where they are too few. -/
def spreadOver : Nat → List (List Byte) → Option (List (List Byte × Nat))
  | 0, _ => some []
  | _ + 1, [] => none
  | n + 1, d :: l =>
    let k := Nat.min (bufLen d) (n + 1)
    (spreadOver (n + 1 - k) l).map (fun x => (d, k) :: x)

/-- A completed receive descriptor (R85): `free`: its ERR flag, whose meaning no rule gives. -/
def rxDone (d : List Byte) (c : HostCopy) (n : Nat) (sop eop err : Bool) : List Byte :=
  (fit 32 d).take 10 ++ leBytes 2 n ++ leBytes 1 (1 + 2 * b2n sop + 4 * b2n eop + 8 * b2n err) ++ leBytes 1 c.reason ++ leBytes 2 c.lp
    ++ leBytes 2 (c.parcel % 4096) ++ leBytes 1 c.tc ++ zeros 1 ++ leBytes 4 (datumNs c.ts) ++ leBytes 4 (datumSec c.ts) ++ zeros 4

/-- Data and then descriptor of each buffer (R86), from descriptor `i` counted from HEAD and byte `off` of the copy. -/
def State.writeBuffers (s : State) (h ring : Nat) (c : HostCopy) (i off : Nat) : List (List Byte × Nat) → State
  | [] => s
  | (d, k) :: l =>
    let s1 := s.emit (.hostWrite (ringFn h ring) (bufAddr d) ((c.bytes.drop off).take k))
    let s2 := s1.emit (.hostWrite (ringFn h ring) (s.descAddr h ring i) (rxDone d c k (i == 0) l.isEmpty (Nat.bitAt s.free 0)))
    s2.drawn.writeBuffers h ring c (i + 1) (off + k) l

/-- The copy is dropped and counted. -/
def State.dropCopy (s : State) (h ring : Nat) (c : HostCopy) : State := (s.ringDrop h ring).releaseDma c.chain

/-- The oldest copy for a ring is written to it (R86), or dropped (R87, R89). `posted`: the descriptors from HEAD as the N768 reads
them; `readOk`: that read succeeds. -/
def State.deliver (s : State) (h ring : Nat) (c : HostCopy) (posted : List (List Byte)) (readOk : Bool) : State :=
  if !s.ringWorks h ring || s.ringFld h ring DMQ.RING_CFG_DIR == 1 then s.dropCopy h ring c
  else if !readOk then (s.ringDmaError h ring).dropCopy h ring c
  else match spreadOver c.bytes.length (posted.take (s.ringPosted h ring)) with
    | none => ((s.dropCopy h ring c).count (Page.hif h) HIF.RING_FULL_DROP 1 c.reason).raise (Page.hif h) HIF.S_RING_FULL
    | some l =>
      let s1 := (s.writeBuffers h ring c 0 0 l).advanceHead h ring l.length
      let s2 := (s1.count (ringPage h ring) DMQ.RING_PKTS 1 (ringSlot ring)).dmaBytes h ring c.bytes.length
      (s2.ringMessage h ring).releaseDma c.chain

def execRxRingDelivery (ring : Nat) (posted : List (List Byte)) (readOk : Bool) (s : State) : Result :=
  answer (
    match ringOf ring, s.hostCopies.find? (fun c => c.ring == ring) with
    | some (h, n), some c => ({ s with hostCopies := s.hostCopies.erase c } : State).deliver h n c posted readOk
    | _, _ => s)

/-! ## Transmit rings (R85, R88, R94) -/

/-- A packet of parcel `p` from a ring for unicast queue 16 × `lp` + QUEUE (R88): it meets no ingress station. -/
def State.injectEgress (s : State) (h ring lp p : Nat) (bytes : List Byte) : State :=
  let q := s.ringFld h ring DMQ.RING_CFG_QUEUE
  let s1 := (s.parcelCount p 0 1).parcelCount p 8 (bytes.length + 4)
  if s1.parcelValid p then
    s1.newPkt { stage := .admission, bytes := bytes, lp := 0x3FF, ring := some (ringKey h ring), parcel := p, fwdKind := 0, fwdIndex := lp,
                direct := true, tc := q, grp := lp / 32, trav := lp / 32, ord := s1.nextPkt,
                phv := Tab.set [] 180 (BitVec.ofNat 48 (p * 2 ^ 36 + q * 2 ^ 32 + 0x3FF * 2 ^ 22)) 0 }
  else s1.parcelCount p 0x020 1

/-- A packet from a ring for the parser of traverse INGRESS_T, or of T24 in its place. -/
def State.injectIngress (s : State) (h ring p : Nat) (bytes : List Byte) : State :=
  s.newPkt { stage := .parse, bytes := bytes, lp := 0x3FF, ring := some (ringKey h ring), parcel := p, ts := s.wNow,
             grp := s.ringFld h ring DMQ.RING_CFG_INGRESS_T, ord := s.nextPkt }

/-- A transmit descriptor completes with status `reason`: written back, HEAD advances. -/
def State.txDone (s : State) (h ring : Nat) (d : List Byte) (reason : Nat) : State :=
  let l := overwrite (overwrite (fit 32 d) 12 [BitVec.ofNat 8 (Nat.lor (byteAt d 12) 1)]) 13 (leBytes 1 reason)
  ((s.emit (.hostWrite (ringFn h ring) (s.descAddr h ring 0) l)).advanceHead h ring 1).ringMessage h ring

def State.setPart (s : State) (h ring : Nat) (x : TxPart) : State :=
  { s with txParts := s.txParts.set (ringKey h ring) x dflt.txPart }

/-- The ring's packet stands complete after its last descriptor, with `x` what was read: injected or not; its status. -/
def State.txPacket (s : State) (h ring : Nat) (x : TxPart) (bound : Bool) : State × Nat :=
  let p := s.ringFld h ring DMQ.RING_CFG_PARCEL
  let fn := ringFn h ring
  let done (s : State) : State := s.count (ringPage h ring) DMQ.RING_PKTS 1 (ringSlot ring)
  if x.bad then (s, 2)
  else if !bound then (s, 1)
  else if !isPF fn || x.lp == 0xFFFF then (done (s.injectIngress h ring p x.bytes), 0)
  else if x.lp < 768 then (done (s.injectEgress h ring x.lp p x.bytes), 0)
  else (s.drawn, s.free % 256)

/-- A descriptor in good order: `x` is what the packet's earlier descriptors gave. -/
def State.txTake (s : State) (h ring : Nat) (d data : List Byte) (met : DmaMet) (x : TxPart) : State :=
  let flags := byteAt d 12
  let fn := ringFn h ring
  let bound := isPF fn || s.boundTo fn (s.ringFld h ring DMQ.RING_CFG_PARCEL)
  let n := bufLen d
  let s0 := if met = .data then s.ringDmaError h ring else s.dmaBytes h ring n
  let y : TxPart :=
    { begun := true, lp := if x.begun then x.lp else leAt d 14 2, bad := x.bad || met == .data, bytes := x.bytes ++ fit n data }
  if Nat.bitAt flags 2 then
    let z := (s0.setPart h ring dflt.txPart).txPacket h ring y bound
    z.1.txDone h ring d z.2
  else (s0.setPart h ring y).txDone h ring d (if met = .data then 2 else if bound then 0 else 1)

/-- The N768 takes the descriptor at HEAD of a transmit ring. `desc`, `data`: the descriptor and packet data in host memory; `met`:
which read fails. A descriptor with BUF_LEN 0, or SOP and EOP out of order, is completed with a status that the spec does not give, and
the packet that it belongs to is not sent. -/
def execTxDescriptor (ring : Nat) (desc data : List Byte) (met : DmaMet) (s : State) : Result :=
  answer (
    match ringOf ring with
    | none => s
    | some (h, n) =>
      if !s.ringWorks h n || s.ringFld h n DMQ.RING_CFG_DIR == 0 || s.ringPosted h n == 0 then s
      else if met = .descriptor then s.ringDmaError h n
      else
        let d := fit 32 desc
        let x := s.txParts.get (ringKey h n) dflt.txPart
        let sop := Nat.bitAt (byteAt d 12) 1
        if bufLen d = 0 ∨ sop = x.begun then
          ((((s.ringError h n DMQ.S_DESC_ERROR VFE.S_DESC_ERROR).setPart h n dflt.txPart)).txDone h n d (s.free % 256)).drawn
        else s.txTake h n d data met x)

/-! ## Command rings of virtual functions (R112 to R115) -/

/-- Check 2 of R114: the parcel is in a binding slot that PARCEL_MASK admits. -/
def State.cmdBound (s : State) (fn c par : Nat) : Bool :=
  par != 0 && (List.range 12).any (fun i =>
    Nat.bitAt (s.fld (Page.vfe fn) VFE.CMD_CFG_PARCEL_MASK c) i && (s.bindings.get fn dflt.binding).getD i 0 == par)

/-- An index that a command by INDEX names holds an entry of a parcel that passes check 2. -/
def State.cmdOwns (s : State) (fn c t tb i : Nat) : Bool :=
  match (s.tableCommand t 1 tb i [] none).data with
  | some l => Word.bit (l.getD 0 0) 47 && s.cmdBound fn c (Word.bits (l.getD 0 0) 35 12)
  | none => true

/-- The index of a DIRECT table that an INSERT names holds an entry of a parcel that does not pass check 2 (R398, R412). -/
def State.directForeign (s : State) (fn c t tb : Nat) (l : List Word) : Bool :=
  let d := s.desc t tb
  let o := s.tent t tb (unstage d l).1.key
  d.type == 4 && o.valid && !s.cmdBound fn c o.parcel

/-- A tenant's command in traverse `t`, after checks 1 and 2 (R114, R115, R412): `l` its data words, whose parcel is the command's. -/
def State.tenantIn (s : State) (fn c t op tb i par : Nat) (l : List Word) : CmdRes :=
  let d := s.desc t tb
  if !s.reached t then ⟨s, 7, none, none⟩
  else
    let x : CmdRes :=
      if !d.tenant then ⟨s, 4, none, none⟩
      else if op ≤ 2 ∧ ¬ s.cmdOwns fn c t tb i then ⟨s, 1, none, none⟩
      else if op = 3 ∧ s.directForeign fn c t tb l then ⟨s, 1, none, none⟩
      else s.tableCommand t op tb i l (some par)
    let p := Page.tbc t
    let s1 := x.state.count p TBC.C_CMDS_DONE
    let s2 := if x.status = 0 then s1 else s1.count p TBC.C_CMD_ERRORS
    { x with state := s2.raiseIf (x.status == 5) p TBC.S_CMD_ERROR }

/-- The traverses that TARGET names: one, or all; a broadcast to an HBM table is carried out once (R405). -/
def State.tenantTargets (s : State) (target tb : Nat) : List Nat :=
  if target < 25 then [target]
  else
    let l := (List.range 25).filter s.reached
    match l with
    | [] => List.range 25
    | t :: _ => if (s.desc t tb).type = 5 then [t] else List.range 25

/-- The command of descriptor `d`, up to its status and the words it returns. -/
def State.tenantRun (s : State) (fn c : Nat) (d : List Byte) : State × Nat × Option (List Word) :=
  let op := leAt d 0 2
  let target := byteAt d 2
  let tb := leAt d 4 2
  let par := leAt d 6 2 % 4096
  let len := byteAt d 13
  if op = 0 ∨ 0x0A < op ∨ (25 ≤ target ∧ target ≠ 0xFF) ∨ len = 0 ∨ 16 < len ∨ 1024 ≤ tb then (s, 5, none)
  else if !s.cmdBound fn c par then (s.raise (Page.vfe fn) VFE.S_PARCEL_CHECK, 2, none)
  else
    let words := (List.range len).map (fun j => BitVec.ofNat 48 (leAt d (32 + 6 * j) 6))
    let l := Word.setBits (words.getD 0 0) 35 12 par :: words.drop 1
    (s.tenantTargets target tb).foldl (fun (a : State × Nat × Option (List Word)) (t : Nat) =>
      let x := a.1.tenantIn fn c t op tb (leAt d 8 4) par l
      (x.state, Nat.max a.2.1 x.status, a.2.2.orElse (fun _ => x.data))) (s, 0, none)

/-- Data, then STATUS and DONE in one write, then CMD_HEAD (R114); the counters of ring and parcel (R116). -/
def State.tenantDone (s : State) (fn c : Nat) (d : List Byte) (status : Nat) (words : Option (List Word)) : State :=
  let p := Page.vfe fn
  let head := s.fld p VFE.CMD_HEAD_INDEX c % s.cmdRingSize fn c
  let at_ := s.fld p VFE.CMD_BASE_ADDR c * 4096 + 128 * head
  let par := leAt d 6 2 % 4096
  let s1 := match words with
    | some l => if status = 0 then s.emit (.hostWrite fn (at_ + 32) ((l.take 16).flatMap (fun (w : Word) => leBytes 6 w.toNat))) else s
    | none => s
  let l := overwrite (overwrite (d.take 32) 3 [1]) 12 (leBytes 1 status)
  let s2 := (s1.emit (.hostWrite fn at_ l)).setFld p VFE.CMD_HEAD_INDEX ((head + 1) % s.cmdRingSize fn c) c
  let s3 := s2.count p VFE.CMD_DONE 1 c
  let s4 := if 2 ≤ status ∧ status ≤ 4 then (s3.count p VFE.CMD_REFUSED 1 c).parcelCount par 0x058 1 else s3
  s4.survey 16 { parcel := some par, fn := some fn, addr := some (leAt d 4 2) }

/-- The descriptor at CMD_HEAD of command ring `c` of virtual function `fn`, as read from host memory; none where that read fails. -/
def execTenantCommandDescriptor (fn : Fin 256) (c : Fin 4) (desc : Option (List Byte)) (s : State) : Result :=
  answer (
    let p := Page.vfe fn
    let size := s.cmdRingSize fn c
    if isPF fn || !s.mayDma fn || !s.flag p VFE.CMD_CFG_ENABLE c
        || s.fld p VFE.CMD_HEAD_INDEX c % size == s.fld p VFE.CMD_TAIL_INDEX c % size then s
    else match desc with
      | none => s.raise (Page.hif (portOf fn)) HIF.S_DMA_ERROR
      | some d =>
        let x := s.tenantRun fn c (fit 128 d)
        x.1.tenantDone fn c (fit 128 d) x.2.1 x.2.2)

end Sys2Proof.Machine
end

