-- ==== Sys2Proof/Machine/Schedule.lean ====
section
/-!
DEFINITION. Sys2Proof/Machine/Schedule.lean: the scheduler, ageing, launch and refill requests, and the settings of the traffic
manager (15_traffic_manager.md, 17_datum.md).
Readings and choices (notes/assumptions): DEDUCED 60; DESIGN CHOICE 67.
-/
namespace Sys2Proof.Machine

/-! ## Deficit weighted round robin (R487) -/

/-- A member of a level that may be chosen: its key in `sched`, PRIO, WEIGHT, and the bytes of its head frame. -/
structure Member where
  key    : Nat
  prio   : Nat
  weight : Nat
  len    : Nat
deriving DecidableEq, Repr

def State.deficit (s : State) (k : Nat) : Nat := (s.schedOf k).deficit
def State.setDeficit (s : State) (k v : Nat) : State := s.setSched k { s.schedOf k with deficit := v }

/-- The quantum of a member. -/
def Member.quantum (m : Member) : Nat := Nat.max 1 m.weight * 256

/-- The member at place `i` has the turn: it sends while its head frame fits its deficit, else the turn passes on and the next member
adds its quantum. -/
def State.takeTurn (s : State) (l : List Member) (fuel i : Nat) : Option (Member × State) :=
  match fuel with
  | 0 => none
  | fuel + 1 =>
    match l[i]? with
    | none => none
    | some m =>
      if m.len ≤ s.deficit m.key then some (m, s)
      else
        let j := (i + 1) % l.length
        match l[j]? with
        | none => none
        | some k => (s.setDeficit k.key (s.deficit k.key + k.quantum)).takeTurn l fuel j

/-- The choice among the eligible members of `parent`: the highest PRIO, and there the member whose turn it is. A member that is not
eligible has no deficit. -/
def State.chooseMember (s : State) (parent : Nat) (mine : Nat → Bool) (l : List Member) : Option (Member × State) :=
  let lost := (s.sched.filter (fun (e : Nat × Sched) => mine e.1 && e.2.deficit != 0 && !l.any (fun m => m.key == e.1))).map (·.1)
  let s1 := lost.foldl (fun (s : State) (k : Nat) => s.setDeficit k 0) s
  let prio := (l.map (·.prio)).foldl Nat.min 7
  let best := l.filter (fun m => m.prio == prio)
  let turn := s1.turns.get (8 * parent + prio) 0
  let at_ := best.findIdx (fun m => m.key + 1 == turn)
  let go := if at_ < best.length then s1.takeTurn best (70 * best.length + 2) at_
    else
      let i := best.findIdx (fun m => decide (turn < m.key + 1)) % Nat.max 1 best.length
      match best[i]? with
      | none => none
      | some m => (s1.setDeficit m.key (s1.deficit m.key + m.quantum)).takeTurn best (70 * best.length + 2) i
  go.map (fun e => (e.1, { e.2 with turns := e.2.turns.set (8 * parent + prio) (e.1.key + 1) 0 }))

/-! ## The tree of a port (R486) -/

/-- A frame's length to the scheduler and the shapers. -/
def State.shapedLen (s : State) (lp id : Nat) : Nat := (s.pkt id).frameLen + s.fld (Page.tmw lp) TMW.LP_TM_CFG_SHAPE_ADJ

/-- The queue is eligible. -/
def State.qEligible (s : State) (n : Nat) : Bool :=
  match s.headOf n with
  | none => false
  | some id => s.linkUp (s.qLp n) && s.pstate (s.qLp n) == 3 && !s.qPaused n && s.shaperOpen (qKey n) (s.qWord n 2)
    && s.launchOk n (s.pkt id)

/-- The eligible queues of a port, rising. -/
def State.eligibleQueues (s : State) (lp : Nat) : List Nat :=
  ((s.queues.filter (fun (e : Nat × Queue) => e.2.busy)).map (·.1)).filter (fun n => s.qLp n == lp && s.qEligible n)

def State.qMember (s : State) (lp n : Nat) : Member :=
  let w := s.qWord n 0
  { key := qKey n, prio := Word.bits w 29 3, weight := Word.bits w 21 8, len := s.shapedLen lp ((s.headOf n).getD 0) }

/-- The choice within node `m`: a queue of the list, and the state with the turns and deficits of that choice. -/
def State.chooseQueue (s : State) (lp m : Nat) (l : List Nat) : Option (Member × State) :=
  s.chooseMember (2 ^ 17 + m) (fun k => decide (65536 ≤ k) && s.qNode (k - 65536) == m) (l.map (s.qMember lp))

/-- The scheduler's choice for a port: queue, node, and the state with turns and deficits. -/
def State.chooseFrame (s : State) (lp : Nat) : Option (Nat × Nat × State) :=
  let l := s.eligibleQueues lp
  let nodes := ((l.map s.qNode).eraseDups).filter (fun m => s.shaperOpen m (s.nodeWord m 1))
  let pick (m : Nat) : Option (Member × State) := s.chooseQueue lp m (l.filter (fun n => s.qNode n == m))
  let members := (nodes.mergeSort (fun a b => decide (a ≤ b))).filterMap (fun m =>
    (pick m).map (fun e =>
      let w := s.nodeWord m 0
      ({ key := m, prio := Word.bits w 22 3, weight := Word.bits w 14 8, len := e.1.len } : Member)))
  match s.chooseMember lp (fun k => decide (k < 65536) && nodeLp (s.nodeWord k 0) == lp) members with
  | none => none
  | some (m, s1) => (s1.chooseQueue lp m.key (l.filter (fun n => s.qNode n == m.key))).map (fun e => (e.1.key - 65536, m.key, e.2))

/-! ## Ageing and late frames (R496, R497, R556) -/

/-- The frame is older than its queue's limit. -/
def State.tooOld (s : State) (n : Nat) (x : Pkt) : Bool :=
  let us := Nat.min 4000000 (Word.bits (s.qWord n 4) 0 22)
  us != 0 && decide (us * 1000 * nsUnits < s.wNow - x.ts)

/-- The frame is late. -/
def State.late (s : State) (n : Nat) (x : Pkt) : Bool :=
  s.launchEn n && (match x.launch with
    | some t => decide (t + (s.fld Page.dtm DTM.LAUNCH_CFG_LATE_TOL * nsUnits : Nat) < (s.wNow : Int))
    | none => false)

/-- Refill staging of a queue: chunks whose frames have all left. -/
def emptiedRefill (l : List (List Nat)) : List (List Nat) := l.dropWhile (fun c => c.isEmpty)

/-- The head frame of queue `n` leaves it. -/
def State.popHead (s : State) (n : Nat) : State :=
  let q := s.queue n
  match q.ready with
  | [] => s
  | id :: l =>
    if q.refill.any (fun c => c.contains id) then
      let r := emptiedRefill (q.refill.map (fun c => c.filter (fun i => i != id)))
      ((s.setQueue n { q with ready := l, refill := r }).setRefillFill (s.refillFill - (q.refill.length - r.length))).panicFollow
    else s.setQueue n { q with ready := l, cells := q.cells - s.cellsOf id }

/-- The head frame of queue `n` is discarded for its age, or as a late one. -/
def State.discardHead (s : State) (n id : Nat) (aged : Bool) : State :=
  let x := s.pkt id
  let a : EvAttr := { parcel := some x.parcel, tc := some x.tc, addr := some n }
  let s1 := if aged then (s.qCount n 3 1).survey 7 a
    else (s.count Page.dtm DTM.C_LAUNCH_LATE_DROPS).raise Page.dtm DTM.S_LAUNCH_LATE
  ((((s1.popHead n).stampLost id).dropPkt id).askRefill n).qFollow n

/-- Head frames that are too old leave, one after the other. -/
def State.ageQueue (s : State) (fuel n : Nat) : State :=
  match fuel with
  | 0 => s
  | fuel + 1 =>
    match s.headOf n with
    | none => s
    | some id => if s.tooOld n (s.pkt id) then (s.discardHead n id true).ageQueue fuel n else s

/-- AGEING_VISIT of a queue. -/
def execAgeingVisit (n : Fin 16384) (s : State) : Result := answer (s.ageQueue s.pkts.length n)

/-! ## DEQUEUE (R487, R343) -/

/-- Queue `n` and its node `m` lose their deficits where they are empty or not eligible any more (R487). -/
def State.restTurns (s : State) (lp n m : Nat) : State :=
  let s1 := if s.qEligible n then s else s.setDeficit (qKey n) 0
  if s1.shaperOpen m (s1.nodeWord m 1) && (s1.eligibleQueues lp).any (fun k => s1.qNode k == m) then s1 else s1.setDeficit m 0

/-- The head of queue `n` passes to the egress path of traverse `t`. -/
def State.releaseFrame (s : State) (lp n m t id : Nat) : State :=
  let len := s.shapedLen lp id
  let x := s.pkt id
  let s1 := (s.setDeficit (qKey n) (s.deficit (qKey n) - len)).setDeficit m (s.deficit m - len)
  let s2 := (s1.takeTokens (qKey n) (s1.qWord n 2) len).takeTokens m (s1.nodeWord m 1) len
  let s3 := (((s2.popHead n).qCount n 0 1).qCount n 1 x.frameLen)
  let s4 := s3.restTurns lp n m
  let y := (x.setWord 186 (BitVec.ofNat 48 (lp * 2 ^ 10 + x.kind * 2 ^ 8)))
  ((s4.tick.setPkt id { y with stage := .station 12, trav := t, ord := s4.nextPkt, outLp := lp, qCells := (s.queue n).cells }).askRefill n).qFollow n

/-- The scheduler chooses until a frame is released or none is left; a frame discarded takes no turn and no tokens. -/
def State.dequeue (s : State) (fuel lp t : Nat) : State :=
  match fuel with
  | 0 => s
  | fuel + 1 =>
    match s.chooseFrame lp with
    | none => s
    | some (n, m, s1) =>
      match s.headOf n with
      | none => s
      | some id =>
        let x := s.pkt id
        if s.tooOld n x then (s.discardHead n id true).dequeue fuel lp t
        else if s.late n x then
          (if s.flag Page.dtm DTM.LAUNCH_CFG_LATE_DROP then (s.discardHead n id false).dequeue fuel lp t
           else ((s1.releaseFrame lp n m t id).count Page.dtm DTM.C_LAUNCH_LATE_SENT).raise Page.dtm DTM.S_LAUNCH_LATE)
        else s1.releaseFrame lp n m t id

/-- DEQUEUE of a port, whose group some traverse serves. -/
def execDequeue (lp : Fin 768) (s : State) : Result :=
  answer (match s.servedBy (lp / 32) with
    | some t => if s.tmRuns && s.inService (Page.tmw lp) then s.dequeue (s.pkts.length + 1) lp t else s
    | none => s)

/-! ## Settings of nodes and queues (R485, R489, R508) -/

/-- Node `m` is valid and serves port `lp`. -/
def State.nodeServes (s : State) (m lp : Nat) : Bool := nodeValid (s.nodeWord m 0) && nodeLp (s.nodeWord m 0) == lp

/-- A queue names node `m`. -/
def State.nodeNamed (s : State) (m : Nat) : Bool :=
  let lp := nodeLp (s.nodeWord m 0)
  (List.range 16).any (fun q => decide (lp < 768) && s.qNode (16 * lp + q) == m)
    || (List.range 4).any (fun i => decide (lp < 768) && s.qValid (12288 + 4 * lp + i) && s.qNode (12288 + 4 * lp + i) == m)
    || s.ents.any (fun e => e.1 / 2 ^ 32 == spMq * 2 ^ 16 && Word.bit (e.2.getD 0 0) 47 && Word.bits (e.2.getD 1 0) 32 16 == m)

/-- Valid nodes of a parcel (R99, R489). -/
def State.nodesOf (s : State) (p : Nat) : Nat :=
  let l := s.ents.filter (fun e => e.1 / 2 ^ 32 == spNode * 2 ^ 16)
  (if p = 0 then 768 - (l.filter (fun e => decide (e.1 % 2 ^ 32 < 768))).length else 0)
    + (l.filter (fun e => nodeValid (e.2.getD 0 0) && nodeParcel (e.2.getD 0 0) == p)).length

/-- A NODE write: the state and the code. -/
def State.writeNode (s : State) (m : Nat) (d : List Word) : State × Nat :=
  let w := keep 0xFFFFFFFFC000 (d.getD 0 0)
  let v := keep 0xFFFFFFFFF800 (d.getD 1 0)
  let old := s.nodeWord m 0
  let p := nodeParcel w
  let more := nodeValid w && !(nodeValid old && nodeParcel old == p)
  if 768 ≤ nodeLp w ∨ 1600000 < shapeRate v then (s, 6)
  else if s.nodeNamed m && (nodeLp w != nodeLp old || p != nodeParcel old || !nodeValid w) then (s, 8)
  else if more && decide (s.pclFld p PCL.RES_QUOTA_NODES < s.nodesOf p + 1) then
    ((s.quotaHit p).raise Page.tmc TMC.S_NODE_QUOTA, 7)
  else (s.setEnt spNode 0 m [w, v], 0)

/-- The settings of a queue name a node that they may not (R489): `lp` the queue's port, `node` the one named. -/
def State.badNode (s : State) (n lp node : Nat) : Bool :=
  !s.nodeServes node lp || ((s.queue n).busy && node != s.qNode n)

/-- An MQ write. -/
def State.writeMq (s : State) (i : Nat) (d : List Word) : State × Nat :=
  let w := keep 0xFFFFE0000000 (d.getD 0 0)
  let lp := Word.bits w 37 10
  let node := Word.bits (d.getD 1 0) 32 16
  if 768 ≤ lp ∨ 1600000 < shapeRate (d.getD 3 0) then (s, 6)
  else if s.badNode (12288 + i) lp node then (s.raise (Page.tmw lp) TMW.S_CFG_REFUSED, 6)
  else if nodeParcel (s.nodeWord node 0) ≠ 0 then (s, 6)
  else
    (s.setEnt spMq 0 i [w, keep 0xFFFFFFF80000 (d.getD 1 0), keep 0xFFFFFFFFFFFC (d.getD 2 0), keep 0xFFFFFFFFF800 (d.getD 3 0),
      keep 0xFFFFFFFFFFFC (d.getD 4 0), keep 0x3FFFFF (d.getD 5 0), keep 0xFFFFFBFFFFFF (d.getD 6 0)], 0)

/-- Entries of a TMC target, and the space they lie in. -/
def tmcSize (tgt : Nat) : Nat :=
  match tgt with
  | 0 => 65536 | 1 => 4096 | 2 => 6144 | 3 => 16384 | 4 => 131072 | 5 => 256 | _ => 0
def tmcSpace (tgt : Nat) : Nat :=
  match tgt with
  | 0 => spNode | 1 => spMq | 2 => spMqMap | 3 => spGroup | 4 => spMember | _ => spMirror

/-- A write of an entry (R508). -/
def State.tmcWrite (s : State) (tgt i : Nat) (d : List Word) : State × Nat :=
  let w := d.getD 0 0
  let store (l : List Word) : State × Nat := (s.setEnt (tmcSpace tgt) 0 i l, 0)
  match tgt with
  | 0 => s.writeNode i d
  | 1 => s.writeMq i d
  | 2 =>
    let n := 12288 + Word.bits w 0 12
    if s.qValid n && s.qLp n == i / 8 then store [keep 0xFFF w] else (s, 6)
  | 3 => if 768 < Word.bits w 7 10 ∨ 131072 < Word.bits w 17 17 + Word.bits w 7 10 then (s, 6) else store [keep 0xFFFFFFFFFF80 w]
  | 4 => if 768 ≤ Word.bits w 37 10 then (s, 6) else store [keep 0xFFFFFE000000 w]
  | _ => if 768 ≤ Word.bits w 25 10 then (s, 6) else store [keep 0xFFFFFFFFFE00 w]

/-- A read of an entry fills IND_DATA. -/
def State.tmcRead (s : State) (tgt i : Nat) : State × Nat :=
  let l := s.ent (tmcSpace tgt) 0 i
  let v := if tgt = 1 then (List.range 7).map (fun j => l.getD j 0) ++ [s.qStatus (12288 + i)] else l
  (s.fillData Page.tmc TMC.IND_DATA 8 v, 0)

/-- A write of TMC.IND_CMD: a read or a write, as its bit 44 says. -/
def State.tmcCommand (s : State) (r : Req) (data : Word) : State :=
  s.indCommand r Page.tmc TMC.IND_CMD tmcInd fun s =>
    let tgt := Word.bits data 45 3
    let i := Word.bits data 0 17
    let x := if tmcSize tgt = 0 then (s, 1)
      else if tmcSize tgt ≤ i then (s, 2)
      else if Word.bit data 44 then s.tmcWrite tgt i (s.indData Page.tmc TMC.IND_DATA 8)
      else s.tmcRead tgt i
    (x.1, x.2, false)

def execTmcIndRead (r : Req) (data : Word) (s : State) : Result := answer (s.tmcCommand r data)
def execTmcIndWrite (r : Req) (data : Word) (s : State) : Result := answer (s.tmcCommand r data)

/-- Q_CFG of a unicast queue: refused, and CFG_REFUSED set, where it names a node of another port, an invalid one, or another node
while the queue holds a frame. -/
def execQCfgWrite (r : Req) (n : Fin 12288) (data : Word) (s : State) : Result :=
  answer (
    let p := Page.tmw (n / 16)
    s.hostWrite r p TMW.Q_CFG (n % 16) false fun s =>
      let w := keep 0xFFFFFFF80000 (mergeHalf r.size (s.qWord n 0) data)
      if s.badNode n (n / 16) (Word.bits w 32 16) then s.raise p TMW.S_CFG_REFUSED
      else (s.setReg p TMW.Q_CFG w (n % 16)).qFollow n)

/-- PG_CFG of class `c`: refused where XON_CELLS exceeds XOFF_CELLS. -/
def execPgCfgWrite (r : Req) (lp : Fin 768) (c : Fin 8) (data : Word) (s : State) : Result :=
  answer (
    let p := Page.tmw lp
    s.hostWrite r p TMW.PG_CFG c false fun s =>
      let w := keep 0x3FFFFFFFFFF (mergeHalf r.size (s.reg p TMW.PG_CFG c) data)
      if Word.bits w 21 21 < Word.bits w 0 21 then s.raise p TMW.S_CFG_REFUSED else s.setReg p TMW.PG_CFG w c)

def execTmScrub (ecc : EccFound) (s : State) : Result :=
  answer (match ecc with
    | .clean => s
    | .fixed => (s.count Page.tmc TMC.C_SCRUB_FIXED).raise Page.tmc TMC.S_SCRUB_FIXED
    | .lost => s.raise Page.tmc TMC.S_TM_MEM_FAIL)

end Sys2Proof.Machine
end

