-- ==== Sys2Proof/Machine/Dispatch.lean ====
section
/-!
DEFINITION. Sys2Proof/Machine/Dispatch.lean: the effect of every command on everything but the queue, one arm per constructor of Instr.
Readings and choices (notes/assumptions): DEDUCED 81; DESIGN CHOICE 1, 3, 85.
-/
namespace Sys2Proof.Machine

/-- The meaning of a command. -/
def exec (i : Instr) (s : State) : Host.Outcome State Fault Refusal :=
  match i with
  | .registerWrite r at_ data => Sys2Proof.Machine.execRegisterWrite r at_ data s
  | .errAddrRead r h => Sys2Proof.Machine.execErrAddrRead r h s
  | .regTimeout r at_ write => Sys2Proof.Machine.execRegTimeout r at_ write s
  | .unacceptedFunctionRequest fn write => Sys2Proof.Machine.execUnacceptedFunctionRequest fn write s
  | .bulkWindowAccess r n off data ecc => Sys2Proof.Machine.execBulkWindowAccess r n off data ecc s
  | .pageOwnerWrite r page data => Sys2Proof.Machine.execPageOwnerWrite r page data s
  | .pageLockSet r page data => Sys2Proof.Machine.execPageLockSet r page data s
  | .pageEnableWrite r page data => Sys2Proof.Machine.execPageEnableWrite r page data s
  | .testReqWrite r page data => Sys2Proof.Machine.execTestReqWrite r page data s
  | .blockReset r page data wearOk => Sys2Proof.Machine.execBlockReset r page data wearOk s
  | .eventStatusClear r page data => Sys2Proof.Machine.execEventStatusClear r page data s
  | .eventEnableWrite r page data => Sys2Proof.Machine.execEventEnableWrite r page data s
  | .logSnapshot r h data => Sys2Proof.Machine.execLogSnapshot r h data s
  | .vfeLogSnap r data => Sys2Proof.Machine.execVfeLogSnap r data s
  | .selftestRun r page data => Sys2Proof.Machine.execSelftestRun r page data s
  | .selftestComplete page met detail => Sys2Proof.Machine.execSelftestComplete page met detail s
  | .ringTailWrite r ring data => Sys2Proof.Machine.execRingTailWrite r ring data s
  | .rxRingDelivery ring posted readOk => Sys2Proof.Machine.execRxRingDelivery ring posted readOk s
  | .txDescriptor ring desc data met => Sys2Proof.Machine.execTxDescriptor ring desc data met s
  | .functionLevelReset fn => Sys2Proof.Machine.execFunctionLevelReset fn s
  | .hostLinkDown h => Sys2Proof.Machine.execHostLinkDown h s
  | .hostPowerState fn mse bme d3hot => Sys2Proof.Machine.execHostPowerState fn mse bme d3hot s
  | .perstAssert h => Sys2Proof.Machine.execPerstAssert h s
  | .perstDeassert h => Sys2Proof.Machine.execPerstDeassert h s
  | .bufQuotaWrite r p data => Sys2Proof.Machine.execBufQuotaWrite r p data s
  | .parcelCfgWrite r p data => Sys2Proof.Machine.execParcelCfgWrite r p data s
  | .rateQuotaWrite r p data => Sys2Proof.Machine.execRateQuotaWrite r p data s
  | .quotaProfileRead r index => Sys2Proof.Machine.execQuotaProfileRead r index s
  | .quotaProfileWrite r index => Sys2Proof.Machine.execQuotaProfileWrite r index s
  | .functionBindingRead r index => Sys2Proof.Machine.execFunctionBindingRead r index s
  | .functionBindingWrite r index => Sys2Proof.Machine.execFunctionBindingWrite r index s
  | .easementRead r index => Sys2Proof.Machine.execEasementRead r index s
  | .easementWrite r index => Sys2Proof.Machine.execEasementWrite r index s
  | .pageWindowRead r index => Sys2Proof.Machine.execPageWindowRead r index s
  | .pageWindowWrite r index => Sys2Proof.Machine.execPageWindowWrite r index s
  | .cmdTailWrite r c data => Sys2Proof.Machine.execCmdTailWrite r c data s
  | .tenantCommandDescriptor fn c desc => Sys2Proof.Machine.execTenantCommandDescriptor fn c desc s
  | .presenceDebounced n seated => Sys2Proof.Machine.execPresenceDebounced n seated s
  | .identityRead n ident adj wear => Sys2Proof.Machine.execIdentityRead n ident adj wear s
  | .lmEnRise n => Sys2Proof.Machine.execLmEnRise n s
  | .interlockOpen n wearOk => Sys2Proof.Machine.execInterlockOpen n wearOk s
  | .warmingDone n => Sys2Proof.Machine.execWarmingDone n s
  | .warmingTimeout n late => Sys2Proof.Machine.execWarmingTimeout n late s
  | .feedChoice k => Sys2Proof.Machine.execFeedChoice k s
  | .wearSample n sample => Sys2Proof.Machine.execWearSample n sample s
  | .wearRecordPeriodic n wearOk => Sys2Proof.Machine.execWearRecordPeriodic n wearOk s
  | .lmpSave r n data wearOk => Sys2Proof.Machine.execLmpSave r n data wearOk s
  | .lmpEnableWrite r n data wearOk => Sys2Proof.Machine.execLmpEnableWrite r n data wearOk s
  | .feedFailure n w => Sys2Proof.Machine.execFeedFailure n w s
  | .lmFaultAssert n => Sys2Proof.Machine.execLmFaultAssert n s
  | .feedSwitch k w wearOk => Sys2Proof.Machine.execFeedSwitch k w wearOk s
  | .standbyClosureRun n w first second biasOk => Sys2Proof.Machine.execStandbyClosureRun n w first second biasOk s
  | .lmpTake r n data => Sys2Proof.Machine.execLmpTake r n data s
  | .lmpSwapReq r n data wearOk => Sys2Proof.Machine.execLmpSwapReq r n data wearOk s
  | .swapRetry n wearOk => Sys2Proof.Machine.execSwapRetry n wearOk s
  | .lmpRetry r n data found => Sys2Proof.Machine.execLmpRetry r n data found s
  | .moduleMemRead r n data => Sys2Proof.Machine.execModuleMemRead r n data s
  | .moduleMemWrite r n data => Sys2Proof.Machine.execModuleMemWrite r n data s
  | .mgbTransaction b pos met => Sys2Proof.Machine.execMgbTransaction b pos met s
  | .mgbRecover b why found => Sys2Proof.Machine.execMgbRecover b why found s
  | .fauPresenceChange k present => Sys2Proof.Machine.execFauPresenceChange k present s
  | .opticalSignalDetect l power => Sys2Proof.Machine.execOpticalSignalDetect l power s
  | .ringHoldUpdate l => Sys2Proof.Machine.execRingHoldUpdate l s
  | .ringLockFound l code => Sys2Proof.Machine.execRingLockFound l code s
  | .ringSeekTimeout l => Sys2Proof.Machine.execRingSeekTimeout l s
  | .ringLimit l top => Sys2Proof.Machine.execRingLimit l top s
  | .ringLimitRelease l => Sys2Proof.Machine.execRingLimitRelease l s
  | .ringUnlock l => Sys2Proof.Machine.execRingUnlock l s
  | .ringFreeze l => Sys2Proof.Machine.execRingFreeze l s
  | .ringUnfreeze l => Sys2Proof.Machine.execRingUnfreeze l s
  | .frozenHoldExpiry l => Sys2Proof.Machine.execFrozenHoldExpiry l s
  | .calSave k why => Sys2Proof.Machine.execCalSave k why s
  | .calWriteDone k met => Sys2Proof.Machine.execCalWriteDone k met s
  | .losHoldExpiry l => Sys2Proof.Machine.execLosHoldExpiry l s
  | .moveReqRepeat lp => Sys2Proof.Machine.execMoveReqRepeat lp s
  | .moveAckTimeout lp => Sys2Proof.Machine.execMoveAckTimeout lp s
  | .moveReq lp msg => Sys2Proof.Machine.execMoveReq lp msg s
  | .moveAck lp msg => Sys2Proof.Machine.execMoveAck lp msg s
  | .restoreReq lp msg => Sys2Proof.Machine.execRestoreReq lp msg s
  | .restoreAck lp msg => Sys2Proof.Machine.execRestoreAck lp msg s
  | .spareRestore r k data => Sys2Proof.Machine.execSpareRestore r k data s
  | .tapClosureRun l first second => Sys2Proof.Machine.execTapClosureRun l first second s
  | .tapSelWrite r k data => Sys2Proof.Machine.execTapSelWrite r k data s
  | .txPowerLow l power => Sys2Proof.Machine.execTxPowerLow l power s
  | .detectPoll l present => Sys2Proof.Machine.execDetectPoll l present s
  | .backoffExpiry l present => Sys2Proof.Machine.execBackoffExpiry l present s
  | .trainStart l => Sys2Proof.Machine.execTrainStart l s
  | .autonegComplete l rate => Sys2Proof.Machine.execAutonegComplete l rate s
  | .trainingFrame l control status adapted => Sys2Proof.Machine.execTrainingFrame l control status adapted s
  | .trainComplete l => Sys2Proof.Machine.execTrainComplete l s
  | .trainTimeout l => Sys2Proof.Machine.execTrainTimeout l s
  | .lockGained l => Sys2Proof.Machine.execLockGained l s
  | .lockLost l => Sys2Proof.Machine.execLockLost l s
  | .lockTimeout l => Sys2Proof.Machine.execLockTimeout l s
  | .portLockTimeout lp => Sys2Proof.Machine.execPortLockTimeout lp s
  | .tieIn l msg => Sys2Proof.Machine.execTieIn l msg s
  | .tieinSend l => Sys2Proof.Machine.execTieinSend l s
  | .tieinTimeout lp => Sys2Proof.Machine.execTieinTimeout lp s
  | .pcsLinkUp lp => Sys2Proof.Machine.execPcsLinkUp lp s
  | .signalDetectChange l millivolts => Sys2Proof.Machine.execSignalDetectChange l millivolts s
  | .laneLoss l => Sys2Proof.Machine.execLaneLoss l s
  | .berWindowClose l corrected received => Sys2Proof.Machine.execBerWindowClose l corrected received s
  | .txEqWrite r l data => Sys2Proof.Machine.execTxEqWrite r l data s
  | .patCtlWrite r l data => Sys2Proof.Machine.execPatCtlWrite r l data s
  | .patLockLost l bits errors => Sys2Proof.Machine.execPatLockLost l bits errors s
  | .injFire r l data => Sys2Proof.Machine.execInjFire r l data s
  | .mwExec q d => Sys2Proof.Machine.execMwExec q d s
  | .mwBranch q => Sys2Proof.Machine.execMwBranch q s
  | .mwWait q => Sys2Proof.Machine.execMwWait q s
  | .waitConditionMet n t conds => Sys2Proof.Machine.execWaitConditionMet n t conds s
  | .waitTimeout n t => Sys2Proof.Machine.execWaitTimeout n t s
  | .ctrlJump q => Sys2Proof.Machine.execCtrlJump q s
  | .ctrlCall q => Sys2Proof.Machine.execCtrlCall q s
  | .ctrlReturn q popBad => Sys2Proof.Machine.execCtrlReturn q popBad s
  | .ctrlRett q => Sys2Proof.Machine.execCtrlRett q s
  | .ctrlTrap q => Sys2Proof.Machine.execCtrlTrap q s
  | .ctrlKick q => Sys2Proof.Machine.execCtrlKick q s
  | .ctrlSig q => Sys2Proof.Machine.execCtrlSig q s
  | .ctrlClr q => Sys2Proof.Machine.execCtrlClr q s
  | .ctrlStkclr q => Sys2Proof.Machine.execCtrlStkclr q s
  | .ctrlVert q => Sys2Proof.Machine.execCtrlVert q s
  | .ctrlHalt q => Sys2Proof.Machine.execCtrlHalt q s
  | .vNop q => Sys2Proof.Machine.execVNop q s
  | .vLdi q => Sys2Proof.Machine.execVLdi q s
  | .vAlu q => Sys2Proof.Machine.execVAlu q s
  | .vLrd q => Sys2Proof.Machine.execVLrd q s
  | .vLwr q => Sys2Proof.Machine.execVLwr q s
  | .vJmp q => Sys2Proof.Machine.execVJmp q s
  | .vBrc q => Sys2Proof.Machine.execVBrc q s
  | .vWaitv q => Sys2Proof.Machine.execVWaitv q s
  | .vCallv q => Sys2Proof.Machine.execVCallv q s
  | .vRetv q popBad => Sys2Proof.Machine.execVRetv q popBad s
  | .vEnter q => Sys2Proof.Machine.execVEnter q s
  | .vEvt q => Sys2Proof.Machine.execVEvt q s
  | .vRestart q => Sys2Proof.Machine.execVRestart q s
  | .vExt q => Sys2Proof.Machine.execVExt q s
  | .vTest q result => Sys2Proof.Machine.execVTest q result s
  | .vStop q => Sys2Proof.Machine.execVStop q s
  | .watchdogExpiry n t => Sys2Proof.Machine.execWatchdogExpiry n t s
  | .allWaitFire n => Sys2Proof.Machine.execAllWaitFire n s
  | .seqStoreScrub n corrected bad => Sys2Proof.Machine.execSeqStoreScrub n corrected bad s
  | .storeRecovery n => Sys2Proof.Machine.execStoreRecovery n s
  | .stagingWrite => Sys2Proof.Machine.execStagingWrite s
  | .imgReload r data => Sys2Proof.Machine.execImgReload r data s
  | .imageLoad met => Sys2Proof.Machine.execImageLoad met s
  | .imgLoaded => Sys2Proof.Machine.execImgLoaded s
  | .sequencerResync n why => Sys2Proof.Machine.execSequencerResync n why s
  | .threadStatus r n data => Sys2Proof.Machine.execThreadStatus r n data s
  | .restartThread r n data => Sys2Proof.Machine.execRestartThread r n data s
  | .resync r n data => Sys2Proof.Machine.execResync r n data s
  | .haltThread r n data => Sys2Proof.Machine.execHaltThread r n data s
  | .readReg r n data => Sys2Proof.Machine.execReadReg r n data s
  | .readStore r n data rom => Sys2Proof.Machine.execReadStore r n data rom s
  | .eyeScan r n data met => Sys2Proof.Machine.execEyeScan r n data met s
  | .storeCheck r n data met => Sys2Proof.Machine.execStoreCheck r n data met s
  | .mbxNotTaken n => Sys2Proof.Machine.execMbxNotTaken n s
  | .breakoutWrite r pe data => Sys2Proof.Machine.execBreakoutWrite r pe data s
  | .lpEnableWrite r lp data => Sys2Proof.Machine.execLpEnableWrite r lp data s
  | .rxFrame lp bytes early fate => Sys2Proof.Machine.execRxFrame lp bytes early fate s
  | .pauseTimerExpiry lp c => Sys2Proof.Machine.execPauseTimerExpiry lp c s
  | .txFrame id fate started laneLost rows => Sys2Proof.Machine.execTxFrame id fate started laneLost rows s
  | .tsMetaRead r pe => Sys2Proof.Machine.execTsMetaRead r pe s
  | .xoffRefresh lp => Sys2Proof.Machine.execXoffRefresh lp s
  | .pfcStorm lp c => Sys2Proof.Machine.execPfcStorm lp c s
  | .pfcStormEnd lp c => Sys2Proof.Machine.execPfcStormEnd lp c s
  | .linkUp lp => Sys2Proof.Machine.execLinkUp lp s
  | .linkFaultTimeout lp remote => Sys2Proof.Machine.execLinkFaultTimeout lp remote s
  | .macsecRxFrame id truncated overrun => Sys2Proof.Machine.execMacsecRxFrame id truncated overrun s
  | .macsecTxFrame id => Sys2Proof.Machine.execMacsecTxFrame id s
  | .rekeyRetire => Sys2Proof.Machine.execRekeyRetire s
  | .dualRailMismatch g pair id others => Sys2Proof.Machine.execDualRailMismatch g pair id others s
  | .katComplete g pair pass => Sys2Proof.Machine.execKatComplete g pair pass s
  | .sparePairKat g first second => Sys2Proof.Machine.execSparePairKat g first second s
  | .pairReadmit r g data pass => Sys2Proof.Machine.execPairReadmit r g data pass s
  | .keyLockAcquire r data => Sys2Proof.Machine.execKeyLockAcquire r data s
  | .keyLockRelease r data => Sys2Proof.Machine.execKeyLockRelease r data s
  | .keyLockBreak r data => Sys2Proof.Machine.execKeyLockBreak r data s
  | .keyStagingWrite r reg data => Sys2Proof.Machine.execKeyStagingWrite r reg data s
  | .scRead r data => Sys2Proof.Machine.execScRead r data s
  | .scWrite r data => Sys2Proof.Machine.execScWrite r data s
  | .scDelete r data => Sys2Proof.Machine.execScDelete r data s
  | .saRead r data => Sys2Proof.Machine.execSaRead r data s
  | .saInstall r data => Sys2Proof.Machine.execSaInstall r data s
  | .saDelete r data => Sys2Proof.Machine.execSaDelete r data s
  | .saSetNext r data => Sys2Proof.Machine.execSaSetNext r data s
  | .pnEventRead r => Sys2Proof.Machine.execPnEventRead r s
  | .parsePacket id ecc => Sys2Proof.Machine.execParsePacket id ecc s
  | .prsIndRead r t data => Sys2Proof.Machine.execPrsIndRead r t data s
  | .prsIndWrite r t data => Sys2Proof.Machine.execPrsIndWrite r t data s
  | .prsIndInsert r t data => Sys2Proof.Machine.execPrsIndInsert r t data s
  | .prsIndDelete r t data => Sys2Proof.Machine.execPrsIndDelete r t data s
  | .prsIndValidate r t data => Sys2Proof.Machine.execPrsIndValidate r t data s
  | .prsIndClear r t data => Sys2Proof.Machine.execPrsIndClear r t data s
  | .flipNow r t data => Sys2Proof.Machine.execFlipNow r t data s
  | .flipArm r t data => Sys2Proof.Machine.execFlipArm r t data s
  | .flipDisarm r t data => Sys2Proof.Machine.execFlipDisarm r t data s
  | .scheduledFlip t => Sys2Proof.Machine.execScheduledFlip t s
  | .prsScrub t ecc bank => Sys2Proof.Machine.execPrsScrub t ecc bank s
  | .stationProcess id upset => Sys2Proof.Machine.execStationProcess id upset s
  | .resolution id parity flowBad => Sys2Proof.Machine.execResolution id parity flowBad s
  | .deparse id upset => Sys2Proof.Machine.execDeparse id upset s
  | .probeInject t ingress egress => Sys2Proof.Machine.execProbeInject t ingress egress s
  | .stnScrub t unit ecc => Sys2Proof.Machine.execStnScrub t unit ecc s
  | .autoTakeover g => Sys2Proof.Machine.execAutoTakeover g s
  | .spareTakeover r data => Sys2Proof.Machine.execSpareTakeover r data s
  | .spareReturn r data => Sys2Proof.Machine.execSpareReturn r data s
  | .spareClearingDone => Sys2Proof.Machine.execSpareClearingDone s
  | .t24ClosureSelftest bad => Sys2Proof.Machine.execT24ClosureSelftest bad s
  | .ltCfgWrite r t k lt data => Sys2Proof.Machine.execLtCfgWrite r t k lt data s
  | .seCfgWrite r t k e data => Sys2Proof.Machine.execSeCfgWrite r t k e data s
  | .bridgeMaskWrite r t q data => Sys2Proof.Machine.execBridgeMaskWrite r t q data s
  | .stnIndRead r t k data => Sys2Proof.Machine.execStnIndRead r t k data s
  | .stnIndWrite r t k data => Sys2Proof.Machine.execStnIndWrite r t k data s
  | .stnIndReadClear r t k data => Sys2Proof.Machine.execStnIndReadClear r t k data s
  | .dprIndRead r t data => Sys2Proof.Machine.execDprIndRead r t data s
  | .dprIndWrite r t data => Sys2Proof.Machine.execDprIndWrite r t data s
  | .tbcRead r t data => Sys2Proof.Machine.execTbcRead r t data s
  | .tbcWrite r t data => Sys2Proof.Machine.execTbcWrite r t data s
  | .tbcInsert r t data => Sys2Proof.Machine.execTbcInsert r t data s
  | .tbcDelete r t data => Sys2Proof.Machine.execTbcDelete r t data s
  | .tbcSearch r t data => Sys2Proof.Machine.execTbcSearch r t data s
  | .tbcUpdateAction r t data => Sys2Proof.Machine.execTbcUpdateAction r t data s
  | .tbcAgeQuery r t data => Sys2Proof.Machine.execTbcAgeQuery r t data s
  | .tbcAgeTouch r t data => Sys2Proof.Machine.execTbcAgeTouch r t data s
  | .tbcAgeClear r t data => Sys2Proof.Machine.execTbcAgeClear r t data s
  | .tbcAgeSweep r t data => Sys2Proof.Machine.execTbcAgeSweep r t data s
  | .tbcDescRead r t data => Sys2Proof.Machine.execTbcDescRead r t data s
  | .tbcDescWrite r t data => Sys2Proof.Machine.execTbcDescWrite r t data s
  | .tbcCountRead r t data => Sys2Proof.Machine.execTbcCountRead r t data s
  | .tbcBroadcastDone t => Sys2Proof.Machine.execTbcBroadcastDone t s
  | .learnApply t => Sys2Proof.Machine.execLearnApply t s
  | .note0Read r t => Sys2Proof.Machine.execNote0Read r t s
  | .floodRead r t data => Sys2Proof.Machine.execFloodRead r t data s
  | .floodWrite r t data => Sys2Proof.Machine.execFloodWrite r t data s
  | .ageSweepPeriodic t tb late => Sys2Proof.Machine.execAgeSweepPeriodic t tb late s
  | .cacheMissFill t line ecc => Sys2Proof.Machine.execCacheMissFill t line ecc s
  | .cacheWriteback => Sys2Proof.Machine.execCacheWriteback s
  | .tableScrub t b ecc again pass lostAt way => Sys2Proof.Machine.execTableScrub t b ecc again pass lostAt way s
  | .tcamShadowCompare t ecc tb row => Sys2Proof.Machine.execTcamShadowCompare t ecc tb row s
  | .spareRowMarch t b pass => Sys2Proof.Machine.execSpareRowMarch t b pass s
  | .memberRejoin lp => Sys2Proof.Machine.execMemberRejoin lp s
  | .restoreRecord id arrived => Sys2Proof.Machine.execRestoreRecord id arrived s
  | .restoreTimeout c => Sys2Proof.Machine.execRestoreTimeout c s
  | .sprIndRead r data => Sys2Proof.Machine.execSprIndRead r data s
  | .sprIndWrite r data => Sys2Proof.Machine.execSprIndWrite r data s
  | .carveApply r data => Sys2Proof.Machine.execCarveApply r data s
  | .psetRead r data => Sys2Proof.Machine.execPsetRead r data s
  | .psetWrite r data => Sys2Proof.Machine.execPsetWrite r data s
  | .bufferFree kind unit cell holder => Sys2Proof.Machine.execBufferFree kind unit cell holder s
  | .leakAudit => Sys2Proof.Machine.execLeakAudit s
  | .bufferRowTest row pass => Sys2Proof.Machine.execBufferRowTest row pass s
  | .rowReadmit r data pass => Sys2Proof.Machine.execRowReadmit r data pass s
  | .bpmMetaScrub ecc => Sys2Proof.Machine.execBpmMetaScrub ecc s
  | .islandCtlWrite r data => Sys2Proof.Machine.execIslandCtlWrite r data s
  | .islandOut b => Sys2Proof.Machine.execIslandOut b s
  | .packetAdmission id arrived => Sys2Proof.Machine.execPacketAdmission id arrived s
  | .replication => Sys2Proof.Machine.execReplication s
  | .dequeue lp => Sys2Proof.Machine.execDequeue lp s
  | .ageingVisit n => Sys2Proof.Machine.execAgeingVisit n s
  | .launchEligible n => Sys2Proof.Machine.execLaunchEligible n s
  | .holdExpiry lp => Sys2Proof.Machine.execHoldExpiry lp s
  | .tmcIndRead r data => Sys2Proof.Machine.execTmcIndRead r data s
  | .tmcIndWrite r data => Sys2Proof.Machine.execTmcIndWrite r data s
  | .qCfgWrite r n data => Sys2Proof.Machine.execQCfgWrite r n data s
  | .pgCfgWrite r lp c data => Sys2Proof.Machine.execPgCfgWrite r lp c data s
  | .tmScrub ecc => Sys2Proof.Machine.execTmScrub ecc s
  | .stackTrained h => Sys2Proof.Machine.execStackTrained h s
  | .layoutApply r data => Sys2Proof.Machine.execLayoutApply r data s
  | .chunkWrite chunk => Sys2Proof.Machine.execChunkWrite chunk s
  | .openChunkTimeout n => Sys2Proof.Machine.execOpenChunkTimeout n s
  | .chunkReadLanded n found unit => Sys2Proof.Machine.execChunkReadLanded n found unit s
  | .refreshDue pc bank waiting => Sys2Proof.Machine.execRefreshDue pc bank waiting s
  | .stackTempSample h temp => Sys2Proof.Machine.execStackTempSample h temp s
  | .writeBurst pc held => Sys2Proof.Machine.execWriteBurst pc held s
  | .resApply r data => Sys2Proof.Machine.execResApply r data s
  | .hbmScrub found late => Sys2Proof.Machine.execHbmScrub found late s
  | .hbmRowSelftest pc pass readable => Sys2Proof.Machine.execHbmRowSelftest pc pass readable s
  | .relocationDone h => Sys2Proof.Machine.execRelocationDone h s
  | .wSet r data => Sys2Proof.Machine.execWSet r data s
  | .datumStep r b data => Sys2Proof.Machine.execDatumStep r b data s
  | .datumArm r b data => Sys2Proof.Machine.execDatumArm r b data s
  | .datumAdjWrite r b data => Sys2Proof.Machine.execDatumAdjWrite r b data s
  | .datumRateWrite r b data => Sys2Proof.Machine.execDatumRateWrite r b data s
  | .datumEnable r b data => Sys2Proof.Machine.execDatumEnable r b data s
  | .datumChangeEffect => Sys2Proof.Machine.execDatumChangeEffect s
  | .slewUpdate => Sys2Proof.Machine.execSlewUpdate s
  | .freqSrcWrite r data present => Sys2Proof.Machine.execFreqSrcWrite r data present s
  | .freqLoss => Sys2Proof.Machine.execFreqLoss s
  | .replicaCalibration errors => Sys2Proof.Machine.execReplicaCalibration errors s
  | .timeSnap r data => Sys2Proof.Machine.execTimeSnap r data s
  | .ppsInEdge q => Sys2Proof.Machine.execPpsInEdge q s
  | .ppsMissing q => Sys2Proof.Machine.execPpsMissing q s
  | .ppsOutEdge q => Sys2Proof.Machine.execPpsOutEdge q s
  | .meterWindowClose m => Sys2Proof.Machine.execMeterWindowClose m s
  | .meterCfgWrite r data => Sys2Proof.Machine.execMeterCfgWrite r data s
  | .svcIndRead r data => Sys2Proof.Machine.execSvcIndRead r data s
  | .svcIndWrite r data => Sys2Proof.Machine.execSvcIndWrite r data s
  | .wrapAddrWrite r data => Sys2Proof.Machine.execWrapAddrWrite r data s
  | .wrapMapClear r data => Sys2Proof.Machine.execWrapMapClear r data s
  | .flowWriteback => Sys2Proof.Machine.execFlowWriteback s
  | .flowSweep poisoned => Sys2Proof.Machine.execFlowSweep poisoned s
  | .stakeCfgWrite r t data => Sys2Proof.Machine.execStakeCfgWrite r t data s
  | .exportWrite t => Sys2Proof.Machine.execExportWrite t s
  | .xconsWrite r ring data => Sys2Proof.Machine.execXconsWrite r ring data s
  | .dumpDue => Sys2Proof.Machine.execDumpDue s
  | .dumpNow r data => Sys2Proof.Machine.execDumpNow r data s
  | .dumpComplete => Sys2Proof.Machine.execDumpComplete s
  | .dmpCfgWrite r data => Sys2Proof.Machine.execDmpCfgWrite r data s
  | .pwrgoodRise refs pcie boot => Sys2Proof.Machine.execPwrgoodRise refs pcie boot s
  | .pwrgoodFall => Sys2Proof.Machine.execPwrgoodFall s
  | .domainBringupStart => Sys2Proof.Machine.execDomainBringupStart s
  | .bootImageLoad => Sys2Proof.Machine.execBootImageLoad s
  | .pwrCtlWrite r data => Sys2Proof.Machine.execPwrCtlWrite r data s
  | .domainSwitchOn => Sys2Proof.Machine.execDomainSwitchOn s
  | .domainPowerGood => Sys2Proof.Machine.execDomainPowerGood s
  | .domainPowerTimeout => Sys2Proof.Machine.execDomainPowerTimeout s
  | .domainSwitchOff wearOk => Sys2Proof.Machine.execDomainSwitchOff wearOk s
  | .refLoss ref => Sys2Proof.Machine.execRefLoss ref s
  | .refSwitchDone => Sys2Proof.Machine.execRefSwitchDone s
  | .clkCtlWrite r data => Sys2Proof.Machine.execClkCtlWrite r data s
  | .islandClkLoss island => Sys2Proof.Machine.execIslandClkLoss island s
  | .pcieRefLoss h => Sys2Proof.Machine.execPcieRefLoss h s
  | .softReset r data x => Sys2Proof.Machine.execSoftReset r data x s
  | .softResetComplete => Sys2Proof.Machine.execSoftResetComplete s
  | .holdEnd => Sys2Proof.Machine.execHoldEnd s
  | .flsRead r data met => Sys2Proof.Machine.execFlsRead r data met s
  | .flsProgram r data => Sys2Proof.Machine.execFlsProgram r data s
  | .flsErase4k r data => Sys2Proof.Machine.execFlsErase4k r data s
  | .flashOpComplete met => Sys2Proof.Machine.execFlashOpComplete met s
  | .lifeArm r data => Sys2Proof.Machine.execLifeArm r data s
  | .lifeTransitionRequest r data intentOk => Sys2Proof.Machine.execLifeTransitionRequest r data intentOk s
  | .lifeArmExpiry => Sys2Proof.Machine.execLifeArmExpiry s
  | .lifeTransitionDone met => Sys2Proof.Machine.execLifeTransitionDone met s
  | .otpRevoke r data ok => Sys2Proof.Machine.execOtpRevoke r data ok s
  | .otpRaiseSvn r data ok => Sys2Proof.Machine.execOtpRaiseSvn r data ok s
  | .identityKeyReady => Sys2Proof.Machine.execIdentityKeyReady s
  | .reportGenerate r data => Sys2Proof.Machine.execReportGenerate r data s
  | .reportDone => Sys2Proof.Machine.execReportDone s
  | .thermalSample sensors engines => Sys2Proof.Machine.execThermalSample sensors engines s
  | .thermtrip => Sys2Proof.Machine.execThermtrip s
  | .gpioEdge pin high => Sys2Proof.Machine.execGpioEdge pin high s
  | .extest wearOk => Sys2Proof.Machine.execExtest wearOk s
  | .idcode x => Sys2Proof.Machine.execIdcode x s
  | .samplePreload x => Sys2Proof.Machine.execSamplePreload x s
  | .clamp wearOk => Sys2Proof.Machine.execClamp wearOk s
  | .highz wearOk => Sys2Proof.Machine.execHighz wearOk s
  | .extestPulse wearOk => Sys2Proof.Machine.execExtestPulse wearOk s
  | .extestTrain wearOk => Sys2Proof.Machine.execExtestTrain wearOk s
  | .bypass opcode x => Sys2Proof.Machine.execBypass opcode x s
  | .factoryInstruction opcode x => Sys2Proof.Machine.execFactoryInstruction opcode x s
  | .tapTestExit x => Sys2Proof.Machine.execTapTestExit x s
  | .tapReset x => Sys2Proof.Machine.execTapReset x s
  | .rcRegisterRead r at_ => Sys2Proof.Machine.execRcRegisterRead r at_ s
  | .hostLinkUp h rate width flit => Sys2Proof.Machine.execHostLinkUp h rate width flit s
  | .sriovVfEnable h n => Sys2Proof.Machine.execSriovVfEnable h n s
  | .flrComplete fn => Sys2Proof.Machine.execFlrComplete fn s
  | .msixUnmask fn vec => Sys2Proof.Machine.execMsixUnmask fn vec s
  | .lmPresNHigh n => Sys2Proof.Machine.execLmPresNHigh n s
  | .patCheckerLock l => Sys2Proof.Machine.execPatCheckerLock l s
  | .stackInterfaceLoss h => Sys2Proof.Machine.execStackInterfaceLoss h s
  | .referenceValid ref boot => Sys2Proof.Machine.execReferenceValid ref boot s

end Sys2Proof.Machine
end

