-- ==== Sys2Proof/Machine/Step.lean ====
section
/-!
DEFINITION. Sys2Proof/Machine/Step.lean: one step takes the command at the front of the queue; on an empty queue a microsecond of the
datum clock goes by.
Readings and choices (notes/assumptions): DEDUCED 80, 81; DESIGN CHOICE 1, 2.
-/
namespace Sys2Proof.Machine

/-- One step: the front command acts on the state with the rest of the queue. On an empty queue no command acts and the datum clock counts
on by 1 µs (DESIGN CHOICE, assumption 2). -/
def step (s : State) : Host.Outcome State Fault Refusal :=
  match s.pending with
  | i :: rest => exec i { s with pending := rest }
  | [] => answer s.tickUs

/-- The command that the word spells, at the front of the queue; the state as it was where the word spells none. -/
def State.withFetchWord (s : State) (nbits w : Nat) : State :=
  match decodeTableWord nbits w with
  | some i => { s with pending := i :: s.pending }
  | none => s

end Sys2Proof.Machine
end

