-- ==== Sys2Proof/Safety.lean ====
section
/-!
DEFINITION. Sys2Proof/Safety.lean: what counts as a safe run, and the invariants that statements take as premises.
-/
namespace Sys2Proof.Machine

/-- The step answers a next state. -/
def Runs (s : State) : Prop := ∃ t, step s = .next t

/-- The entries of an EXACT table of traverse `t` stand where its hashes put them (R395), and no key stands twice (R396). -/
def State.Placed (s : State) (t tb : Nat) : Prop :=
  (∀ i, (s.tent t tb i).valid = true → i ∈ positions (s.desc t tb) (s.tent t tb i).parcel (s.tent t tb i).key) ∧
  ∀ i j, (s.tent t tb i).valid = true → (s.tent t tb j).valid = true → (s.tent t tb i).parcel = (s.tent t tb j).parcel →
    (s.tent t tb i).key = (s.tent t tb j).key → i = j

/-- The members that spray group `g` of present members `l` chooses for `n` packets in turn, and the state after them (R334). -/
def State.sprayPicks (s : State) (g : Nat) (l : List (Nat × Nat)) (n : Nat) : State × List Nat :=
  match n with
  | 0 => (s, [])
  | n + 1 =>
    let x := s.sprayPicks g l n
    let c := x.1.sprayChoose g l
    (c.1, x.2 ++ [c.2])

end Sys2Proof.Machine
end

