-- ==== Sys2Proof/WellFormed.lean ====
section
/-!
DEFINITION. Sys2Proof/WellFormed.lean: which terms of `Instr` are commands of the device: a page or ring that exists, an address that
fits its BAR and its access size, a data word whose operation code is that of the row, records of the length that the spec gives. A
meaning is total all the same: a term that is not well-formed does what its data say, or nothing.
Readings and choices (notes/assumptions): DESIGN CHOICE 12.
-/
namespace Sys2Proof

/-- Bits `lo` to `lo + w − 1` of a data word. -/
def field (data : Word) (lo w : Nat) : Nat := data.toNat / 2 ^ lo % 2 ^ w

/-- Bit `i` of a data word. -/
def bit (data : Word) (i : Nat) : Bool := field data i 1 == 1

/-- A page number: of BAR0 (R51), or of the event page of a function (R52; Machine/Pages.lean). -/
def isPage (p : Nat) : Bool := decide (p < 0x8000) || (decide (0x10000 ≤ p) && decide (p < 0x11000) && p % 16 == 0)

/-- A ring, as 1,024 × port + ring (R83). -/
def isRing (n : Nat) : Bool := decide (n < 2048) && decide (n % 1024 < 572)

/-- The offset is that of the half or slot that the access size covers (R60). -/
def AccSize.aligned (z : AccSize) (off : Nat) : Bool :=
  match z with
  | .w64 | .lo => off % 8 == 0
  | .hi => off % 8 == 4
  | .bad => true

/-- The function has the BAR, and the access lies in it (R51, R52). -/
def Req.reaches (r : Req) (a : BarAddr) : Bool :=
  let pf := r.fn.val % 128 == 0
  match a with
  | .bar0 off => pf && decide (off < 0x8000000) && r.size.aligned off
  | .pfBar2 off => pf && decide (off < 0x10000) && r.size.aligned off
  | .vfBar0 off => !pf && decide (off < 0x10000) && r.size.aligned off
  | .vfBar2 off => !pf && decide (off < 0x10000) && r.size.aligned off

/-- The command is well-formed. -/
def Instr.wf (i : Instr) : Bool :=
  match i with
  | .registerWrite r at_ _ => r.reaches at_
  | .errAddrRead _ _ => true
  | .regTimeout r at_ _ => r.reaches at_
  | .unacceptedFunctionRequest _ _ => true
  | .bulkWindowAccess _ _ _ _ _ => true
  | .pageOwnerWrite _ page _ => isPage page
  | .pageLockSet _ page data => isPage page && !bit data 4 && bit data 7
  | .pageEnableWrite _ page data => isPage page && !bit data 4
  | .testReqWrite _ page data => isPage page && !bit data 4
  | .blockReset _ page data _ => isPage page && bit data 4
  | .eventStatusClear _ page _ => isPage page
  | .eventEnableWrite _ page _ => isPage page
  | .logSnapshot _ _ _ => true
  | .vfeLogSnap r _ => r.fn.val % 128 != 0
  | .selftestRun _ page _ => isPage page
  | .selftestComplete page _ _ => isPage page
  | .ringTailWrite _ ring _ => isRing ring
  | .rxRingDelivery ring posted _ => isRing ring && posted.all (fun d => d.length == 32)
  | .txDescriptor ring desc _ _ => isRing ring && desc.length == 32
  | .functionLevelReset _ => true
  | .hostLinkDown _ => true
  | .hostPowerState _ _ _ _ => true
  | .perstAssert _ => true
  | .perstDeassert _ => true
  | .bufQuotaWrite _ _ _ => true
  | .parcelCfgWrite _ _ _ => true
  | .rateQuotaWrite _ _ _ => true
  | .quotaProfileRead _ _ => true
  | .quotaProfileWrite _ _ => true
  | .functionBindingRead _ _ => true
  | .functionBindingWrite _ _ => true
  | .easementRead _ _ => true
  | .easementWrite _ _ => true
  | .pageWindowRead _ _ => true
  | .pageWindowWrite _ _ => true
  | .cmdTailWrite r _ _ => r.fn.val % 128 != 0
  | .tenantCommandDescriptor fn _ desc => fn.val % 128 != 0 && (match desc with | some d => d.length == 128 | none => true)
  | .presenceDebounced _ _ => true
  | .identityRead _ _ _ _ => true
  | .lmEnRise _ => true
  | .interlockOpen _ _ => true
  | .warmingDone _ => true
  | .warmingTimeout _ _ => true
  | .feedChoice _ => true
  | .wearSample _ sample => match sample with | some m => m.drive.length == 4 && m.mon.length == 4 | none => true
  | .wearRecordPeriodic _ _ => true
  | .lmpSave _ _ _ _ => true
  | .lmpEnableWrite _ _ _ _ => true
  | .feedFailure _ _ => true
  | .lmFaultAssert _ => true
  | .feedSwitch _ _ _ => true
  | .standbyClosureRun _ _ _ _ _ => true
  | .lmpTake _ _ _ => true
  | .lmpSwapReq _ _ _ _ => true
  | .swapRetry _ _ => true
  | .lmpRetry _ _ _ _ => true
  | .moduleMemRead _ _ _ => true
  | .moduleMemWrite _ _ _ => true
  | .mgbTransaction _ _ _ => true
  | .mgbRecover _ _ _ => true
  | .fauPresenceChange _ _ => true
  | .opticalSignalDetect _ _ => true
  | .ringHoldUpdate _ => true
  | .ringLockFound _ _ => true
  | .ringSeekTimeout _ => true
  | .ringLimit _ _ => true
  | .ringLimitRelease _ => true
  | .ringUnlock _ => true
  | .ringFreeze _ => true
  | .ringUnfreeze _ => true
  | .frozenHoldExpiry _ => true
  | .calSave _ _ => true
  | .calWriteDone _ _ => true
  | .losHoldExpiry _ => true
  | .moveReqRepeat _ => true
  | .moveAckTimeout _ => true
  | .moveReq _ msg => msg.length == 31
  | .moveAck _ msg => msg.length == 31
  | .restoreReq _ msg => msg.length == 31
  | .restoreAck _ msg => msg.length == 31
  | .spareRestore _ _ _ => true
  | .tapClosureRun _ _ _ => true
  | .tapSelWrite _ _ _ => true
  | .txPowerLow _ _ => true
  | .detectPoll _ _ => true
  | .backoffExpiry _ _ => true
  | .trainStart _ => true
  | .autonegComplete _ _ => true
  | .trainingFrame _ _ _ _ => true
  | .trainComplete _ => true
  | .trainTimeout _ => true
  | .lockGained _ => true
  | .lockLost _ => true
  | .lockTimeout _ => true
  | .portLockTimeout _ => true
  | .tieIn _ msg => msg.length == 31
  | .tieinSend _ => true
  | .tieinTimeout _ => true
  | .pcsLinkUp _ => true
  | .signalDetectChange _ _ => true
  | .laneLoss _ => true
  | .berWindowClose _ corrected received => decide (corrected ≤ received)
  | .txEqWrite _ _ _ => true
  | .patCtlWrite _ _ _ => true
  | .patLockLost _ bits errors => decide (errors ≤ bits)
  | .injFire _ _ _ => true
  | .mwExec _ _ => true
  | .mwBranch _ => true
  | .mwWait _ => true
  | .waitConditionMet _ _ _ => true
  | .waitTimeout _ _ => true
  | .ctrlJump _ => true
  | .ctrlCall _ => true
  | .ctrlReturn _ _ => true
  | .ctrlRett _ => true
  | .ctrlTrap _ => true
  | .ctrlKick _ => true
  | .ctrlSig _ => true
  | .ctrlClr _ => true
  | .ctrlStkclr _ => true
  | .ctrlVert _ => true
  | .ctrlHalt _ => true
  | .vNop _ => true
  | .vLdi _ => true
  | .vAlu _ => true
  | .vLrd _ => true
  | .vLwr _ => true
  | .vJmp _ => true
  | .vBrc _ => true
  | .vWaitv _ => true
  | .vCallv _ => true
  | .vRetv _ _ => true
  | .vEnter _ => true
  | .vEvt _ => true
  | .vRestart _ => true
  | .vExt _ => true
  | .vTest _ _ => true
  | .vStop _ => true
  | .watchdogExpiry _ _ => true
  | .allWaitFire _ => true
  | .seqStoreScrub _ _ _ => true
  | .storeRecovery _ => true
  | .stagingWrite => true
  | .imgReload _ _ => true
  | .imageLoad _ => true
  | .imgLoaded => true
  | .sequencerResync _ _ => true
  | .threadStatus _ _ _ => true
  | .restartThread _ _ _ => true
  | .resync _ _ _ => true
  | .haltThread _ _ _ => true
  | .readReg _ _ _ => true
  | .readStore _ _ _ _ => true
  | .eyeScan _ _ _ _ => true
  | .storeCheck _ _ _ _ => true
  | .mbxNotTaken _ => true
  | .breakoutWrite _ _ _ => true
  | .lpEnableWrite _ _ _ => true
  | .rxFrame _ _ _ _ => true
  | .pauseTimerExpiry _ _ => true
  | .txFrame _ _ _ _ _ => true
  | .tsMetaRead _ _ => true
  | .xoffRefresh _ => true
  | .pfcStorm _ _ => true
  | .pfcStormEnd _ _ => true
  | .linkUp _ => true
  | .linkFaultTimeout _ _ => true
  | .macsecRxFrame _ _ _ => true
  | .macsecTxFrame _ => true
  | .rekeyRetire => true
  | .dualRailMismatch _ _ _ others => decide (others.length ≤ 16)
  | .katComplete _ _ _ => true
  | .sparePairKat _ _ _ => true
  | .pairReadmit _ _ _ _ => true
  | .keyLockAcquire _ data => bit data 0
  | .keyLockRelease _ data => bit data 1
  | .keyLockBreak _ data => bit data 2
  | .keyStagingWrite _ _ _ => true
  | .scRead _ data => !(([1, 2] : List Nat).contains (field data 46 2))
  | .scWrite _ data => field data 46 2 == 1
  | .scDelete _ data => field data 46 2 == 2
  | .saRead _ data => !(([1, 2, 3] : List Nat).contains (field data 45 3))
  | .saInstall _ data => field data 45 3 == 1
  | .saDelete _ data => field data 45 3 == 2
  | .saSetNext _ data => field data 45 3 == 3
  | .pnEventRead _ => true
  | .parsePacket _ _ => true
  | .prsIndRead _ _ _ => true
  | .prsIndWrite _ _ _ => true
  | .prsIndInsert _ _ _ => true
  | .prsIndDelete _ _ _ => true
  | .prsIndValidate _ _ _ => true
  | .prsIndClear _ _ _ => true
  | .flipNow _ _ data => bit data 0
  | .flipArm _ _ data => bit data 1
  | .flipDisarm _ _ data => bit data 2
  | .scheduledFlip _ => true
  | .prsScrub _ _ _ => true
  | .stationProcess _ _ => true
  | .resolution _ _ _ => true
  | .deparse _ _ => true
  | .probeInject _ _ _ => true
  | .stnScrub _ _ _ => true
  | .autoTakeover _ => true
  | .spareTakeover _ data => bit data 6
  | .spareReturn _ data => bit data 7
  | .spareClearingDone => true
  | .t24ClosureSelftest _ => true
  | .ltCfgWrite _ _ _ _ _ => true
  | .seCfgWrite _ _ _ _ _ => true
  | .bridgeMaskWrite _ _ _ _ => true
  | .stnIndRead _ _ _ _ => true
  | .stnIndWrite _ _ _ _ => true
  | .stnIndReadClear _ _ _ _ => true
  | .dprIndRead _ _ data => !(([1] : List Nat).contains (field data 45 1))
  | .dprIndWrite _ _ data => field data 45 1 == 1
  | .tbcRead _ _ data => !(([2, 3, 4, 5, 6, 7, 8, 9, 10, 16, 17, 18] : List Nat).contains (field data 40 8))
  | .tbcWrite _ _ data => field data 40 8 == 2
  | .tbcInsert _ _ data => field data 40 8 == 3
  | .tbcDelete _ _ data => field data 40 8 == 4
  | .tbcSearch _ _ data => field data 40 8 == 5
  | .tbcUpdateAction _ _ data => field data 40 8 == 6
  | .tbcAgeQuery _ _ data => field data 40 8 == 7
  | .tbcAgeTouch _ _ data => field data 40 8 == 8
  | .tbcAgeClear _ _ data => field data 40 8 == 9
  | .tbcAgeSweep _ _ data => field data 40 8 == 10
  | .tbcDescRead _ _ data => field data 40 8 == 16
  | .tbcDescWrite _ _ data => field data 40 8 == 17
  | .tbcCountRead _ _ data => field data 40 8 == 18
  | .tbcBroadcastDone _ => true
  | .learnApply _ => true
  | .note0Read _ _ => true
  | .floodRead _ _ data => !(([1] : List Nat).contains (field data 47 1))
  | .floodWrite _ _ data => field data 47 1 == 1
  | .ageSweepPeriodic _ _ _ => true
  | .cacheMissFill _ _ _ => true
  | .cacheWriteback => true
  | .tableScrub _ _ _ _ _ _ _ => true
  | .tcamShadowCompare _ _ _ _ => true
  | .spareRowMarch _ _ _ => true
  | .memberRejoin _ => true
  | .restoreRecord _ _ => true
  | .restoreTimeout _ => true
  | .sprIndRead _ data => !(([1] : List Nat).contains (field data 44 1))
  | .sprIndWrite _ data => field data 44 1 == 1
  | .carveApply _ _ => true
  | .psetRead _ data => !(([1] : List Nat).contains (field data 47 1))
  | .psetWrite _ data => field data 47 1 == 1
  | .bufferFree _ _ cell _ => decide (cell < 1310720)
  | .leakAudit => true
  | .bufferRowTest row _ => decide (row < 81920)
  | .rowReadmit _ _ pass => pass.all (fun n => decide (n < 81920))
  | .bpmMetaScrub _ => true
  | .islandCtlWrite _ _ => true
  | .islandOut _ => true
  | .packetAdmission _ _ => true
  | .replication => true
  | .dequeue _ => true
  | .ageingVisit _ => true
  | .launchEligible _ => true
  | .holdExpiry _ => true
  | .tmcIndRead _ data => !(([1] : List Nat).contains (field data 44 1))
  | .tmcIndWrite _ data => field data 44 1 == 1
  | .qCfgWrite _ _ _ => true
  | .pgCfgWrite _ _ _ _ => true
  | .tmScrub _ => true
  | .stackTrained _ => true
  | .layoutApply _ _ => true
  | .chunkWrite _ => true
  | .openChunkTimeout _ => true
  | .chunkReadLanded _ _ _ => true
  | .refreshDue _ bank _ => decide (bank < 256)
  | .stackTempSample _ _ => true
  | .writeBurst _ _ => true
  | .resApply _ _ => true
  | .hbmScrub _ _ => true
  | .hbmRowSelftest _ _ _ => true
  | .relocationDone _ => true
  | .wSet _ _ => true
  | .datumStep _ _ data => bit data 0
  | .datumArm _ _ data => bit data 1
  | .datumAdjWrite _ _ _ => true
  | .datumRateWrite _ _ _ => true
  | .datumEnable _ _ _ => true
  | .datumChangeEffect => true
  | .slewUpdate => true
  | .freqSrcWrite _ _ _ => true
  | .freqLoss => true
  | .replicaCalibration _ => true
  | .timeSnap _ _ => true
  | .ppsInEdge _ => true
  | .ppsMissing _ => true
  | .ppsOutEdge _ => true
  | .meterWindowClose _ => true
  | .meterCfgWrite _ _ => true
  | .svcIndRead _ data => !(([1] : List Nat).contains (field data 47 1))
  | .svcIndWrite _ data => field data 47 1 == 1
  | .wrapAddrWrite _ _ => true
  | .wrapMapClear _ _ => true
  | .flowWriteback => true
  | .flowSweep _ => true
  | .stakeCfgWrite _ _ _ => true
  | .exportWrite _ => true
  | .xconsWrite _ _ _ => true
  | .dumpDue => true
  | .dumpNow _ _ => true
  | .dumpComplete => true
  | .dmpCfgWrite _ _ => true
  | .pwrgoodRise _ _ _ => true
  | .pwrgoodFall => true
  | .domainBringupStart => true
  | .bootImageLoad => true
  | .pwrCtlWrite _ _ => true
  | .domainSwitchOn => true
  | .domainPowerGood => true
  | .domainPowerTimeout => true
  | .domainSwitchOff _ => true
  | .refLoss _ => true
  | .refSwitchDone => true
  | .clkCtlWrite _ _ => true
  | .islandClkLoss _ => true
  | .pcieRefLoss _ => true
  | .softReset _ _ _ => true
  | .softResetComplete => true
  | .holdEnd => true
  | .flsRead _ data _ => !(([2, 3] : List Nat).contains (field data 45 3))
  | .flsProgram _ data => field data 45 3 == 2
  | .flsErase4k _ data => field data 45 3 == 3
  | .flashOpComplete _ => true
  | .lifeArm _ data => field data 3 1 == 1
  | .lifeTransitionRequest _ data _ => !(([1] : List Nat).contains (field data 3 1))
  | .lifeArmExpiry => true
  | .lifeTransitionDone _ => true
  | .otpRevoke _ data _ => !(([2] : List Nat).contains (field data 46 2))
  | .otpRaiseSvn _ data _ => field data 46 2 == 2
  | .identityKeyReady => true
  | .reportGenerate _ _ => true
  | .reportDone => true
  | .thermalSample sensors engines => sensors.length == 48 && engines.length == 18
  | .thermtrip => true
  | .gpioEdge _ _ => true
  | .extest _ => true
  | .idcode _ => true
  | .samplePreload _ => true
  | .clamp _ => true
  | .highz _ => true
  | .extestPulse _ => true
  | .extestTrain _ => true
  | .bypass _ _ => true
  | .factoryInstruction opcode _ => decide (0x80 ≤ opcode.toNat) && decide (opcode.toNat ≤ 0xFE)
  | .tapTestExit _ => true
  | .tapReset _ => true
  | .rcRegisterRead r at_ => r.reaches at_
  | .hostLinkUp _ rate width _ => decide (1 ≤ rate.val) && decide (rate.val ≤ 6) && [1, 2, 4].contains width.val
  | .sriovVfEnable _ _ => true
  | .flrComplete _ => true
  | .msixUnmask _ _ => true
  | .lmPresNHigh _ => true
  | .patCheckerLock _ => true
  | .stackInterfaceLoss _ => true
  | .referenceValid _ _ => true

end Sys2Proof
end

