-- ==== Sys2Proof/Certificates/Slice0/Obligations.lean ====
section
/-!
DEFINITION. Sys2Proof/Certificates/Slice0/Obligations.lean: the statements about the model.
-/
open Sys2Proof Sys2Proof.Machine

/-! ## The whole machine -/

/-- The block's one rule of a step (tier 1): with a command at the front of the queue, a step is that command's meaning on the state with
the rest of the queue. -/
def Obligations.StepRunsFront : Prop :=
  ∀ (c : Instr) (rest : List Instr) (s : State), s.pending = c :: rest → step s = exec c { s with pending := rest }

/-- R541, R543, R641 (tier 1; that a step on an empty queue is one microsecond of the datum clock is the model's choice, assumption 2): W
moves on by its rate where it is set, and waits where it is not; no command acts. -/
def Obligations.IdleTick : Prop :=
  ∀ s : State, s.pending = [] → ∃ u, step s = .next u ∧ u.pending = [] ∧ u.time.us = s.time.us + 1 ∧
    (s.flag Page.dtm DTM.DTM_STATUS_W_SET = true → (u.time.w : Int) = max 0 ((s.time.w : Int) + usUnits + s.datums.gain)) ∧
    (s.flag Page.dtm DTM.DTM_STATUS_W_SET = false → u.time.w = s.time.w) ∧
    (s.flag Page.dev DEV.DEV_STATUS_HOLD = true → s.aon.holdEnd ≤ s.time.us + 1 + 65535000 →
      u.fld Page.dev DEV.DEV_STATUS_HOLD_LEFT = (s.aon.holdEnd - (s.time.us + 1) + 999) / 1000) ∧
    ({ s with time := u.time, datums := u.datums } : State).Aside u (fun a => a = slotAddr Page.dev DEV.DEV_STATUS 0)

/-- R683 (tier 3): in every state that a step answers, FAULT_N is low (FAULT_STATUS.ASSERTED) while any page whose domain is on is HALTED,
and high otherwise. -/
def Obligations.FaultPinFollows : Prop :=
  ∀ (s t : State), step s = .next t → (t.flag Page.thm THM.FAULT_STATUS_ASSERTED = true ↔
    ∃ p : Page, (Page.kind p).isSome = true ∧ t.powered p = true ∧ t.fld p TB.PAGE_STATE_STATE = 5)

/-- R91 and the reset values of the register tables (tier 1): what reset leaves in registers of every group, in the parcels, in the lanes
and in the queues, and that FAULT_N is high and no page HALTED then (R683). The model's readings that it may rest on are its own:
assumptions 4, 7. -/
def Obligations.ResetValues : Prop :=
  (∀ e ∈ [(slotAddr Page.dev DEV.DEV_INFO 0, 0x07680000B100), (slotAddr Page.dev DEV.DEV_STATUS 0, 0xFA0000000001),
      (slotAddr Page.clk CLK.CLK_CTL 0, 0x8), (slotAddr Page.pwr PWR.PWR_CTL 0, 0x3FFFFFFF), (slotAddr Page.thm THM.THM_CFG 0, 0x917D),
      (slotAddr Page.thm THM.THM_SENSOR 15, 0x800080008000), (slotAddr (Page.pcl 0) PCL.PARCEL_CFG 0, 1),
      (slotAddr (Page.pcl 0) PCL.BUF_QUOTA 0, 0x140000000000), (slotAddr (Page.pcl 0) PCL.RES_QUOTA 0, 0x100020010000),
      (slotAddr (Page.pcl 0) PCL.RATE_QUOTA 0, 0xFFFFFFFFFFFF), (slotAddr (Page.pcl 0) PCL.HBM_QUOTA 0, 0x3000000),
      (slotAddr (Page.lmp 35) LMP.FAIL_CFG 0, 0x41E), (slotAddr (Page.oln 575) LN.LANE_CTL 0, 0x6004),
      (slotAddr (Page.eln 191) ELN.TX_EQ 0, 0x400000000000), (slotAddr (Page.oln 0) OLN.LOS_CFG 0, 0x23),
      (slotAddr (Page.pen 191) PEN.PFC_MAP 3, 0xFF6B646D2240), (slotAddr (Page.pen 0) PEN.LP_CTL 1, 0x120000000),
      (slotAddr (Page.msc 23) MSC.LP_SEC 31, 0x40000), (slotAddr (Page.prs 24) PRS.HASH_CFG 0, 0x300000000),
      (slotAddr (Page.trv 0) TRV.TRV_CTL 0, 3), (slotAddr (Page.trv 24) TRV.BRIDGE_MASK 3, 0xFFFFFF000000),
      (slotAddr (Page.tbc 0) TBC.ROW_STATUS 0, 0x280), (slotAddr Page.spr SPR.SPR_CTL 0, 0x40000000A),
      (slotAddr Page.bpm BPM.POOL_CFG 0, 0xB00), (slotAddr Page.bpm BPM.POOL_CFG 1, 0), (slotAddr Page.tmc TMC.TM_CFG 0, 0x800000000000),
      (slotAddr Page.dtm DTM.W_CTL 0, 0x50019190), (slotAddr Page.tel TEL.METER_CFG 0, 0x914), (slotAddr Page.dmp DMP.DMP_PERIOD 0, 0xF4240),
      (slotAddr Page.ovm OVM.RES_STATUS 0, 0xCCCC00B851)], State.reset.slot e.1 = BitVec.ofNat 48 e.2) ∧
  (∀ p, p < 4096 → State.reset.pclFld p PCL.PARCEL_CFG_VALID = (if p = 0 then 1 else 0) ∧
    (p ≠ 0 → State.reset.pclFld p PCL.BUF_QUOTA = 0 ∧ State.reset.pclFld p PCL.RES_QUOTA = 0 ∧
      State.reset.pclFld p PCL.RATE_QUOTA = 0 ∧ State.reset.pclFld p PCL.HBM_QUOTA = 0)) ∧
  (∀ l, l < 768 → State.reset.lstate l = 0) ∧ (∀ d, d < 30 → State.reset.domainUp d = false) ∧
  (∀ n, State.reset.queue n = {}) ∧ State.reset.pending = [] ∧ State.reset.pkts = [] ∧ State.reset.time.w = 0 ∧
  State.reset.flag Page.thm THM.FAULT_STATUS_ASSERTED = false ∧
  ∀ p : Page, (Page.kind p).isSome = true → State.reset.fld p TB.PAGE_STATE_STATE ≠ 5

/-! ## Host ports and pages (02_host_interface_and_pages.md) -/

/-- R70, R73 (tier 2): what makes a write to a page acceptable to the owner check, in every state: a page that is no system page is
written by the function that PAGE_OWNER names, by a physical function where BOTH_PF is set, and, at PAGE_OWNER, by either physical
function; a system page never by a virtual function (R75). The model's readings that it may rest on are its own: assumption 13. -/
def Obligations.OwnerCheck : Prop :=
  ∀ (s : State) (fn page : Nat) (toOwner : Bool) (k : Kind) (n : Nat), Page.kind page = some (k, n) →
    (k.system = false → (s.mayWrite fn page toOwner = true ↔
      (s.fld page TB.PAGE_OWNER_FUNCTION = fn ∨ isPF fn = true ∧ s.fld page TB.PAGE_OWNER_BOTH_PF = 1 ∨ isPF fn = true ∧ toOwner = true))) ∧
    (k.system = true → (s.mayWrite fn page toOwner = true ↔
      isPF fn = true ∧ (s.fld page TB.PAGE_OWNER_FUNCTION = fn ∨ s.fld page TB.PAGE_OWNER_BOTH_PF = 1 ∨ toOwner = true)))

/-- R72, R76, R78, R79, R691 (tier 2): a write that the owner check refuses is discarded; OWNER_VIOLATION is set in the target page
whatever EVENT_ENABLE holds, EVENT_FIRST takes the event where EVENT_STATUS was zero, and ERR_ADDR of the carrying port captures the
access with CAUSE 0, FUNCTION, WRITE and OFFSET unless it holds an earlier capture. Stated of the writes of EVENT_ENABLE. The model's
readings that it may rest on are its own: assumption 13. -/
def Obligations.RefusedWrite : Prop :=
  ∀ (s : State) (r : Req) (page : Nat) (data : Word), page < 0x8000 →
    s.fate r (slotAddr page TB.EVENT_ENABLE 0) false = .owner →
    ∃ t, exec (.eventEnableWrite r page data) s = .next t ∧
      t.reg page TB.EVENT_ENABLE = s.reg page TB.EVENT_ENABLE ∧
      t.raised page TB.S_OWNER_VIOLATION = true ∧
      (s.reg page TB.EVENT_STATUS = 0 →
        t.reg page TB.EVENT_FIRST = eventRecord 0 (s.severity page TB.S_OWNER_VIOLATION) s.stamp32) ∧
      (s.flag (Page.hif (portOf r.fn)) HIF.ERR_ADDR_VALID = true →
        t.reg (Page.hif (portOf r.fn)) HIF.ERR_ADDR = s.reg (Page.hif (portOf r.fn)) HIF.ERR_ADDR) ∧
      (s.flag (Page.hif (portOf r.fn)) HIF.ERR_ADDR_VALID = false →
        t.reg (Page.hif (portOf r.fn)) HIF.ERR_ADDR =
          BitVec.ofNat 48 (2 ^ 47 + 2 ^ 36 + r.fn.val * 2 ^ 28 + (page * 0x1000 + 0x028) % 2 ^ 28))

/-- PAGE_OWNER_WRITE, EVENT_ENABLE_WRITE, EVENT_STATUS_CLEAR, PAGE_LOCK_SET, PAGE_ENABLE_WRITE, TEST_REQ_WRITE and BLOCK_RESET complete
(tier 2; R70, R75, R56, R612, R607, R690): an accepted write leaves the page's register as its rule gives. The pages of lanes, lane
sequencers, the datum and the overflow memory, whose states follow rules of their own, stand aside in the clauses on EVENT_STATUS and on
the block state; the pages named in the last clause are those whose block reset reaches no other unit. The model's readings that it may rest
on are its own: assumptions 10, 11, 20. -/
def Obligations.TitleBlockWrites : Prop :=
  ∀ (s : State) (r : Req) (page : Nat) (data : Word) (k : Kind) (n : Nat), Page.kind page = some (k, n) →
    (s.accepts r page TB.PAGE_OWNER 0 false = true →
      ∃ t, exec (.pageOwnerWrite r page data) s = .next t ∧
        t.reg page TB.PAGE_OWNER = ownerWord k (s.reg page TB.PAGE_OWNER) (mergeHalf r.size (s.reg page TB.PAGE_OWNER) data) ∧
        s.Aside t (fun a => a = slotAddr page TB.PAGE_OWNER 0)) ∧
    (s.accepts r page TB.EVENT_ENABLE 0 false = true →
      ∃ t, exec (.eventEnableWrite r page data) s = .next t ∧
        t.reg page TB.EVENT_ENABLE = mergeHalf r.size (s.reg page TB.EVENT_ENABLE) data ∧
        s.Aside t (fun a => a = slotAddr page TB.EVENT_ENABLE 0)) ∧
    (s.accepts r page TB.EVENT_STATUS 0 false = true → k ∉ [.oln, .eln, .lsq, .dtm] →
      ∃ t, exec (.eventStatusClear r page data) s = .next t ∧
        t.reg page TB.EVENT_STATUS = without (s.reg page TB.EVENT_STATUS)
          (s.clearable page ((mergeHalf r.size 0 data).toNat % 2 ^ numSources k)) ∧
        s.Aside t (fun _ => False)) ∧
    (s.accepts r page TB.PAGE_STATE 0 false = true → r.size = .w64 → Word.bit data 4 = false → k ∉ [.oln, .eln, .lsq, .dtm, .ovm] →
      s.fld page TB.PAGE_STATE_STATE ∈ [2, 3, 4, 6] →
      ∀ c, c = Instr.pageLockSet r page data ∨ c = Instr.pageEnableWrite r page data ∨ c = Instr.testReqWrite r page data →
      ∃ t, exec c s = .next t ∧
        t.flag page TB.PAGE_STATE_LOCK = (s.flag page TB.PAGE_STATE_LOCK || Word.bit data 7) ∧
        t.flag page TB.PAGE_STATE_ENABLE = Word.bit data 5 ∧ t.flag page TB.PAGE_STATE_TEST_REQ = Word.bit data 6 ∧
        t.fld page TB.PAGE_STATE_STATE =
          (if Word.bit data 6 then 6 else if Word.bit data 5 then (if (s.pg page).heldD != 0 || (s.pg page).degr then 4 else 3) else 2) ∧
        s.Aside t (fun _ => False)) ∧
    (s.accepts r page TB.PAGE_STATE 0 false = true → r.size = .w64 → Word.bit data 4 = true → k ∈ [.dev, .clk, .pwr, .fls, .thm, .mgb] →
      ∀ w, ∃ t, exec (.blockReset r page data w) s = .next t ∧
        t.flag page TB.PAGE_STATE_LOCK = false ∧ t.flag page TB.PAGE_STATE_ENABLE = false ∧ t.flag page TB.PAGE_STATE_TEST_REQ = false ∧
        t.fld page TB.PAGE_STATE_STATE = (if (s.pg page).heldH != 0 then 5 else 2) ∧
        t.reg page TB.EVENT_SEVERITY_LO = regReset (slotAddr page TB.EVENT_SEVERITY_LO 0) ∧
        t.reg page TB.EVENT_STATUS = s.reg page TB.EVENT_STATUS ∧ t.reg page TB.PAGE_OWNER = s.reg page TB.PAGE_OWNER ∧
        t.reg page TB.SCRATCH = s.reg page TB.SCRATCH)

/-- REGISTER_WRITE, RC_REGISTER_READ, ERR_ADDR_READ, REG_TIMEOUT, UNACCEPTED_FUNCTION_REQUEST, BULK_WINDOW_ACCESS and MSIX_UNMASK complete
(tier 2; R13, R32, R61, R68, R691, R692, R58). A plain write stores what the register's access codes and its own rules make of it, and where no
further effect follows at once it changes nothing else; CTR_WRAP of a port engine and OEN_CTL, whose writes reach counters and lanes, stand
aside. A read returns the register's word and clears its RC fields. The model's readings that it may rest on are its own: assumptions 12,
13, 14, 17. -/
def Obligations.Accesses : Prop :=
  (∀ (s : State) (r : Req) (at_ : BarAddr) (data : BitVec 64) (a : Nat) (k : Kind) (n : Nat) (row : RegRow) (w : Word),
    s.spot r.fn at_ = .slot a → Page.kind (pageOfAddr a) = some (k, n) → rowAt k (a - pageOfAddr a * 0x1000) = some row →
    ownRow k (a - pageOfAddr a * 0x1000) = false → (k = .pen → a - pageOfAddr a * 0x1000 < 0x700 ∨ 0x740 ≤ a - pageOfAddr a * 0x1000) →
    ¬ (k = .oen ∧ a - pageOfAddr a * 0x1000 = OEN.OEN_CTL.off) → s.fate r a row.marked = .ok → Plain a →
    (s.flag (pageOfAddr a) TB.PAGE_STATE_LOCK && row.hitsLock r.size) = false →
    s.admits (pageOfAddr a) k (a - pageOfAddr a * 0x1000) (s.slot a)
      (row.stored r.size (s.slot a) (slotWord data) (s.flag (pageOfAddr a) TB.PAGE_STATE_LOCK)) = some w →
    ∃ t, exec (.registerWrite r at_ data) s = .next t ∧ t.slot a = w ∧
      (k ∉ [.oln, .eln, .dmp, .dtm, .thm] → s.Aside t (fun b => b = a))) ∧
  (∀ (s : State) (r : Req) (at_ : BarAddr) (a : Nat) (row : RegRow),
    s.spot r.fn at_ = .slot a → rowOf a = some row → ownRead a = false → Quiet a →
    s.readFate r a (row.fields.any (fun f => f.acc == .rc) || row.ctr) = .ok →
    ∃ t, exec (.rcRegisterRead r at_) s = .next t ∧ t.out = .readData r.fn (readPart r.size (s.slotView a)) :: s.out ∧
      t.slot a = (if row.fields.any (fun f => f.acc == .rc) then
        row.fields.foldl (fun w f => if f.acc == .rc then Word.setBits w f.lo f.w 0 else w) (s.slot a) else s.slot a)) ∧
  (∀ (s : State) (r : Req) (h : Fin 2), s.readFate r (slotAddr (Page.hif h) HIF.ERR_ADDR 0) true = .ok →
    ∃ t, exec (.errAddrRead r h) s = .next t ∧
      t.out = .readData r.fn (readPart r.size (s.reg (Page.hif h) HIF.ERR_ADDR)) :: s.out ∧ t.reg (Page.hif h) HIF.ERR_ADDR = 0 ∧
      s.Aside t (fun a => a = slotAddr (Page.hif h) HIF.ERR_ADDR 0)) ∧
  (∀ (s : State) (r : Req) (at_ : BarAddr) (write : Bool), s.open_ r.fn = true →
    ∃ t, exec (.regTimeout r at_ write) s = .next t ∧ t.raised (Page.hif (portOf r.fn)) HIF.S_REG_TIMEOUT = true ∧
      (write = false → t.out.head? = some (.readData r.fn 0)) ∧
      s.Aside t (fun a => a = slotAddr (Page.hif (portOf r.fn)) HIF.ERR_ADDR 0)) ∧
  (∀ (s : State) (fn : Fin 256) (write : Bool), s.portUp (portOf fn) = true → s.accepting fn = false →
    ∃ t, exec (.unacceptedFunctionRequest fn write) s = .next t ∧ (t.fn fn).ur = true ∧
      (write = false → t.out = .unsupported fn :: s.out) ∧
      ∀ a, a ≠ slotAddr Page.thm THM.FAULT_STATUS 0 → t.slot a = s.slot a) ∧
  (∀ (s : State) (r : Req) (n : Fin 8) (off : Fin 16777216) (ecc : EccFound) (v : BitVec 64), s.portUp (portOf r.fn) = true →
    s.accepting r.fn = true → isPF r.fn = true → r.size = .w64 → off.val % 8 = 0 →
    s.flag (Page.hif (portOf r.fn)) HIF.HIF_CTL_BULK_EN = true →
    (s.fld (Page.hif (portOf r.fn)) HIF.BW_BASE_BASE n < 0x600 ∨ s.fld (Page.hif (portOf r.fn)) HIF.BW_BASE_BASE n = 0x700) →
    s.bulkValue (s.fld (Page.hif (portOf r.fn)) HIF.BW_BASE_BASE n) off = some v →
    ∃ t, exec (.bulkWindowAccess r n off none ecc) s = .next t ∧ t.out = .readData r.fn v :: s.out ∧ s.Aside t (fun _ => False)) ∧
  (∀ (s : State) (r : Req) (n : Fin 8) (off : Fin 16777216) (ecc : EccFound) (data : Option (BitVec 64)), s.portUp (portOf r.fn) = true →
    s.accepting r.fn = true → (isPF r.fn = false ∨ r.size ≠ .w64 ∨ s.flag (Page.hif (portOf r.fn)) HIF.HIF_CTL_BULK_EN = false) →
    ∃ t, exec (.bulkWindowAccess r n off data ecc) s = .next t ∧ t.raised (Page.hif (portOf r.fn)) TB.S_ACCESS_SIZE = true ∧
      (data = none → t.out.head? = some (.readData r.fn 0)) ∧
      s.Aside t (fun a => a = slotAddr (Page.hif (portOf r.fn)) HIF.ERR_ADDR 0)) ∧
  (∀ (s : State) (fn : Fin 256) (vec : Fin 2048), s.portUp (portOf fn) = true → vec.val < msixSize fn →
    ∃ t, exec (.msixUnmask fn vec) s = .next t ∧ (t.msix.get (msixKey fn vec) dflt.msix).mask = false ∧
      (t.msix.get (msixKey fn vec) dflt.msix).pend = false ∧ s.Aside t (fun _ => False))

/-- HOST_LINK_UP, HOST_LINK_DOWN, HOST_POWER_STATE, SRIOV_VF_ENABLE, FUNCTION_LEVEL_RESET, FLR_COMPLETE, PERST_ASSERT and PERST_DEASSERT
complete (tier 2; R46, R47, R49, R50, R89, R640, R642): the port's LINK_STATUS, the function's command state, and the rings of a function
in Function Level Reset, which are disabled with HEAD and TAIL zero and their RING_BASE kept. The model's readings that it may rest on are
its own: assumptions 8, 9, 15. -/
def Obligations.PortsAndFunctions : Prop :=
  (∀ (s : State) (h : Fin 2) (rate width : Fin 8) (flit : Bool), s.aon.por = false → s.hosts.perst.getD h false = false →
    s.scanStops = false → 1 ≤ rate.val → rate.val ≤ 6 → width.val ∈ [1, 2, 4] → (rate.val = 6 → flit = true) →
    ∃ t, exec (.hostLinkUp h rate width flit) s = .next t ∧ t.flag (Page.hif h) HIF.LINK_STATUS_LINK_UP = true ∧
      t.fld (Page.hif h) HIF.LINK_STATUS_WIDTH = width ∧ t.fld (Page.hif h) HIF.LINK_STATUS_RATE = rate ∧
      t.flag (Page.hif h) HIF.LINK_STATUS_FLIT = flit ∧
      t.fld (Page.hif h) HIF.LINK_STATUS_NUM_VFS = s.fld (Page.hif h) HIF.LINK_STATUS_NUM_VFS ∧
      s.Aside t (fun a => a = slotAddr (Page.hif h) HIF.LINK_STATUS 0)) ∧
  (∀ (s : State) (h : Fin 2),
    ∃ t, exec (.hostLinkDown h) s = .next t ∧ t.flag (Page.hif h) HIF.LINK_STATUS_LINK_UP = false ∧
      t.fld (Page.hif h) HIF.LINK_STATUS_WIDTH = 0 ∧
      (s.flag (Page.hif h) HIF.LINK_STATUS_LINK_UP = true → t.raised (Page.hif h) HIF.S_LINK_DOWN = true)) ∧
  (∀ (s : State) (fn : Fin 256) (mse bme d3hot : Bool), s.portUp (portOf fn) = true → (s.fn fn).flr = false →
    ∃ t, exec (.hostPowerState fn mse bme d3hot) s = .next t ∧ t.fn fn = { s.fn fn with mse := mse, bme := bme, d3hot := d3hot } ∧
      ∀ g, g ≠ fn.val → t.fn g = s.fn g) ∧
  (∀ (s : State) (h : Fin 2) (n : Fin 128), s.portUp h = true → (s.fn (128 * h.val)).flr = false →
    ∃ t, exec (.sriovVfEnable h n) s = .next t ∧ t.fld (Page.hif h) HIF.LINK_STATUS_NUM_VFS = n) ∧
  (∀ (s : State) (fn : Fin 256), s.portUp (portOf fn) = true →
    ∃ t, exec (.functionLevelReset fn) s = .next t ∧ (t.fn fn).flr = true ∧
      ∀ i, i < (ringsOf fn).2 →
        t.ringFld (portOf fn) ((ringsOf fn).1 + i) DMQ.RING_CFG_ENABLE = 0 ∧
        t.ringFld (portOf fn) ((ringsOf fn).1 + i) DMQ.RING_HEAD_HEAD = 0 ∧
        t.ringFld (portOf fn) ((ringsOf fn).1 + i) DMQ.RING_TAIL_TAIL = 0) ∧
  (∀ (s : State) (fn : Fin 256), (s.fn fn).flr = true →
    ∃ t, exec (.flrComplete fn) s = .next t ∧ (t.fn fn).flr = false ∧
      (isPF fn = false → t.raised (Page.hif (portOf fn)) HIF.S_VF_FLR = true)) ∧
  (∀ (s : State) (h : Fin 2),
    ∃ t, exec (.perstAssert h) s = .next t ∧ t.portUp h = false ∧ t.flag (Page.hif h) HIF.LINK_STATUS_LINK_UP = false ∧
      t.fld (Page.hif h) HIF.HIF_CTL_DMA_EN = 0) ∧
  (∀ (s : State) (h : Fin 2),
    ∃ t, exec (.perstDeassert h) s = .next t ∧ t.hosts.perst = s.hosts.perst.set h false ∧
      ∀ a, a ≠ slotAddr Page.thm THM.FAULT_STATUS 0 → t.slot a = s.slot a)

/-- LOG_SNAPSHOT, VFE_LOG_SNAP, RING_TAIL_WRITE, RX_RING_DELIVERY and TX_DESCRIPTOR complete (tier 2; R81, R84, R86, R87, R89). A snapshot
copies the log, its count and LOST and empties the log; TAIL is taken modulo the ring size; a packet that its ring holds advances HEAD
past its descriptors, and one that finds too few is dropped and counted at the ring and under its reason code. The model's readings that it
may rest on are its own: assumptions 21, 22. -/
def Obligations.RingsAndLogs : Prop :=
  (∀ (s : State) (r : Req) (h : Fin 2) (data : Word), s.accepts r (Page.hif h) HIF.LOG_SEL 0 true = true →
    s.snapFate r.fn (Word.bits data 0 16) = .ok →
    ∃ t, exec (.logSnapshot r h data) s = .next t ∧
      t.reg (Page.hif h) HIF.LOG_STATUS =
        logStatus false (s.flag (Word.bits data 0 16) TB.PAGE_STATE_LOST) (s.pg (Word.bits data 0 16)).log.length ∧
      (∀ e, e < 16 → e < (s.pg (Word.bits data 0 16)).log.length →
        t.reg (Page.hif h) HIF.LOG_ENTRY e = (s.pg (Word.bits data 0 16)).log.getD e 0) ∧
      (t.pg (Word.bits data 0 16)).log = [] ∧ t.fld (Word.bits data 0 16) TB.PAGE_STATE_LOG_COUNT = 0 ∧
      t.flag (Word.bits data 0 16) TB.PAGE_STATE_LOST = false) ∧
  (∀ (s : State) (r : Req) (data : Word), isPF r.fn = false → Word.bit data 0 = true →
    s.accepts r (Page.vfe r.fn) VFE.LOG_SNAP 0 true = true →
    ∃ t, exec (.vfeLogSnap r data) s = .next t ∧
      t.reg (Page.vfe r.fn) VFE.LOG_STATUS =
        logStatus false (s.flag (Page.vfe r.fn) TB.PAGE_STATE_LOST) (s.pg (Page.vfe r.fn)).log.length ∧
      (t.pg (Page.vfe r.fn)).log = [] ∧ t.fld (Page.vfe r.fn) TB.PAGE_STATE_LOG_COUNT = 0) ∧
  (∀ (s : State) (r : Req) (ring h n : Nat) (data : Word), ringOf ring = some (h, n) → isPF r.fn = true →
    s.accepts r (ringPage h n) DMQ.RING_TAIL (ringSlot n) false = true →
    ∃ t, exec (.ringTailWrite r ring data) s = .next t ∧
      t.ringFld h n DMQ.RING_TAIL_TAIL =
        Word.bits (mergeHalf r.size (s.reg (ringPage h n) DMQ.RING_TAIL (ringSlot n)) data) 0 15 % s.ringSize h n % 2 ^ 15 ∧
      t.ringMsg.get (ringKey h n) false = false) ∧
  (∀ (s : State) (ring h n : Nat) (posted : List (List Byte)) (c : HostCopy) (l : List (List Byte × Nat)),
    ringOf ring = some (h, n) → s.hostCopies.find? (fun x => x.ring == ring) = some c → c.chain = 0 → s.ringWorks h n = true →
    s.ringFld h n DMQ.RING_CFG_DIR = 0 → spreadOver c.bytes.length (posted.take (s.ringPosted h n)) = some l →
    ∃ t, exec (.rxRingDelivery ring posted true) s = .next t ∧
      t.ringFld h n DMQ.RING_HEAD_HEAD = (s.ringHead h n + l.length) % s.ringSize h n % 2 ^ 15 ∧
      t.hostCopies = s.hostCopies.erase c) ∧
  (∀ (s : State) (ring h n : Nat) (posted : List (List Byte)) (c : HostCopy),
    ringOf ring = some (h, n) → s.hostCopies.find? (fun x => x.ring == ring) = some c → c.chain = 0 → s.ringWorks h n = true →
    s.ringFld h n DMQ.RING_CFG_DIR = 0 → spreadOver c.bytes.length (posted.take (s.ringPosted h n)) = none →
    c.reason < 256 →
    ∃ t, exec (.rxRingDelivery ring posted true) s = .next t ∧
      (t.reg (ringPage h n) DMQ.RING_DROP (ringSlot n)).toNat = ((s.reg (ringPage h n) DMQ.RING_DROP (ringSlot n)).toNat + 1) % 2 ^ 48 ∧
      t.ringFld h n DMQ.RING_HEAD_HEAD = s.ringFld h n DMQ.RING_HEAD_HEAD ∧ t.raised (Page.hif h) HIF.S_RING_FULL = true) ∧
  (∀ (s : State) (ring h n : Nat) (desc data : List Byte), ringOf ring = some (h, n) → s.ringWorks h n = true →
    s.ringFld h n DMQ.RING_CFG_DIR = 1 → s.ringPosted h n ≠ 0 → bufLen (fit 32 desc) ≠ 0 →
    Nat.bitAt (byteAt (fit 32 desc) 12) 1 = !(s.txParts.get (ringKey h n) dflt.txPart).begun →
    ∃ t, exec (.txDescriptor ring desc data .ok) s = .next t ∧
      t.ringFld h n DMQ.RING_HEAD_HEAD = (s.ringHead h n + 1) % s.ringSize h n % 2 ^ 15)


/-! ## Parcels and easements (03_parcels_and_easements.md) -/

/-- BUF_QUOTA_WRITE, PARCEL_CFG_WRITE and RATE_QUOTA_WRITE complete (tier 2; R91, R101, R103): a quota with MAX_CELLS below MIN_CELLS, or
whose MIN_CELLS bring the sum over valid parcels above the cells of the islands in service, is not stored and sets its source; any other
is stored. A sum equal to those cells is accepted. A write of RATE_QUOTA fills both buckets of the parcel. The model's readings that it may
rest on are its own: assumptions 24, 25. -/
def Obligations.ParcelWrites : Prop :=
  ∀ (s : State) (r : Req) (p : Fin 4096) (data new : Word),
    (s.accepts r (pclPage p) PCL.BUF_QUOTA (pclSlot p) false = true →
      new = mergeHalf r.size (s.reg (pclPage p) PCL.BUF_QUOTA (pclSlot p)) data →
      (Word.bits new 24 21 < Word.bits new 0 21 →
        ∃ t, exec (.bufQuotaWrite r p data) s = .next t ∧ t.raised (pclPage p) PCL.S_QUOTA_FORMAT = true ∧
          t.reg (pclPage p) PCL.BUF_QUOTA (pclSlot p) = s.reg (pclPage p) PCL.BUF_QUOTA (pclSlot p)) ∧
      (Word.bits new 0 21 ≤ Word.bits new 24 21 → s.parcelValid p = true → s.cellsIn < s.minSum p + Word.bits new 0 21 →
        ∃ t, exec (.bufQuotaWrite r p data) s = .next t ∧ t.raised (pclPage p) PCL.S_MIN_OVERCOMMIT = true ∧
          t.reg (pclPage p) PCL.BUF_QUOTA (pclSlot p) = s.reg (pclPage p) PCL.BUF_QUOTA (pclSlot p)) ∧
      (Word.bits new 0 21 ≤ Word.bits new 24 21 → (s.parcelValid p = false ∨ s.minSum p + Word.bits new 0 21 ≤ s.cellsIn) →
        ∃ t, exec (.bufQuotaWrite r p data) s = .next t ∧ t.pclFld p PCL.BUF_QUOTA_MAX_CELLS = Word.bits new 24 21 ∧
          t.pclFld p PCL.BUF_QUOTA_MIN_CELLS = Word.bits new 0 21 ∧
          s.Aside t (fun a => a = slotAddr (pclPage p) PCL.BUF_QUOTA (pclSlot p)))) ∧
    (s.accepts r (pclPage p) PCL.PARCEL_CFG (pclSlot p) false = true →
      new = mergeHalf r.size (s.reg (pclPage p) PCL.PARCEL_CFG (pclSlot p)) data →
      (Word.bit new 0 = true → s.parcelValid p = false → s.cellsIn < s.minSum p + s.pclFld p PCL.BUF_QUOTA_MIN_CELLS →
        ∃ t, exec (.parcelCfgWrite r p data) s = .next t ∧ t.raised (pclPage p) PCL.S_MIN_OVERCOMMIT = true ∧
          t.parcelValid p = false) ∧
      ((Word.bit new 0 = false ∨ s.parcelValid p = true ∨ s.minSum p + s.pclFld p PCL.BUF_QUOTA_MIN_CELLS ≤ s.cellsIn) →
        ∃ t, exec (.parcelCfgWrite r p data) s = .next t ∧ t.parcelValid p = Word.bit new 0 ∧
          t.pclFld p PCL.PARCEL_CFG_PROFILE = Word.bits new 1 8 ∧ t.pclFld p PCL.PARCEL_CFG_STRICT = Word.bits new 9 1 ∧
          s.Aside t (fun a => a = slotAddr (pclPage p) PCL.PARCEL_CFG (pclSlot p)))) ∧
    (s.accepts r (pclPage p) PCL.RATE_QUOTA (pclSlot p) false = true →
      new = mergeHalf r.size (s.reg (pclPage p) PCL.RATE_QUOTA (pclSlot p)) data →
      ∃ t, exec (.rateQuotaWrite r p data) s = .next t ∧ t.reg (pclPage p) PCL.RATE_QUOTA (pclSlot p) = new ∧
        (t.bucketsNow p).stake = bucketSize (Word.bits new 24 24) ∧ (t.bucketsNow p).copy = bucketSize (Word.bits new 0 24))

/-- QUOTA_PROFILE_READ and _WRITE, FUNCTION_BINDING_READ and _WRITE, EASEMENT_READ and _WRITE, PAGE_WINDOW_READ and _WRITE complete
(tier 2; R96, R102, R111, R693, R694): an accepted command that finds BUSY clear and an index in range moves the entry between PCL0's
data registers and its table; a valid easement that doubles another's source and destination, or whose source is its destination, and a
valid window that names no page of R65, are not stored and set ERROR; every stored write restarts the easement's count at 0. The model's
readings that it may rest on are its own: assumption 26. -/
def Obligations.IndirectParcels : Prop :=
  ∀ (s : State) (r : Req) (i : Fin 65536), s.accepts r (Page.pcl 0) PCL.IND_CMD 0 true = true →
    s.flag (Page.pcl 0) PCL.IND_STATUS_BUSY = false →
    (i.val < 4096 →
      (∃ t, exec (.quotaProfileRead r i) s = .next t ∧ t.pclData 0 = BitVec.ofNat 48 (s.profiles.get i dflt.profile) ∧
        t.flag (Page.pcl 0) PCL.IND_STATUS_ERROR = false ∧ t.profiles = s.profiles) ∧
      (∃ t, exec (.quotaProfileWrite r i) s = .next t ∧ t.profiles.get i dflt.profile = Word.bits (s.pclData 0) 0 32 ∧
        t.flag (Page.pcl 0) PCL.IND_STATUS_ERROR = false ∧
        ({ s with profiles := t.profiles } : State).Aside t (fun a => a = slotAddr (Page.pcl 0) PCL.IND_STATUS 0)) ∧
      (∃ t, exec (.easementRead r i) s = .next t ∧ t.pclData 0 = BitVec.ofNat 48 (easementWord (s.easements.get i dflt.easement)) ∧
        t.pclData 1 = BitVec.ofNat 48 (s.easements.get i dflt.easement).count ∧ t.easements = s.easements)) ∧
    (isVF i = true →
      (∃ t, exec (.functionBindingRead r i) s = .next t ∧
        t.pclData 0 = BitVec.ofNat 48 (bindingWord (s.bindings.get i dflt.binding)) ∧ t.bindings = s.bindings) ∧
      (∃ t, exec (.functionBindingWrite r i) s = .next t ∧
        t.bindings.get i dflt.binding = bindingSlots (s.pclData 0) ++ bindingSlots (s.pclData 1) ++ bindingSlots (s.pclData 2) ∧
        t.fld (Page.vfe i) TB.PAGE_OWNER_PARCEL = Word.bits (s.pclData 0) 0 12)) ∧
    (i.val < 4096 → Word.bit (s.pclData 0) 47 = true →
      ((∃ e ∈ s.easements, e.1 ≠ i.val ∧ e.2.valid = true ∧ e.2.src = Word.bits (s.pclData 0) 24 12 ∧ e.2.dst = Word.bits (s.pclData 0) 12 12) ∨
        Word.bits (s.pclData 0) 24 12 = Word.bits (s.pclData 0) 12 12) →
      ∃ t, exec (.easementWrite r i) s = .next t ∧ t.easements = s.easements ∧ t.flag (Page.pcl 0) PCL.IND_STATUS_ERROR = true ∧
        t.raised (Page.pcl 0) PCL.S_IND_ERROR = true) ∧
    (i.val < 4096 → (Word.bit (s.pclData 0) 47 = false ∨
      (¬ (∃ e ∈ s.easements, e.1 ≠ i.val ∧ e.2.valid = true ∧ e.2.src = Word.bits (s.pclData 0) 24 12 ∧
          e.2.dst = Word.bits (s.pclData 0) 12 12) ∧ Word.bits (s.pclData 0) 24 12 ≠ Word.bits (s.pclData 0) 12 12)) →
      ∃ t, exec (.easementWrite r i) s = .next t ∧ t.easements.get i dflt.easement = easementOf (s.pclData 0) ∧
        (t.easements.get i dflt.easement).count = 0 ∧ t.flag (Page.pcl 0) PCL.IND_STATUS_ERROR = false) ∧
    (isVF (i / 16) = true →
      (∃ t, exec (.pageWindowRead r i) s = .next t ∧
        t.pclData 0 = BitVec.ofNat 48 (b2n (s.windows.get i dflt.window).valid * 2 ^ 47 + (s.windows.get i dflt.window).page) ∧
        t.windows = s.windows) ∧
      (Word.bit (s.pclData 0) 47 = true → (Page.kind (Word.bits (s.pclData 0) 0 16)).isNone = true →
        ∃ t, exec (.pageWindowWrite r i) s = .next t ∧ t.windows = s.windows ∧ t.flag (Page.pcl 0) PCL.IND_STATUS_ERROR = true) ∧
      ((Word.bit (s.pclData 0) 47 = false ∨ (Page.kind (Word.bits (s.pclData 0) 0 16)).isSome = true) →
        ∃ t, exec (.pageWindowWrite r i) s = .next t ∧
          t.windows.get i dflt.window = { valid := Word.bit (s.pclData 0) 47, page := Word.bits (s.pclData 0) 0 16 } ∧
          t.flag (Page.pcl 0) PCL.IND_STATUS_ERROR = false)) ∧
    (4096 ≤ i.val → ∃ t, exec (.easementWrite r i) s = .next t ∧ t.easements = s.easements ∧
      t.flag (Page.pcl 0) PCL.IND_STATUS_ERROR = true)

/-- CMD_TAIL_WRITE and TENANT_COMMAND_DESCRIPTOR complete (tier 2; R84, R112, R114): CMD_TAIL is taken modulo the ring size; a posted
descriptor is answered by one write of STATUS with DONE, after which CMD_HEAD moves to the next descriptor; an OPCODE, TARGET or LENGTH
out of range gives status 5, and a parcel that is not bound to the function or lies outside PARCEL_MASK status 2 with PARCEL_CHECK. The
model's readings that it may rest on are its own: assumption 23. The model's readings that it may rest on are its own: assumption 23. -/
def Obligations.TenantRings : Prop :=
  (∀ (s : State) (r : Req) (c : Fin 4) (data : Word), isPF r.fn = false → s.accepts r (Page.vfe r.fn) VFE.CMD_TAIL c true = true →
    ∃ t, exec (.cmdTailWrite r c data) s = .next t ∧
      t.fld (Page.vfe r.fn) VFE.CMD_TAIL_INDEX c = Word.bits data 0 12 % s.cmdRingSize r.fn c % 2 ^ 12 ∧
      s.Aside t (fun a => a = slotAddr (Page.vfe r.fn) VFE.CMD_TAIL c)) ∧
  (∀ (s u : State) (fn : Fin 256) (c : Fin 4) (d : List Byte) (status : Nat) (words : Option (List Word)), isPF fn = false →
    s.mayDma fn = true → s.flag (Page.vfe fn) VFE.CMD_CFG_ENABLE c = true → d.length = 128 →
    s.fld (Page.vfe fn) VFE.CMD_HEAD_INDEX c % s.cmdRingSize fn c ≠ s.fld (Page.vfe fn) VFE.CMD_TAIL_INDEX c % s.cmdRingSize fn c →
    s.tenantRun fn c d = (u, status, words) →
    ∃ t, exec (.tenantCommandDescriptor fn c (some d)) s = .next t ∧
      t.fld (Page.vfe fn) VFE.CMD_HEAD_INDEX c =
        (u.fld (Page.vfe fn) VFE.CMD_HEAD_INDEX c % u.cmdRingSize fn c + 1) % u.cmdRingSize fn c % 2 ^ 12 ∧
      t.out.head? = some (.hostWrite fn (u.fld (Page.vfe fn) VFE.CMD_BASE_ADDR c * 4096 +
          128 * (u.fld (Page.vfe fn) VFE.CMD_HEAD_INDEX c % u.cmdRingSize fn c))
        (overwrite (overwrite (d.take 32) 3 [1]) 12 (leBytes 1 status)))) ∧
  (∀ (s : State) (fn : Fin 256) (c : Fin 4) (d : List Byte),
    (leAt d 0 2 = 0 ∨ 0x0A < leAt d 0 2 ∨ (25 ≤ byteAt d 2 ∧ byteAt d 2 ≠ 0xFF) ∨ byteAt d 13 = 0 ∨ 16 < byteAt d 13) →
    s.tenantRun fn c d = (s, 5, none)) ∧
  (∀ (s : State) (fn : Fin 256) (c : Fin 4) (d : List Byte), isPF fn = false →
    ¬ (leAt d 0 2 = 0 ∨ 0x0A < leAt d 0 2 ∨ (25 ≤ byteAt d 2 ∧ byteAt d 2 ≠ 0xFF) ∨ byteAt d 13 = 0 ∨ 16 < byteAt d 13) →
    leAt d 4 2 < 1024 → s.cmdBound fn c (leAt d 6 2 % 4096) = false →
    (s.tenantRun fn c d).2.1 = 2 ∧ (s.tenantRun fn c d).1.raised (Page.vfe fn) VFE.S_PARCEL_CHECK = true)

/-- R106, R108 (tier 2): the use of a resource of parcel q by a packet of parcel p. It is free where q is p or the system parcel; through a
valid easement from p to q of the kind of the use the packet belongs to q from then on, counted in EASE_OUT of p and EASE_IN of q; without
one it is refused, counted in DROP_NO_EASEMENT of p, and NO_EASEMENT is set in p's page. -/
def Obligations.UseOfResources : Prop :=
  ∀ (s : State) (p q : Nat) (k : UseKind), p < 4096 → q < 4096 →
    ((q = p ∨ q = 0) → s.useResource p q k = (some p, s)) ∧
    (q ≠ p → q ≠ 0 → (∃ e ∈ s.easements, e.2.valid = true ∧ e.2.src = p ∧ e.2.dst = q ∧ e.2.permits k = true) →
      (s.useResource p q k).1 = some q ∧
      (s.useResource p q k).2.slot (parcelCtr p 0x078) = BitVec.ofNat 48 ((s.slot (parcelCtr p 0x078)).toNat + 1) ∧
      (s.useResource p q k).2.slot (parcelCtr q 0x080) = BitVec.ofNat 48 ((s.slot (parcelCtr q 0x080)).toNat + 1)) ∧
    (q ≠ p → q ≠ 0 → (¬ ∃ e ∈ s.easements, e.2.valid = true ∧ e.2.src = p ∧ e.2.dst = q ∧ e.2.permits k = true) →
      (s.useResource p q k).1 = none ∧
      (s.useResource p q k).2.slot (parcelCtr p 0x048) = BitVec.ofNat 48 ((s.slot (parcelCtr p 0x048)).toNat + 1) ∧
      (s.useResource p q k).2.raised (pclPage p) PCL.S_NO_EASEMENT = true)


/-! ## Octen laser modules (04_octen_laser_modules.md) -/

/-- PRESENCE_DEBOUNCED, IDENTITY_READ, LM_EN_RISE, INTERLOCK_OPEN, WARMING_DONE, WARMING_TIMEOUT, FEED_CHOICE, FEED_FAILURE,
LM_FAULT_ASSERT, LM_PRES_N_HIGH and FEED_SWITCH complete (tier 2; R117, R119, R121, R125, R131, R133, R135, R140): the module states, the
identity check, the interlock, and which feed carries a wavelength. The model's readings that it may rest on are its own: assumption 29. -/
def Obligations.ModuleStates : Prop :=
  (∀ (s : State) (n : Fin 36), s.flag (Page.lmp n) LMP.LMP_STATUS_PRESENT = false →
    ∃ t, exec (.presenceDebounced n true) s = .next t ∧ t.flag (Page.lmp n) LMP.LMP_STATUS_PRESENT = true ∧ t.mstate n = 1 ∧
      t.raised (Page.lmp n) LMP.S_PRESENT_CHANGE = true) ∧
  (∀ (s : State) (n : Fin 36), s.flag (Page.lmp n) LMP.LMP_STATUS_PRESENT = true →
    ∃ t, exec (.presenceDebounced n false) s = .next t ∧ t.flag (Page.lmp n) LMP.LMP_STATUS_PRESENT = false ∧ t.mstate n = 0 ∧
      t.raised (Page.lmp n) LMP.S_PRESENT_CHANGE = true ∧ t.flag (Page.lmp n) LMP.LMP_CTL_ENABLE = false ∧
      t.flag (Page.lmp n) LMP.LMP_CTL_SWAP_REQ = false ∧ t.flag (Page.lmp n) LMP.LMP_STATUS_STUCK = false ∧
      t.flag (Page.lmp n) LMP.LMP_STATUS_SWAP_READY = false ∧ t.flag (Page.lmp n) LMP.LMP_STATUS_ID_OK = false ∧
      t.fld (Page.lmp n) LMP.LMP_STATUS_LASER_FAULT = 0 ∧ t.fld (Page.lmp n) LMP.LMP_STATUS_STANDBY_OK = 0 ∧
      t.fld (Page.lmp n) LMP.LMP_STATUS_CARRY = 0) ∧
  (∀ (s : State) (n : Fin 36) (l wear : List Byte) (adj : Int), s.served n = true → s.mstate n = 1 →
    (identityGood l = true → ∃ t, exec (.identityRead n (some l) adj wear) s = .next t ∧ t.mstate n = 3 ∧
      t.flag (Page.lmp n) LMP.LMP_STATUS_ID_OK = true ∧ (t.bay n).iNom = beAt l 0x32 2 ∧ (t.bay n).rated = beAt l 0x2C 4) ∧
    (identityGood l = false → ∃ t, exec (.identityRead n (some l) adj wear) s = .next t ∧ t.mstate n = 2 ∧
      t.raised (Page.lmp n) LMP.S_ID_BAD = true ∧ t.lmEn n = s.lmEn n)) ∧
  (∀ (s : State) (n : Fin 36), s.mayEnable n = true →
    ∃ t, exec (.lmEnRise n) s = .next t ∧ t.lmEn n = true ∧ t.mstate n = 4) ∧
  (∀ (s : State) (n : Fin 36) (ok : Bool),
    ∃ t, exec (.interlockOpen n ok) s = .next t ∧ t.lmEn n = false ∧ t.flag (Page.lmp n) LMP.LMP_STATUS_INTLK = false ∧
      t.flag (Page.lmp n) LMP.LMP_CTL_ENABLE = false ∧
      (s.lmEn n = true → t.raised (Page.lmp n) LMP.S_INTERLOCK_OPEN = true ∧ (4 ≤ s.mstate n → t.mstate n = 3))) ∧
  (∀ (s : State) (n : Fin 36), s.mstate n = 4 → ∃ t, exec (.warmingDone n) s = .next t ∧ t.mstate n = 5) ∧
  (∀ (s : State) (n : Fin 36) (late : Fin 16), s.mstate n = 4 →
    ∃ t, exec (.warmingTimeout n late) s = .next t ∧ t.mstate n = 5 ∧
      t.fld (Page.lmp n) LMP.LMP_STATUS_LASER_FAULT = Nat.lor (s.fld (Page.lmp n) LMP.LMP_STATUS_LASER_FAULT) late ∧
      (late.val ≠ 0 → t.raised (Page.lmp n) LMP.S_LASER_FAIL = true)) ∧
  (∀ (s : State) (k : Fin 18) (w : Nat), w < 4 → (s.feed k w).chosen = false →
    ∃ t, exec (.feedChoice k) s = .next t ∧ (t.feed k w).chosen = true ∧
      (s.laserReady (2 * k) w = true → t.carries (2 * k) w = true) ∧
      (s.laserReady (2 * k) w = false → s.laserReady (2 * k + 1) w = true → t.carries (2 * k + 1) w = true)) ∧
  (∀ (s : State) (n : Fin 36) (w : Fin 4), s.carries n w = true → (s.feed (n / 2) w).move = none →
    ∃ t, exec (.feedFailure n w) s = .next t ∧ t.laserBit n LMP.LMP_STATUS_LASER_FAULT w = true ∧
      (s.laserBit (partner n) LMP.LMP_STATUS_STANDBY_OK w = true →
        (t.feed (n / 2) w).move = some (.failure, partner n % 2 == 1) ∧ Nat.bitAt (t.bay (partner n)).act w = true) ∧
      (s.laserBit (partner n) LMP.LMP_STATUS_STANDBY_OK w = false → t.raised (Page.lmp n) LMP.S_NO_STANDBY = true)) ∧
  (∀ (s : State) (n : Fin 36) (w : Nat), w < 4 → s.carries n w = true →
    (∃ t, exec (.lmFaultAssert n) s = .next t ∧ t.flag (Page.lmp n) LMP.LMP_STATUS_FAULT = true ∧
      t.laserBit n LMP.LMP_STATUS_LASER_FAULT w = true) ∧
    (∃ t, exec (.lmPresNHigh n) s = .next t ∧ t.laserBit n LMP.LMP_STATUS_LASER_FAULT w = true)) ∧
  (∀ (s : State) (k : Fin 18) (w : Fin 4) (ok toB : Bool) (why : MoveWhy), (s.feed k w).move = some (why, toB) →
    ∃ t, exec (.feedSwitch k w ok) s = .next t ∧ t.carries (2 * k + (if toB then 1 else 0)) w = true ∧
      t.carries (partner (2 * k + (if toB then 1 else 0))) w = false ∧
      (why = .failure → s.carries (partner (2 * k + (if toB then 1 else 0))) w = true →
        t.raised (Page.lmp (partner (2 * k + (if toB then 1 else 0)))) LMP.S_LASER_FAIL = true))

/-- WEAR_SAMPLE, WEAR_RECORD_PERIODIC, LMP_SAVE, LMP_ENABLE_WRITE, LMP_TAKE, LMP_SWAP_REQ, SWAP_RETRY, LMP_RETRY, STANDBY_CLOSURE_RUN,
MODULE_MEM_READ, MODULE_MEM_WRITE, MGB_TRANSACTION and MGB_RECOVER complete (tier 2; R122, R124, R126, R130, R135, R136, R139, R142 to
R144): wear, takes and swaps, the management memory and its buses. While LM_EN is low a laser gathers no wear. The model's readings that it
may rest on are its own: assumptions 27, 28, 29. -/
def Obligations.ModuleCommands : Prop :=
  (∀ (s : State) (n : Fin 36) (x : LaserSample), 3 ≤ s.mstate n → s.flag (Page.lmp n) LMP.LMP_STATUS_STUCK = false →
    ∃ t, exec (.wearSample n (some x)) s = .next t ∧ t.fld (Page.lmp n) LMP.MON_T_CASE_T = unsigned 16 x.caseT ∧
      (s.lmEn n = false → (s.bay n).iNom ≠ 0 → ∀ w, w < 4 →
        t.fld (Page.lmp n) LMP.WEAR_W_WEIGHTED w = s.fld (Page.lmp n) LMP.WEAR_W_WEIGHTED w)) ∧
  (∀ (s : State) (n : Fin 36), 3 ≤ s.mstate n → s.flag (Page.lmp n) LMP.LMP_STATUS_STUCK = false →
    ∃ t off, exec (.wearRecordPeriodic n true) s = .next t ∧ off = (if (s.bay n).wearSlotB then 0x200 else 0x240) ∧
      t.out = .moduleWrite n (off + 32) ((s.wearRecord n (((s.bay n).wearSeq + 1) % 2 ^ 32)).drop 32) ::
        .moduleWrite n off ((s.wearRecord n (((s.bay n).wearSeq + 1) % 2 ^ 32)).take 32) :: s.out ∧
      (t.bay n).wearSeq = ((s.bay n).wearSeq + 1) % 2 ^ 32) ∧
  (∀ (s : State) (r : Req) (n : Fin 36) (data : Word), s.accepts r (Page.lmp n) LMP.LMP_CTL 0 false = true → r.size = .w64 →
    Word.bit data 0 = true → Word.bit data 5 = false → Word.bit data 6 = true → Word.bit data 7 = false → Word.bits data 8 4 = 0 →
    3 ≤ s.mstate n → s.flag (Page.lmp n) LMP.LMP_STATUS_STUCK = false →
    ∃ t, exec (.lmpSave r n data true) s = .next t ∧ (t.bay n).wearSeq = ((s.bay n).wearSeq + 1) % 2 ^ 32 ∧
      (t.bay n).wearSlotB = !(s.bay n).wearSlotB) ∧
  (∀ (s : State) (r : Req) (n : Fin 36) (data : Word) (ok : Bool), s.accepts r (Page.lmp n) LMP.LMP_CTL 0 false = true → r.size = .w64 →
    ∃ t, exec (.lmpEnableWrite r n data ok) s = .next t ∧ t.flag (Page.lmp n) LMP.LMP_CTL_ENABLE = Word.bit data 0 ∧
      t.flag (Page.lmp n) LMP.LMP_CTL_SWAP_REQ = Word.bit data 5 ∧ (Word.bit data 0 = false → t.lmEn n = false)) ∧
  (∀ (s : State) (r : Req) (n : Fin 36) (data : Word) (w : Fin 4), s.accepts r (Page.lmp n) LMP.LMP_CTL 0 false = true →
    r.size = .w64 → Word.bit data 0 = true → Word.bit data 5 = false → Word.bit data 6 = false → Word.bit data 7 = false →
    Word.bits data 8 4 = 2 ^ w.val → s.takeoverAt (n / 2) = false → s.carries n w = false → s.moveTo n w = false →
    (s.laserBit n LMP.LMP_STATUS_STANDBY_OK w = true →
      ∃ t, exec (.lmpTake r n data) s = .next t ∧ (t.feed (n / 2) w).move = some (.take, n.val % 2 == 1)) ∧
    (s.laserBit n LMP.LMP_STATUS_STANDBY_OK w = false →
      ∃ t, exec (.lmpTake r n data) s = .next t ∧ t.flag (Page.lmp n) LMP.LMP_STATUS_TAKE_REFUSED = true ∧
        (t.feed (n / 2) w).move = (s.feed (n / 2) w).move)) ∧
  (∀ (s : State) (r : Req) (n : Fin 36) (data : Word) (ok : Bool), s.accepts r (Page.lmp n) LMP.LMP_CTL 0 false = true → r.size = .w64 →
    Word.bit data 0 = true → Word.bit data 5 = true → Word.bit (s.reg (Page.lmp n) LMP.LMP_CTL) 5 = false → Word.bit data 6 = false →
    Word.bit data 7 = false → Word.bits data 8 4 = 0 → 3 ≤ s.mstate n → s.takeoverAt (n / 2) = false →
    (s.fld (Page.lmp n) LMP.LMP_STATUS_CARRY = 0 →
      ∃ t, exec (.lmpSwapReq r n data ok) s = .next t ∧ t.flag (Page.lmp n) LMP.LMP_STATUS_SWAP_READY = true ∧ t.lmEn n = false) ∧
    (∀ w, w < 4 → s.carries n w = true → s.moveTo (partner n) w = false → s.laserBit (partner n) LMP.LMP_STATUS_STANDBY_OK w = false →
      ∃ t, exec (.lmpSwapReq r n data ok) s = .next t ∧ t.flag (Page.lmp n) LMP.LMP_STATUS_TAKE_REFUSED = true ∧
        t.flag (Page.lmp n) LMP.LMP_CTL_SWAP_REQ = true ∧ t.fld (Page.lmp n) LMP.LMP_STATUS_CARRY = s.fld (Page.lmp n) LMP.LMP_STATUS_CARRY)) ∧
  (∀ (s : State) (n : Fin 36) (ok : Bool), s.swapWaits n = true → 3 ≤ s.mstate n → s.takeoverAt (n / 2) = false →
    s.fld (Page.lmp n) LMP.LMP_STATUS_CARRY = 0 →
    ∃ t, exec (.swapRetry n ok) s = .next t ∧ t.flag (Page.lmp n) LMP.LMP_STATUS_SWAP_READY = true ∧ t.lmEn n = false) ∧
  (∀ (s : State) (r : Req) (n : Fin 36) (data : Word), s.accepts r (Page.lmp n) LMP.LMP_CTL 0 false = true → r.size = .w64 →
    Word.bit data 0 = true → Word.bit data 5 = false → Word.bit data 6 = false → Word.bit data 7 = true → Word.bits data 8 4 = 0 →
    s.flag (Page.lmp n) LMP.LMP_STATUS_STUCK = true →
    ∃ t, exec (.lmpRetry r n data .clear) s = .next t ∧ t.flag (Page.lmp n) LMP.LMP_STATUS_STUCK = false ∧
      Nat.bitAt (t.fld (Page.mgb (n / 4)) MGB.MGB_STATUS_ISOLATED) (n % 4) = false) ∧
  (∀ (s : State) (n : Fin 36) (w : Fin 4) (first second : Int) (bias : Bool), s.laserReady n w = true → s.lmEn n = true →
    s.carries n w = false → s.moveTo n w = false →
    (s.runPasses n first = false → s.runPasses n second = false →
      ∃ t, exec (.standbyClosureRun n w first second bias) s = .next t ∧ t.raised (Page.lmp n) LMP.S_STANDBY_FAIL = true ∧
        t.laserBit n LMP.LMP_STATUS_STANDBY_OK w = false) ∧
    ((s.runPasses n first = true ∨ s.runPasses n second = true) →
      ∃ t, exec (.standbyClosureRun n w first second bias) s = .next t ∧ t.laserBit n LMP.LMP_STATUS_STANDBY_OK w = bias)) ∧
  (∀ (s : State) (r : Req) (n : Fin 36) (data : Word), s.accepts r (Page.lmp n) LMP.MEM_CMD 0 true = true →
    s.flag (Page.lmp n) LMP.MEM_STATUS_BUSY = false → s.flag (Page.lmp n) LMP.LMP_STATUS_STUCK = false →
    (Word.bits data 44 3 ≤ 5 → ∃ t, exec (.moduleMemRead r n data) s = .next t ∧ t.flag (Page.lmp n) LMP.MEM_STATUS_BUSY = true ∧
      t.flag (Page.lmp n) LMP.MEM_STATUS_REFUSED = false) ∧
    (Word.bits data 44 3 = 0 → Word.bits data 0 16 = 0x140 →
      ∃ t, exec (.moduleMemWrite r n data) s = .next t ∧ t.flag (Page.lmp n) LMP.MEM_STATUS_BUSY = true) ∧
    (Word.bits data 0 16 ≠ 0x140 → ∃ t, exec (.moduleMemWrite r n data) s = .next t ∧
      t.flag (Page.lmp n) LMP.MEM_STATUS_REFUSED = true ∧ t.flag (Page.lmp n) LMP.MEM_STATUS_BUSY = false)) ∧
  (∀ (s : State) (b : Fin 9) (pos : Fin 4), s.served (4 * b.val + pos.val) = true →
    (∃ t, exec (.mgbTransaction b pos .nack) s = .next t ∧ t.raised (Page.mgb b) MGB.S_NACK = true ∧
      t.reg (Page.mgb b) MGB.MGB_NACKS = BitVec.ofNat 48 ((s.reg (Page.mgb b) MGB.MGB_NACKS).toNat + 1)) ∧
    (∀ (c : MemCmd) (data : List Byte), (s.bay (4 * b.val + pos.val)).cmd = some c → c.write = false →
      ∃ t, exec (.mgbTransaction b pos (.done data)) s = .next t ∧
        t.reg (Page.lmp (4 * b.val + pos.val)) LMP.MEM_DATA = memWord (data.take c.len) ∧
        t.flag (Page.lmp (4 * b.val + pos.val)) LMP.MEM_STATUS_BUSY = false)) ∧
  (∀ (s : State) (b : Fin 9),
    (∃ t, exec (.mgbRecover b .timeout .freed) s = .next t ∧ t.raised (Page.mgb b) MGB.S_RECOVERED = true ∧
      t.flag (Page.mgb b) MGB.MGB_CTL_RECOVER = false ∧
      t.reg (Page.mgb b) MGB.MGB_RECOVERIES = BitVec.ofNat 48 ((s.reg (Page.mgb b) MGB.MGB_RECOVERIES).toNat + 1)) ∧
    (∃ t, exec (.mgbRecover b .timeout .busStuck) s = .next t ∧ t.flag (Page.mgb b) MGB.MGB_STATUS_STUCK = true ∧
      t.raised (Page.mgb b) MGB.S_BUS_STUCK = true))


/-! ## Optical engines (05_optical_engines.md) -/

/-- FAU_PRESENCE_CHANGE, OPTICAL_SIGNAL_DETECT, RING_HOLD_UPDATE, RING_LOCK_FOUND, RING_SEEK_TIMEOUT, RING_LIMIT, RING_LIMIT_RELEASE,
RING_UNLOCK, RING_FREEZE, RING_UNFREEZE, FROZEN_HOLD_EXPIRY, TX_POWER_LOW and TAP_CLOSURE_RUN complete (tier 2; R147, R154, R156 to R161,
R152, R174): attach units, signal detect, ring states and their heater codes, launch power, and closure runs through the tap. A clause
that names a source asks that the page be powered; one whose lane takes its port with it asks for empty queues. The model's readings that it
may rest on are its own: assumptions 30, 32. -/
def Obligations.RingStates : Prop :=
  (∀ (s : State) (k : Fin 18) (present : Bool), s.flag (Page.oen k) OEN.OEN_STATUS_FAU_PRESENT = !present →
    s.powered (Page.oen k) = true → s.queues = [] →
    ∃ t, exec (.fauPresenceChange k present) s = .next t ∧ t.flag (Page.oen k) OEN.OEN_STATUS_FAU_PRESENT = present ∧
      t.raised (Page.oen k) OEN.S_FAU_CHANGE = true) ∧
  (∀ (s : State) (l : Fin 576) (power : Int),
    (-1400 ≤ power → ∃ t, exec (.opticalSignalDetect l power) s = .next t ∧
      t.fld (Page.lane l) OLN.OPT_POWER_RX_POWER = unsigned 16 power ∧ t.flag (Page.lane l) LN.LANE_STATUS_SIG_DET = true) ∧
    (-1600 ≤ power → power < -1400 → ∃ t, exec (.opticalSignalDetect l power) s = .next t ∧
      t.fld (Page.lane l) OLN.OPT_POWER_RX_POWER = unsigned 16 power ∧
      t.flag (Page.lane l) LN.LANE_STATUS_SIG_DET = s.flag (Page.lane l) LN.LANE_STATUS_SIG_DET) ∧
    (power < -1600 → s.queues = [] → ∃ t, exec (.opticalSignalDetect l power) s = .next t ∧
      t.fld (Page.lane l) OLN.OPT_POWER_RX_POWER = unsigned 16 power ∧ t.flag (Page.lane l) LN.LANE_STATUS_SIG_DET = false ∧
      (s.flag (Page.lane l) LN.LANE_STATUS_SIG_DET = true → s.laneUp l = true → s.powered (Page.lane l) = true →
        t.raised (Page.lane l) OLN.S_RX_LOS = true))) ∧
  (∀ (s : State) (l : Fin 576), s.ringState l = 0 →
    (∃ t, exec (.ringHoldUpdate l) s = .next t ∧ t.fld (Page.lane l) OLN.RING_STATUS_HOLD = s.holdCode l ∧
      t.fld (Page.lane l) OLN.RING_STATUS_CODE = s.holdCode l ∧
      ∀ a, Plain a → a ≠ slotAddr (Page.lane l) OLN.RING_STATUS_HOLD 0 → t.slot a = s.slot a) ∧
    (∃ t, exec (.ringSeekTimeout l) s = .next t ∧ (t.lane l).sweep = true ∧ t.ringState l = 0 ∧ ∀ a, Plain a → t.slot a = s.slot a) ∧
    (∀ code : Fin 65536, s.feedLit l = true → s.threadRuns l = true → s.lstate l ≠ lsTest → s.queues = [] →
      s.flag (Page.lane l) TB.PAGE_STATE_TEST_REQ = false →
      ∃ t, exec (.ringLockFound l code) s = .next t ∧ t.ringState l = 1 ∧ t.fld (Page.lane l) OLN.RING_STATUS_CODE = code) ∧
    (∀ top : Bool, s.lstate l ≠ lsTest → s.powered (Page.lane l) = true →
      ∃ t, exec (.ringLimit l top) s = .next t ∧ t.ringState l = 4 ∧ t.raised (Page.lane l) OLN.S_RING_LIMIT = true ∧
        t.fld (Page.lane l) OLN.RING_STATUS_CODE = (if top then 65535 else 0))) ∧
  (∀ (s : State) (l : Fin 576), s.ringState l = 4 → 1280 ≤ (s.engTemp (l / 32) - (s.lane l).limitT).natAbs →
    ∃ t, exec (.ringLimitRelease l) s = .next t ∧ t.ringState l = 0 ∧
      ∀ a, Plain a → a ≠ slotAddr (Page.lane l) OLN.RING_STATUS_HOLD 0 → a ≠ slotAddr (Page.oen (l / 32)) OEN.OEN_STATUS_RINGS_LOCKED 0 →
        t.slot a = s.slot a) ∧
  (∀ (s : State) (l : Fin 576), s.queues = [] → s.lstate l ≠ lsTest → s.flag (Page.lane l) TB.PAGE_STATE_TEST_REQ = false →
    s.powered (Page.lane l) = true →
    (s.ringState l = 1 → ∃ t, exec (.ringUnlock l) s = .next t ∧ t.ringState l = 0 ∧ t.laneUp l = false ∧
      t.raised (Page.lane l) OLN.S_RING_UNLOCK = true ∧
      t.reg (Page.lane l) OLN.RELOCKS = BitVec.ofNat 48 ((s.reg (Page.lane l) OLN.RELOCKS).toNat + 1)) ∧
    (s.ringState l = 2 → ∃ t, exec (.frozenHoldExpiry l) s = .next t ∧ t.ringState l = 0 ∧ t.laneUp l = false ∧
      t.raised (Page.lane l) OLN.S_RING_UNLOCK = true)) ∧
  (∀ (s : State) (l : Fin 576),
    (s.ringState l = 1 → ∃ t, exec (.ringFreeze l) s = .next t ∧ t.ringState l = 2 ∧
      s.Aside t (fun a => a = slotAddr (Page.lane l) OLN.RING_STATUS_HOLD 0 ∨ a = slotAddr (Page.oen (l / 32)) OEN.OEN_STATUS_RINGS_LOCKED 0)) ∧
    (s.ringState l = 2 → ∃ t, exec (.ringUnfreeze l) s = .next t ∧ t.ringState l = 1 ∧
      s.Aside t (fun a => a = slotAddr (Page.lane l) OLN.RING_STATUS_HOLD 0 ∨ a = slotAddr (Page.oen (l / 32)) OEN.OEN_STATUS_RINGS_LOCKED 0))) ∧
  (∀ (s : State) (l : Fin 576) (power : Int),
    ∃ t, exec (.txPowerLow l power) s = .next t ∧ t.fld (Page.lane l) OLN.OPT_POWER_TX_POWER = unsigned 16 power ∧
      (s.powered (Page.lane l) = true → s.lstate l ≠ lsDark → s.ringModulates l = true →
        power < minLaunch (s.fld (Page.lane l) LN.LANE_CTL_RATE) → t.raised (Page.lane l) OLN.S_TX_POWER_LOW = true)) ∧
  (∀ (s : State) (l : Fin 576) (first second : Bool), s.flag (Page.oen (l / 32)) OEN.TAP_SEL_EN = false →
    s.idleLane l = true → s.lstate l ≠ lsTest → s.powered (Page.lane l) = true →
    ∃ t, exec (.tapClosureRun l first second) s = .next t ∧
      (first = false → second = false → t.raised (Page.lane l) OLN.S_TAP_FAIL = true) ∧
      (first = true ∨ second = true → s.Aside t (fun _ => False)))

/-- CAL_SAVE, CAL_WRITE_DONE, LOS_HOLD_EXPIRY, MOVE_ACK, RESTORE_ACK, MOVE_ACK_TIMEOUT, SPARE_RESTORE and TAP_SEL_WRITE complete (tier 2;
R166, R169, R171, R172, R175, R255): calibration slots, a lane that signal detect has left, and the lane set of a port. The model's readings
that it may rest on are its own: assumptions 31, 32. -/
def Obligations.SlotsAndMoves : Prop :=
  (∀ (s : State) (k : Fin 18),
    (∀ (r : Req) (data : Word), s.accepts r (Page.oen k) OEN.CAL_CMD 0 true = true → Word.bit data 0 = true →
      ∃ t, exec (.calSave k (.write r data)) s = .next t ∧ t.flag (Page.oen k) OEN.CAL_STATUS_BUSY = true) ∧
    (s.flag (Page.oen k) OEN.OEN_CTL_AUTO_SAVE = true → (s.cal k).autoDue = true → s.fld (Page.oen k) OEN.OEN_STATUS_RINGS_LOCKED = 32 →
      ∃ t, exec (.calSave k .auto) s = .next t ∧ t.flag (Page.oen k) OEN.CAL_STATUS_BUSY = true ∧ (t.cal k).autoDue = false)) ∧
  (∀ (s : State) (k : Fin 18), s.flag (Page.oen k) OEN.CAL_STATUS_BUSY = true →
    (∃ t, exec (.calWriteDone k .done) s = .next t ∧ t.flag (Page.oen k) OEN.CAL_STATUS_BUSY = false ∧
      t.flag (Page.oen k) OEN.CAL_STATUS_VALID = true ∧
      (s.flag (Page.oen k) OEN.CAL_STATUS_VALID = true →
        t.fld (Page.oen k) OEN.CAL_STATUS_SEQ = (s.fld (Page.oen k) OEN.CAL_STATUS_SEQ + 1) % 2 ^ 32 ∧
        t.flag (Page.oen k) OEN.CAL_STATUS_SLOT = !s.flag (Page.oen k) OEN.CAL_STATUS_SLOT) ∧
      (s.flag (Page.oen k) OEN.CAL_STATUS_VALID = false →
        t.fld (Page.oen k) OEN.CAL_STATUS_SEQ = 1 ∧ t.flag (Page.oen k) OEN.CAL_STATUS_SLOT = false)) ∧
    (∀ met, met = CalOutcome.failA ∨ met = CalOutcome.failB → s.powered (Page.oen k) = true →
      ∃ t, exec (.calWriteDone k met) s = .next t ∧ t.flag (Page.oen k) OEN.CAL_STATUS_BUSY = false ∧
        t.raised (Page.oen k) OEN.S_CAL_WRITE_FAIL = true ∧
        t.fld (Page.oen k) OEN.CAL_STATUS_SEQ = s.fld (Page.oen k) OEN.CAL_STATUS_SEQ)) ∧
  (∀ (s : State) (l : Fin 576), s.flag (Page.lane l) LN.LANE_STATUS_SIG_DET = false → s.laneUp l = true → s.queues = [] →
    ∃ t, exec (.losHoldExpiry l) s = .next t ∧ t.laneUp l = false ∧
      t.reg (Page.lane l) LN.LANE_LOSSES = BitVec.ofNat 48 ((s.reg (Page.lane l) LN.LANE_LOSSES).toNat + 1)) ∧
  (∀ (s : State) (lp : Fin 768) (msg : List Byte) (m : MoveReq), s.queues = [] →
    (s.answered lp msg 3 = some m → ∃ t, exec (.moveAck lp msg) s = .next t ∧
      t.laneSet lp = Nat.land m.mask (byteAt msg 2 % 16) ∧ (t.port lp).move = none ∧
      t.reg (lpPage lp) PEN.C_LANE_MOVES = BitVec.ofNat 48 ((s.reg (lpPage lp) PEN.C_LANE_MOVES).toNat + 1)) ∧
    (s.answered lp msg 5 = some m → ∃ t, exec (.restoreAck lp msg) s = .next t ∧
      t.laneSet lp = Nat.lor (s.laneSet lp) (Nat.land m.mask (byteAt msg 2 % 16)) ∧ (t.port lp).move = none)) ∧
  (∀ (s : State) (lp : Fin 768) (m : MoveReq), s.queues = [] → (s.port lp).move = some m →
    ∃ t, exec (.moveAckTimeout lp) s = .next t ∧ (t.port lp).move = none ∧
      (m.restore = true → ∀ a, Plain a → t.slot a = s.slot a) ∧
      (m.restore = false → lp.val < 576 → s.powered (Page.oen (lp / 32)) = true →
        t.raised (Page.oen (lp / 32)) OEN.S_SPARE_REFUSED = true) ∧
      (m.restore = false → 576 ≤ lp.val → s.powered (lpPage lp) = true → t.raised (lpPage lp) PEN.S_LANE_MOVE_REFUSED = true)) ∧
  (∀ (s : State) (r : Req) (k : Fin 18) (data : Word) (i : Nat), i < 32 → s.accepts r (Page.oen k) OEN.SPARE_CMD 0 true = true →
    Word.bit data (i / 4) = true → s.lpEnabled (32 * k + i) = true → (∀ j, j < 32 → j ≠ i → s.lpEnabled (32 * k + j) = false) →
    s.testedMask (32 * k + i) ≠ 0 →
    ((s.port (32 * k + i)).width = 1 →
      ∃ t, exec (.spareRestore r k data) s = .next t ∧ (t.port (32 * k + i)).move = some
        ⟨(s.port (32 * k + i)).seq, Nat.lor (s.laneSet (32 * k + i)) (s.testedMask (32 * k + i)), 0, true⟩) ∧
    ((s.port (32 * k + i)).width = 2 → s.testedMask (32 * k + i) = s.sparedMask (32 * k + i) → s.queues = [] →
      ∃ t, exec (.spareRestore r k data) s = .next t ∧ t.laneSet (32 * k + i) = s.configured (32 * k + i) ∧
        t.linkUp (32 * k + i) = false)) ∧
  (∀ (s : State) (r : Req) (k : Fin 18) (data : Word), s.accepts r (Page.oen k) OEN.TAP_SEL 0 false = true →
    ∃ t, exec (.tapSelWrite r k data) s = .next t ∧
      t.reg (Page.oen k) OEN.TAP_SEL = BitVec.ofNat 48 ((mergeHalf r.size (s.reg (Page.oen k) OEN.TAP_SEL) data).toNat % 64) ∧
      s.Aside t (fun a => a = slotAddr (Page.oen k) OEN.TAP_SEL 0))


/-! ## Electrical lanes and the lane state machine (06_electrical_lanes.md) -/

/-- DETECT_POLL, BACKOFF_EXPIRY, AUTONEG_COMPLETE, TRAIN_START, TRAINING_FRAME, TRAIN_COMPLETE, TRAIN_TIMEOUT, LOCK_GAINED, LOCK_TIMEOUT,
PORT_LOCK_TIMEOUT and PCS_LINK_UP complete (tier 2; R180, R184 to R187, R191, R192, R194 to R196, R199 to R201): how a lane comes up and how
an attempt fails. A clause on what follows a source asks that no source of the lane's page be at HALT severity (R205). The model's readings
that it may rest on are its own: assumption 33. -/
def Obligations.BringUp : Prop :=
  (∀ (s : State) (l : Fin 768) (present : Bool), s.lstate l = lsDetect → s.threadRuns l = true →
    (∀ c, (s.lane l).backoff = false ∧ c = Instr.detectPoll l present ∨ (s.lane l).backoff = true ∧ c = Instr.backoffExpiry l present →
      ∃ t, exec c s = .next t ∧ (t.lane l).backoff = false ∧
        t.flag (Page.lane l) LN.LANE_STATUS_PEER_PRESENT =
          (if isOptical l then s.flag (Page.lane l) LN.LANE_STATUS_SIG_DET else present) ∧
        (s.modesDiffer l = false → (t.lane l).mismatch = false) ∧
        (s.modesDiffer l = true → Nat.bitAt (s.laneSet (s.portOfLane l)) (l % 4) = true → s.powered (Page.lane l) = true →
          t.raised (Page.lane l) LN.S_MODE_MISMATCH = true ∧ t.readyToStart l = false))) ∧
  (∀ (s : State) (l : Fin 192), s.lstate (576 + l) = lsDetect → s.needsAn (576 + l) = true →
    s.flag (Page.lane (576 + l)) LN.LANE_STATUS_PEER_PRESENT = true →
    Nat.bitAt (s.laneSet (s.portOfLane (576 + l))) ((576 + l) % 4) = true →
    (∀ x, ∃ t, exec (.autonegComplete l (some x)) s = .next t ∧ (t.lane (576 + l)).anDone = true ∧
      Word.bits (t.lane (576 + l)).sampled 0 3 = x.val) ∧
    (s.powered (Page.lane (576 + l)) = true → ∃ t, exec (.autonegComplete l none) s = .next t ∧
      t.raised (Page.lane (576 + l)) LN.S_MODE_MISMATCH = true)) ∧
  (∀ (s : State) (l : Fin 768), s.slotsTaken.length < 32 →
    (s.slotWaits.find? (fun e => s.readyToStart e.2)).map (·.2) = some l.val →
    ∃ t, exec (.trainStart l) s = .next t ∧ t.lstate l = lsTrain ∧ t.slotsUsed = s.time.us :: s.slotsTaken ∧
      (isOptical l = false → t.taps l = presetTaps (s.fld (Page.lane l) ELN.TX_EQ_CFG_INIT_PRESET))) ∧
  (∀ (s : State) (l : Fin 768) (control status : BitVec 32) (adapted : Bool), s.lstate l = lsTrain → Word.bits (s.lane l).sampled 0 3 = 4 →
    ∃ t, exec (.trainingFrame l control status adapted) s = .next t ∧
      t.out = .training l (crc8 (t.lane l).txStatus * 2 ^ 24 + (t.lane l).txStatus) :: s.out ∧
      (t.lane l).sent = (if adapted then (s.lane l).sent + 1 else 0) ∧
      (fieldGood control = true → isOptical l = false → Word.bit (s.lane l).sampled 13 = true → (s.lane l).txStatus % 4 = 0 →
        ∀ i, i < 3 → control.toNat % 2 ^ 9 = 4 * (3 - (i + 1)) + 1 →
          (tapsGood ((s.taps l).set (i + 1) ((s.taps l).getD (i + 1) 0 + 1)) = true →
            t.taps l = (s.taps l).set (i + 1) ((s.taps l).getD (i + 1) 0 + 1) ∧ (t.lane l).txStatus % 4 = 1) ∧
          (tapsGood ((s.taps l).set (i + 1) ((s.taps l).getD (i + 1) 0 + 1)) = false →
            t.taps l = s.taps l ∧ (t.lane l).txStatus % 4 = 2))) ∧
  (∀ (s : State) (l : Fin 768), s.lstate l = lsTrain →
    Word.bits (s.lane l).sampled 0 3 ≠ 4 ∨ Word.bit (s.lane l).sampled 13 = false ∨ 3 ≤ (s.lane l).sent ∧ 3 ≤ (s.lane l).recv →
    ∃ t, exec (.trainComplete l) s = .next t ∧ t.lstate l = lsLock) ∧
  (∀ (s : State) (l : Fin 768), s.queues = [] → s.powered (Page.lane l) = true →
    (∀ c src, (s.lstate l = lsTrain ∧ c = Instr.trainTimeout l ∧ src = LN.S_TRAIN_TIMEOUT) ∨
      (s.lstate l = lsLock ∧ s.flag (Page.lane l) LN.LANE_STATUS_LOCKED = false ∧ c = Instr.lockTimeout l ∧ src = LN.S_LOCK_TIMEOUT) →
      ∃ t, exec c s = .next t ∧ t.raised (Page.lane l) src = true ∧
        t.reg (Page.lane l) LN.TRAIN_FAILS = BitVec.ofNat 48 ((s.reg (Page.lane l) LN.TRAIN_FAILS).toNat + 1) ∧
        t.fld (Page.lane l) LN.LANE_STATUS_ATTEMPTS = Nat.min 255 (s.fld (Page.lane l) LN.LANE_STATUS_ATTEMPTS + 1) ∧
        (s.fld (Page.lane l) LN.LANE_STATUS_ATTEMPTS = 15 → t.raised (Page.lane l) LN.S_ATTEMPTS_EXCEEDED = true) ∧
        (s.laneAllowed l = true → (∀ i, s.severity (Page.lane l) i ≠ 3) →
          t.lstate l = lsDetect ∧ (t.lane l).backoff = true ∧ t.fld (Page.lane l) LN.LANE_STATUS_BACKOFF =
            backoffMs (Nat.min 255 (s.fld (Page.lane l) LN.LANE_STATUS_ATTEMPTS + 1))))) ∧
  (∀ (s : State) (l : Fin 768), s.lstate l = lsLock →
    ∃ t, exec (.lockGained l) s = .next t ∧ t.flag (Page.lane l) LN.LANE_STATUS_LOCKED = true ∧
      ((∀ m, m ∈ lanesOf (s.portOfLane l) (s.laneSet (s.portOfLane l)) → m ≠ l.val →
        s.lstate m = lsLock ∧ s.flag (Page.lane m) LN.LANE_STATUS_LOCKED = true) →
        ∀ m, m ∈ lanesOf (s.portOfLane l) (s.laneSet (s.portOfLane l)) → t.lstate m = lsTieIn)) ∧
  (∀ (s : State) (lp : Fin 768), s.queues = [] →
    (∃ m, m ∈ lanesOf lp (s.laneSet lp) ∧ s.lstate m = lsLock ∧ s.flag (Page.lane m) LN.LANE_STATUS_LOCKED = true) →
    ∃ t, exec (.portLockTimeout lp) s = .next t ∧
      ∀ m, m ∈ lanesOf lp (s.laneSet lp) → s.lstate m = lsLock → s.powered (Page.lane m) = true →
        t.raised (Page.lane m) LN.S_LOCK_TIMEOUT = true ∧
        t.reg (Page.lane m) LN.TRAIN_FAILS = BitVec.ofNat 48 ((s.reg (Page.lane m) LN.TRAIN_FAILS).toNat + 1)) ∧
  (∀ (s : State) (lp : Fin 768), s.queues = [] → s.fabricPort lp = false → lanesOf lp (s.laneSet lp) ≠ [] →
    (∀ m, m ∈ lanesOf lp (s.laneSet lp) → s.lstate m = lsTieIn ∧ s.laneAllowed m = true ∧ ∀ i, s.severity (Page.lane m) i ≠ 3) →
    ∃ t, exec (.pcsLinkUp lp) s = .next t ∧
      ∀ m, m ∈ lanesOf lp (s.laneSet lp) → t.lstate m = lsActive ∧ t.fld (Page.lane m) LN.LANE_STATUS_ATTEMPTS = 0)

/-- LOCK_LOST, SIGNAL_DETECT_CHANGE, LANE_LOSS, BER_WINDOW_CLOSE, TX_EQ_WRITE, PAT_CTL_WRITE, PAT_CHECKER_LOCK, PAT_LOCK_LOST and INJ_FIRE
complete (tier 2; R189, R192, R197, R202, R203, R207 to R209): losses, degraded lanes, equaliser writes and test patterns. How many bits
a burst inverts is open between one and two or ten of each symbol. The model's readings that it may rest on are its own: assumption 33. -/
def Obligations.LanesInService : Prop :=
  (∀ (s : State) (l : Fin 768), s.laneUp l = true → s.queues = [] →
    ∀ c, c = Instr.laneLoss l ∨ c = Instr.lockLost l →
    ∃ t, exec c s = .next t ∧ t.laneUp l = false ∧
      t.reg (Page.lane l) LN.LANE_LOSSES = BitVec.ofNat 48 ((s.reg (Page.lane l) LN.LANE_LOSSES).toNat + 1) ∧
      (s.powered (Page.lane l) = true → t.raised (Page.lane l) LN.S_LANE_LOSS = true)) ∧
  (∀ (s : State) (l : Fin 768), s.laneUp l = false →
    ∃ t, exec (.lockLost l) s = .next t ∧ t.flag (Page.lane l) LN.LANE_STATUS_LOCKED = false ∧ t.lstate l = s.lstate l ∧
      s.Aside t (fun a => a = slotAddr (Page.lane l) LN.LANE_STATUS_LOCKED 0)) ∧
  (∀ (s : State) (l : Fin 192) (mv : Nat),
    (80 ≤ mv → ∃ t, exec (.signalDetectChange l mv) s = .next t ∧
      t.flag (Page.lane (576 + l)) LN.LANE_STATUS_SIG_DET = true ∧
      s.Aside t (fun a => a = slotAddr (Page.lane (576 + l)) LN.LANE_STATUS_SIG_DET 0)) ∧
    (40 ≤ mv → mv < 80 → ∃ t, exec (.signalDetectChange l mv) s = .next t ∧ s.Aside t (fun _ => False)) ∧
    (mv < 40 → s.flag (Page.lane (576 + l)) LN.LANE_STATUS_SIG_DET = true → s.queues = [] →
      ∃ t, exec (.signalDetectChange l mv) s = .next t ∧ t.flag (Page.lane (576 + l)) LN.LANE_STATUS_SIG_DET = false ∧
        t.laneUp (576 + l) = false ∧
        (s.laneTrying (576 + l) = true → t.reg (Page.lane (576 + l)) LN.PEER_LOSTS =
            BitVec.ofNat 48 ((s.reg (Page.lane (576 + l)) LN.PEER_LOSTS).toNat + 1) ∧
          (s.powered (Page.lane (576 + l)) = true → t.raised (Page.lane (576 + l)) LN.S_PEER_LOST = true)))) ∧
  (∀ (s : State) (l : Fin 768) (corrected received : Nat), s.laneUp l = true →
    ∃ t, exec (.berWindowClose l corrected received) s = .next t ∧
      t.fld (Page.lane l) LN.CORR_BITS_COUNT = corrected % 2 ^ 48 ∧
      (s.overBer l corrected received = true → s.lstate l = lsActive → s.isHalted (Page.lane l) = false →
        (∀ i, s.severity (Page.lane l) i ≠ 3) → t.lstate l = lsDegraded ∧ (s.powered (Page.lane l) = true → t.raised (Page.lane l) LN.S_LANE_DEGRADED = true)) ∧
      (s.overBer l corrected received = true → s.lstate l = lsDegraded → t.lstate l = lsDegraded ∧ (t.lane l).winLow = 0) ∧
      (s.overBer l corrected received = false → s.lstate l = lsDegraded →
        (2 ≤ (s.lane l).winLow → t.lstate l = lsActive) ∧
        ((s.lane l).winLow < 2 → t.lstate l = lsDegraded ∧ (t.lane l).winLow = (s.lane l).winLow + 1))) ∧
  (∀ (s : State) (r : Req) (l : Fin 192) (data v : Word) (c : List Int), s.accepts r (Page.lane (576 + l)) ELN.TX_EQ 0 false = true →
    v = mergeHalf r.size (s.reg (Page.lane (576 + l)) ELN.TX_EQ) data →
    c = [signed 8 (Word.bits v 32 8), signed 8 (Word.bits v 24 8), signed 8 (Word.bits v 16 8), signed 8 (Word.bits v 8 8)] →
    ∃ t, exec (.txEqWrite r l data) s = .next t ∧
      (s.lstate (576 + l) ∈ [lsDark, lsDetect, lsTest] → tapsGood c = true →
        t.taps (576 + l) = c ∧ (t.fld (Page.lane (576 + l)) ELN.TX_EQ_C0 : Int) = mainTap c) ∧
      (s.lstate (576 + l) ∉ [lsDark, lsDetect, lsTest] ∨ tapsGood c = false →
        t.reg (Page.lane (576 + l)) ELN.TX_EQ = s.reg (Page.lane (576 + l)) ELN.TX_EQ) ∧
      s.Aside t (fun a => a = slotAddr (Page.lane (576 + l)) ELN.TX_EQ 0)) ∧
  (∀ (s : State) (r : Req) (l : Fin 768) (data : Word), s.accepts r (Page.lane l) LN.PAT_CTL 0 false = true →
    ∃ t, exec (.patCtlWrite r l data) s = .next t ∧
      t.reg (Page.lane l) LN.PAT_CTL = BitVec.ofNat 48 ((mergeHalf r.size (s.reg (Page.lane l) LN.PAT_CTL) data).toNat % 2 ^ 16) ∧
      t.reg (Page.lane l) LN.PAT_ERRORS = 0 ∧ t.reg (Page.lane l) LN.PAT_BITS = 0 ∧
      t.flag (Page.lane l) LN.PAT_STATUS_GEN_ON = (s.lstate l == lsTest && t.flag (Page.lane l) LN.PAT_CTL_GEN_EN)) ∧
  (∀ (s : State) (l : Fin 768), s.lstate l = lsTest → s.flag (Page.lane l) LN.PAT_CTL_CHK_EN = true →
    ∃ t, exec (.patCheckerLock l) s = .next t ∧ t.flag (Page.lane l) LN.PAT_STATUS_PAT_LOCK = true ∧
      s.Aside t (fun a => a = slotAddr (Page.lane l) LN.PAT_STATUS_PAT_LOCK 0)) ∧
  (∀ (s : State) (l : Fin 768) (bits errors : Nat), s.flag (Page.lane l) LN.PAT_STATUS_PAT_LOCK = true →
    s.powered (Page.lane l) = true →
    ∃ t, exec (.patLockLost l bits errors) s = .next t ∧ t.flag (Page.lane l) LN.PAT_STATUS_PAT_LOCK = false ∧
      t.reg (Page.lane l) LN.PAT_BITS = BitVec.ofNat 48 ((s.reg (Page.lane l) LN.PAT_BITS).toNat + bits) ∧
      t.reg (Page.lane l) LN.PAT_ERRORS = BitVec.ofNat 48 ((s.reg (Page.lane l) LN.PAT_ERRORS).toNat + errors) ∧
      t.raised (Page.lane l) LN.S_PAT_LOCK_LOST = true) ∧
  (∀ (s : State) (r : Req) (l : Fin 768) (data : Word), s.accepts r (Page.lane l) LN.INJ_CMD 0 true = true →
    ∃ t k, exec (.injFire r l data) s = .next t ∧
      t.reg (Page.lane l) LN.INJ_COUNT = BitVec.ofNat 48 ((s.reg (Page.lane l) LN.INJ_COUNT).toNat + k) ∧
      (Word.bit data 0 = false ∨ s.injectable l = false ∨ s.fld (Page.lane l) LN.INJ_CFG_MODE ∈ [0, 2] → k = 0) ∧
      (Word.bit data 0 = true → s.injectable l = true → s.fld (Page.lane l) LN.INJ_CFG_MODE = 1 → k = 1) ∧
      (Word.bit data 0 = true → s.injectable l = true → s.fld (Page.lane l) LN.INJ_CFG_MODE = 3 →
        Nat.max 1 (s.fld (Page.lane l) LN.INJ_CFG_BURST_LEN) ≤ k ∧
        k ≤ Nat.max 1 (s.fld (Page.lane l) LN.INJ_CFG_BURST_LEN) * (if s.flag (Page.lane l) LN.INJ_CFG_TARGET then 10 else 2)))


/-! ## Lane sequencers (07_lane_sequencers.md) -/

/-- MW_EXEC, MW_BRANCH, MW_WAIT, WAIT_CONDITION_MET, WAIT_TIMEOUT, CTRL_JUMP, CTRL_CALL, CTRL_RETURN, CTRL_RETT, CTRL_KICK, CTRL_SIG,
CTRL_CLR, CTRL_STKCLR, CTRL_VERT, CTRL_HALT and CTRL_TRAP complete (tier 2; R212, R214, R217, R219, R221, R223 to R226): a microword that
issues with good check bits at address `a`, after redirection, moves its own thread and no other. Words that trap or halt stop the
thread's lane, and are stated for empty queues. The model's readings that it may rest on are its own: assumptions 41, 42. -/
def Obligations.Microwords : Prop :=
  ∀ (s : State) (n : Fin 96) (t : Fin 9) (rom : BitVec 24) (conds : BitVec 32) (i : Issue) (x : Thread) (a w : Nat),
    s.tstate n t = tsRun → x = s.thread n t → x.space = .micro → a = s.redirect x.pc → s.microOk a = true → w = s.microWord a rom →
    i = ⟨n, t, rom, .good, conds⟩ →
    (∀ d : NanoDone, isFormat 0 w = true → w / 2 ^ 10 % 2 ^ 12 < s.stores.nano.length → d.check = .good →
      ∃ u, exec (.mwExec i d) s = .next u ∧ (u.thread n t).pc = a + 1 ∧
        (u.thread n t).g = d.writes.foldl (fun g e => g.set e.1.val e.2) x.g ∧ (d.flags = none → (u.thread n t).z = x.z) ∧
        (∀ f, d.flags = some f → (u.thread n t).z = f.1 ∧ (u.thread n t).n = f.2.1 ∧ (u.thread n t).c = f.2.2) ∧
        u.efs n = ((BitVec.ofNat 16 (s.efs n) ||| d.setEf) &&& ~~~d.clrEf).toNat ∧ s.ThreadOnly u n t (fun _ => False)) ∧
    (isFormat 1 w = true → w % 8 = 0 → s.microOk (s.branchTarget n t w conds) = true →
      (Nat.bitAt w 3 = false → ∃ u, exec (.mwBranch i) s = .next u ∧
        u.thread n t = { x with pc := s.branchTarget n t w conds } ∧
        s.ThreadOnly u n t (fun b => b = slotAddr (Page.lsq n) LSQ.THREAD_MODE_VERTICAL 0)) ∧
      (Nat.bitAt w 3 = true → x.stack.length < 8 → ∃ u, exec (.mwBranch i) s = .next u ∧
        u.thread n t = { x with pc := s.branchTarget n t w conds, stack := (.micro, a + 1) :: x.stack } ∧
        s.ThreadOnly u n t (fun b => b = slotAddr (Page.lsq n) LSQ.THREAD_MODE_VERTICAL 0))) ∧
    (isFormat 2 w = true → ∃ u, exec (.mwWait i) s = .next u ∧
      s.ThreadOnly u n t (fun b => b = slotAddr (Page.lsq n) LSQ.SEQ_STATUS_TSTATE 0) ∧
      (s.condition n t (w / 2 ^ 16 % 64) conds = Nat.bitAt w 15 →
        u.thread n t = { x with pc := a + 2, timedOut := false, wait := none } ∧ u.tstate n t = tsRun) ∧
      (s.condition n t (w / 2 ^ 16 % 64) conds ≠ Nat.bitAt w 15 → w % 2 ^ 12 = 0 → w / 2 ^ 12 % 8 ≠ 7 →
        u.thread n t = { x with pc := a + 1, timedOut := true, wait := none } ∧ u.tstate n t = tsRun) ∧
      (s.condition n t (w / 2 ^ 16 % 64) conds ≠ Nat.bitAt w 15 → w % 2 ^ 12 ≠ 0 ∨ w / 2 ^ 12 % 8 = 7 →
        u.thread n t = { x with pc := a, wait := some ⟨w / 2 ^ 16 % 64, Nat.bitAt w 15, w / 2 ^ 12 % 8 != 7⟩ } ∧ u.tstate n t = tsWait)) ∧
    (isCtrl 0 w = true → s.microOk (w % 2 ^ 14) = true → ∃ u, exec (.ctrlJump i) s = .next u ∧ u.thread n t = { x with pc := w % 2 ^ 14 } ∧
      s.ThreadOnly u n t (fun b => b = slotAddr (Page.lsq n) LSQ.THREAD_MODE_VERTICAL 0)) ∧
    (isCtrl 1 w = true → s.microOk (w % 2 ^ 14) = true → x.stack.length < 8 → ∃ u, exec (.ctrlCall i) s = .next u ∧
      u.thread n t = { x with pc := w % 2 ^ 14, stack := (.micro, a + 1) :: x.stack } ∧
      s.ThreadOnly u n t (fun b => b = slotAddr (Page.lsq n) LSQ.THREAD_MODE_VERTICAL 0)) ∧
    (∀ ret rest, isCtrl 2 w = true → x.stack = ret :: rest → ∃ u, exec (.ctrlReturn i false) s = .next u ∧
      u.thread n t = { x with space := ret.1, pc := ret.2, stack := rest } ∧
      s.ThreadOnly u n t (fun b => b = slotAddr (Page.lsq n) LSQ.THREAD_MODE_VERTICAL 0)) ∧
    (isCtrl 3 w = true → ∃ u, exec (.ctrlRett i) s = .next u ∧ u.inTrap n t = false ∧
      u.thread n t = { x with space := x.shSpace, pc := x.shPc, z := Nat.bitAt x.shFlags 2, n := Nat.bitAt x.shFlags 1,
                              c := Nat.bitAt x.shFlags 0 } ∧
      s.ThreadOnly u n t (fun b => b = slotAddr (Page.lsq n) LSQ.THREAD_MODE_VERTICAL 0)) ∧
    (isCtrl 5 w = true → ∃ u, exec (.ctrlKick i) s = .next u ∧ u.thread n t = { x with pc := a + 1, kicked := s.time.us } ∧
      s.ThreadOnly u n t (fun _ => False)) ∧
    (isCtrl 6 w = true → ∃ u, exec (.ctrlSig i) s = .next u ∧ u.thread n t = { x with pc := a + 1 } ∧
      u.efs n = Nat.lor (s.efs n) (w % 2 ^ 16) % 2 ^ 16 ∧ s.ThreadOnly u n t (fun _ => False)) ∧
    (isCtrl 7 w = true → ∃ u, exec (.ctrlClr i) s = .next u ∧ u.thread n t = { x with pc := a + 1 } ∧
      u.efs n = Nat.land (s.efs n) (2 ^ 16 - 1 - w % 2 ^ 16) % 2 ^ 16 ∧ s.ThreadOnly u n t (fun _ => False)) ∧
    (isCtrl 8 w = true → ∃ u, exec (.ctrlStkclr i) s = .next u ∧ u.thread n t = { x with pc := a + 1, stack := [] } ∧
      s.ThreadOnly u n t (fun _ => False)) ∧
    (isCtrl 9 w = true → ∃ u, exec (.ctrlVert i) s = .next u ∧ u.thread n t = { x with space := .vertical, pc := w % 2 ^ 14 } ∧
      Nat.bitAt (u.fld (Page.lsq n) LSQ.THREAD_MODE_VERTICAL) t = true ∧
      s.ThreadOnly u n t (fun b => b = slotAddr (Page.lsq n) LSQ.THREAD_MODE_VERTICAL 0)) ∧
    (isCtrl 10 w = true → s.queues = [] → x.stack.length ≤ 8 → ∃ u, exec (.ctrlHalt i) s = .next u ∧ u.tstate n t = tsHalted ∧
      u.fld (Page.lsq n) LSQ.TRAP_REC_CAUSE t = 7 ∧ u.fld (Page.lsq n) LSQ.TRAP_REC_CODE t = w % 256 ∧
      (s.powered (Page.lsq n) = true → u.raised (Page.lsq n) LSQ.S_THREAD_HALT = true)) ∧
    (isCtrl 4 w = true → s.queues = [] → x.stack.length ≤ 8 → s.inHandler n t = false → ∃ u, exec (.ctrlTrap i) s = .next u ∧
      u.inTrap n t = true ∧ (u.thread n t).pc = (if t.val < 8 then 0x0010 else 0x0020) + 7 ∧ (u.thread n t).stack = x.stack ∧
      (u.thread n t).shPc = a ∧ (u.thread n t).shSpace = .micro ∧ (u.thread n t).shFlags = flagWord x ∧
      u.fld (Page.lsq n) LSQ.TRAP_REC_CAUSE t = 7 ∧ u.fld (Page.lsq n) LSQ.TRAP_REC_CODE t = w % 256 ∧
      u.fld (Page.lsq n) LSQ.TRAP_REC_DEPTH t = x.stack.length ∧
      u.reg (Page.lsq n) LSQ.TRAPS = BitVec.ofNat 48 ((s.reg (Page.lsq n) LSQ.TRAPS).toNat + 1))

/-- WAIT_CONDITION_MET and WAIT_TIMEOUT complete, and with them every vertical operation: V_NOP, V_LDI, V_ALU, V_LRD, V_LWR, V_JMP,
V_BRC, V_WAITV, V_CALLV, V_RETV, V_ENTER, V_EVT, V_RESTART, V_EXT, V_TEST and V_STOP (tier 2; R212, R221, R222, R227): what a vertical
operation that issues with good check bits does to its thread. What LRD reads is open, and so are C after every ALU operation but ADD
and the result of a shift by 24 or more. The model's readings that it may rest on are its own: assumptions 41, 42. -/
def Obligations.VerticalOps : Prop :=
  (∀ (s : State) (n : Fin 96) (t : Fin 9) (conds : BitVec 32) (w : Waiting), (s.thread n t).wait = some w →
    (s.condition n t w.cond conds = w.pol → ∃ u, exec (.waitConditionMet n t conds) s = .next u ∧ u.tstate n t = tsRun ∧
      u.thread n t = { s.thread n t with pc := (s.thread n t).pc + 2, timedOut := false, wait := none } ∧
      s.ThreadOnly u n t (fun b => b = slotAddr (Page.lsq n) LSQ.SEQ_STATUS_TSTATE 0)) ∧
    (w.limited = true → ∃ u, exec (.waitTimeout n t) s = .next u ∧ u.tstate n t = tsRun ∧
      u.thread n t = { s.thread n t with pc := (s.thread n t).pc + 1, timedOut := true, wait := none } ∧
      s.ThreadOnly u n t (fun b => b = slotAddr (Page.lsq n) LSQ.SEQ_STATUS_TSTATE 0))) ∧
  ∀ (s : State) (n : Fin 96) (t : Fin 9) (rom : BitVec 24) (conds : BitVec 32) (i : Issue) (x : Thread) (w op next : Nat),
    s.tstate n t = tsRun → x = s.thread n t → x.space = .vertical → w = rom.toNat % 2 ^ 16 → op = w / 2 ^ 12 →
    next = (x.pc + 1) % 2 ^ 14 → i = ⟨n, t, rom, .good, conds⟩ →
    (op = 0 → w % 2 ^ 12 = 0 → ∃ u, exec (.vNop i) s = .next u ∧ u.thread n t = { x with pc := next } ∧
      s.ThreadOnly u n t (fun _ => False)) ∧
    (op = 1 → ∃ u, exec (.vLdi i) s = .next u ∧ u.thread n t = { x with pc := next, ext := none, g := (u.thread n t).g } ∧
      (u.thread n t).g = x.g.set (w / 2 ^ 8 % 16) (BitVec.ofNat 24 (x.ext.getD 0 * 256 + w % 256)) ∧ s.ThreadOnly u n t (fun _ => False)) ∧
    (op = 2 → w % 16 < 9 → x.g.length = 16 → ∃ u v, exec (.vAlu i) s = .next u ∧ (u.thread n t).pc = next ∧
      (∀ r, aluResult (w % 16) (s.greg n t (w / 2 ^ 8 % 16)).toNat (s.greg n t (w / 2 ^ 4 % 16)).toNat = some r → v = r) ∧
      (u.thread n t).z = (v == 0) ∧ (u.thread n t).n = decide (2 ^ 23 ≤ v) ∧
      (w % 16 = 1 → (u.thread n t).c = decide (2 ^ 24 ≤ (s.greg n t (w / 2 ^ 8 % 16)).toNat + (s.greg n t (w / 2 ^ 4 % 16)).toNat)) ∧
      (u.thread n t).g = (if w % 16 = 8 then x.g else x.g.set (w / 2 ^ 8 % 16) (BitVec.ofNat 24 v)) ∧
      s.ThreadOnly u n t (fun _ => False)) ∧
    (op = 3 → ∃ u v, exec (.vLrd i) s = .next u ∧ u.thread n t = { x with pc := next, g := x.g.set (w / 2 ^ 8 % 16) v } ∧
      s.ThreadOnly u n t (fun _ => False)) ∧
    (op = 4 → ∃ u, exec (.vLwr i) s = .next u ∧ u.thread n t = { x with pc := next } ∧
      u.laneRegs.get ((16 * n + t) * 256 + w % 256) 0 = s.greg n t (w / 2 ^ 8 % 16) ∧ s.ThreadOnly u n t (fun _ => False)) ∧
    (op = 5 → ∃ u, exec (.vJmp i) s = .next u ∧ u.thread n t = { x with pc := w % 2 ^ 12 * 4 } ∧ s.ThreadOnly u n t (fun _ => False)) ∧
    (op = 6 → ∃ u, exec (.vBrc i) s = .next u ∧ s.ThreadOnly u n t (fun _ => False) ∧
      u.thread n t = { x with pc := (if s.condition n t (w / 2 ^ 6 % 64) conds then (((x.pc : Int) + signed 6 w) % 16384).toNat else next) }) ∧
    (op = 7 → ∃ u, exec (.vWaitv i) s = .next u ∧ s.ThreadOnly u n t (fun b => b = slotAddr (Page.lsq n) LSQ.SEQ_STATUS_TSTATE 0) ∧
      (s.condition n t (w / 2 ^ 6 % 64) conds = true →
        u.thread n t = { x with pc := x.pc + 2, timedOut := false, wait := none } ∧ u.tstate n t = tsRun) ∧
      (s.condition n t (w / 2 ^ 6 % 64) conds = false →
        u.thread n t = { x with wait := some ⟨w / 2 ^ 6 % 64, true, w / 2 ^ 3 % 8 != 7⟩ } ∧ u.tstate n t = tsWait)) ∧
    (op = 8 → x.stack.length < 8 → ∃ u, exec (.vCallv i) s = .next u ∧
      u.thread n t = { x with pc := w % 2 ^ 12 * 4, stack := (.vertical, next) :: x.stack } ∧ s.ThreadOnly u n t (fun _ => False)) ∧
    (∀ ret rest, op = 9 → w % 2 ^ 12 = 0 → x.stack = ret :: rest → ∃ u, exec (.vRetv i false) s = .next u ∧
      u.thread n t = { x with space := ret.1, pc := ret.2, stack := rest } ∧
      s.ThreadOnly u n t (fun b => b = slotAddr (Page.lsq n) LSQ.THREAD_MODE_VERTICAL 0)) ∧
    (∀ a, op = 10 → a = (s.greg n t (w / 2 ^ 8 % 16)).toNat % 2 ^ 14 → s.microOk a = true → ∃ u, exec (.vEnter i) s = .next u ∧
      (u.thread n t).space = .micro ∧ (u.thread n t).pc = a ∧ (u.thread n t).running = (x.running || x.starting) ∧
      s.ThreadOnly u n t (fun b => b = slotAddr (Page.lsq n) LSQ.THREAD_MODE_VERTICAL 0)) ∧
    (op = 11 → w / 2 ^ 10 % 4 < 3 → ∃ u, exec (.vEvt i) s = .next u ∧ (u.thread n t).pc = next ∧ s.ThreadOnly u n t (fun _ => False) ∧
      (w / 2 ^ 10 % 4 = 0 → u.efs n = Nat.lor (s.efs n) (2 ^ (w % 16)) % 2 ^ 16) ∧
      (w / 2 ^ 10 % 4 = 1 → u.efs n = Nat.land (s.efs n) (2 ^ 16 - 1 - 2 ^ (w % 16)) % 2 ^ 16) ∧
      (w / 2 ^ 10 % 4 = 2 → (u.thread n t).kicked = s.time.us)) ∧
    (op = 12 → t.val = 8 → w % 16 < 8 → s.queues = [] → ∃ u, exec (.vRestart i) s = .next u ∧
      u.thread n (w % 16) = { starting := true, kicked := s.time.us } ∧ u.tstate n (w % 16) = tsRun ∧ (u.thread n 8).pc = next) ∧
    (op = 13 → ∃ u, exec (.vExt i) s = .next u ∧ u.thread n t = { x with pc := next, ext := some (w % 2 ^ 12) } ∧
      s.ThreadOnly u n t (fun _ => False)) ∧
    (∀ result, op = 14 → ∃ u, exec (.vTest i result) s = .next u ∧ u.thread n t = { x with pc := next, g := x.g.set 0 result } ∧
      s.ThreadOnly u n t (fun _ => False)) ∧
    (op = 15 → s.queues = [] → x.stack.length ≤ 8 → ∃ u, exec (.vStop i) s = .next u ∧
      u.fld (Page.lsq n) LSQ.TRAP_REC_CODE t = w % 256 ∧
      (Nat.bitAt w 11 = false → u.tstate n t = tsHalted ∧ u.fld (Page.lsq n) LSQ.TRAP_REC_CAUSE t = 7) ∧
      (Nat.bitAt w 11 = true → s.inHandler n t = false → u.inTrap n t = true ∧ u.fld (Page.lsq n) LSQ.TRAP_REC_CAUSE t = 7 ∧
        (u.thread n t).shPc = x.pc ∧ (u.thread n t).shSpace = .vertical))

/-- WATCHDOG_EXPIRY, ALL_WAIT_FIRE, SEQ_STORE_SCRUB, STORE_RECOVERY, STAGING_WRITE, IMG_RELOAD, IMAGE_LOAD, IMG_LOADED and
SEQUENCER_RESYNC complete (tier 2; R215, R226, R229, R231, R232, R234, R235): traps that no word asks for, and the stores. The model's
readings that it may rest on are its own: assumptions 42, 43. -/
def Obligations.TrapsAndStores : Prop :=
  (∀ (s : State) (n : Fin 96) (t : Fin 9), s.tstate n t = tsRun → s.inHandler n t = false → s.queues = [] →
    (s.thread n t).stack.length ≤ 8 →
    ∃ u, exec (.watchdogExpiry n t) s = .next u ∧ u.inTrap n t = true ∧ u.fld (Page.lsq n) LSQ.TRAP_REC_CAUSE t = 5 ∧
      (u.thread n t).pc = (if t.val < 8 then 0x0010 else 0x0020) + 5 ∧ (u.thread n t).stack = (s.thread n t).stack ∧
      u.reg (Page.lsq n) LSQ.TRAPS = BitVec.ofNat 48 ((s.reg (Page.lsq n) LSQ.TRAPS).toNat + 1)) ∧
  (∀ (s : State) (n : Fin 96), (∀ t, t < 9 → s.waitsOnPeers n t = true) → s.queues = [] →
    ∃ u, exec (.allWaitFire n) s = .next u ∧ (u.thread n 8).space = .vertical ∧ (u.thread n 8).pc = 0x0300 ∧ u.inTrap n 8 = true ∧
      u.reg (Page.lsq n) LSQ.STALLS = BitVec.ofNat 48 ((s.reg (Page.lsq n) LSQ.STALLS).toNat + 1) ∧
      (s.powered (Page.lsq n) = true → u.raised (Page.lsq n) LSQ.S_STALL = true) ∧
      (s.stalledAt.get n 0 = 0 ∨ s.stalledAt.get n 0 - 1 + 10000 ≤ s.time.us → ∀ t, t < 8 → u.tstate n t = tsRun ∧
        u.thread n t = { s.thread n t with pc := (s.thread n t).pc + 1, timedOut := true, wait := none }) ∧
      (s.stalledAt.get n 0 ≠ 0 → s.time.us < s.stalledAt.get n 0 - 1 + 10000 → ∀ t, t < 8 →
        u.thread n t = { starting := true, kicked := s.time.us })) ∧
  (∀ (s : State) (n : Fin 96) (corrected : Nat), 0 < corrected → s.powered (Page.lsq n) = true →
    ∃ u, exec (.seqStoreScrub n corrected false) s = .next u ∧ u.raised (Page.lsq n) LSQ.S_STORE_CORRECTED = true ∧
      u.reg (Page.lsq n) LSQ.CORRECTED = BitVec.ofNat 48 ((s.reg (Page.lsq n) LSQ.CORRECTED).toNat + corrected)) ∧
  (∀ (s : State) (n : Fin 96), s.queues = [] →
    (∃ u, exec (.storeRecovery n) s = .next u ∧
      u.reg (Page.lsq n) LSQ.RECOVERIES = BitVec.ofNat 48 ((s.reg (Page.lsq n) LSQ.RECOVERIES).toNat + 1) ∧
      u.flag (Page.lsq n) LSQ.SEQ_STATUS_IMAGE_VALID = s.flag (Page.lsq 0) LSQ.IMG_STATUS_VERIFIED ∧
      (s.powered (Page.lsq n) = true → u.raised (Page.lsq n) LSQ.S_STORE_INVALID = true) ∧
      (s.flag (Page.lsq 0) LSQ.IMG_STATUS_VERIFIED = true → u.flag (Page.lsq n) LSQ.SEQ_STATUS_LOCKED = true ∧
        ∀ t, t < 9 → u.tstate n t = tsRun ∧ u.thread n t = { starting := true, kicked := s.time.us }) ∧
      (s.flag (Page.lsq 0) LSQ.IMG_STATUS_VERIFIED = false → u.isHalted (Page.lsq n) = true ∧ ∀ t, t < 9 → u.tstate n t = tsIdle)) ∧
    (∀ why, s.flag (Page.lsq 0) LSQ.IMG_STATUS_VERIFIED = true → ∃ u, exec (.sequencerResync n why) s = .next u ∧
      u.flag (Page.lsq n) LSQ.SEQ_STATUS_IMAGE_VALID = true ∧ u.flag (Page.lsq n) LSQ.SEQ_STATUS_LOCKED = true ∧
      (why = .block → u.reg (Page.lsq n) LSQ.TRAPS = 0 ∧ ∀ t, t < 9 → u.reg (Page.lsq n) LSQ.TRAP_REC t = 0) ∧
      ∀ t, t < 9 → u.thread n t = { starting := true, kicked := s.time.us })) ∧
  (∀ s : State, ∃ u, exec .stagingWrite s = .next u ∧ u.flag (Page.lsq 0) LSQ.IMG_STATUS_VERIFIED = false ∧
    (s.powered (Page.lsq 0) = true → u.raised (Page.lsq 0) LSQ.S_STAGING_WRITE = true) ∧
    s.Aside u (fun a => a = slotAddr (Page.lsq 0) LSQ.IMG_STATUS_VERIFIED 0)) ∧
  (∀ (s : State) (r : Req) (data v : Word), s.accepts r (Page.lsq 0) LSQ.IMG_CTL 0 false = true →
    v = mergeHalf r.size (s.reg (Page.lsq 0) LSQ.IMG_CTL) data → Word.bit v 0 = true →
    s.flag (Page.lsq 0) LSQ.IMG_STATUS_BUSY = false →
    ∃ u, exec (.imgReload r data) s = .next u ∧ u.flag (Page.lsq 0) LSQ.IMG_STATUS_BUSY = true ∧
      u.flag (Page.lsq 0) LSQ.IMG_CTL_RELOAD = true ∧ u.loadQueue = s.copyOrder (Word.bits v 1 2)) ∧
  (∀ (s : State) (met : CopyFault) (c : Nat) (rest : List Nat), s.flag (Page.lsq 0) LSQ.IMG_STATUS_BUSY = true → c < 4 →
    s.loadQueue = c :: rest →
    (s.imageReason c met = 0 → ∃ u, exec (.imageLoad met) s = .next u ∧ u.stores = s.readImage c ∧ u.loadQueue = [] ∧
      u.flag (Page.lsq 0) LSQ.IMG_STATUS_VERIFIED = true ∧
      u.flag (Page.lsq 0) LSQ.IMG_STATUS_BANK = !s.flag (Page.lsq 0) LSQ.IMG_STATUS_BANK ∧
      u.fld (Page.lsq 0) LSQ.IMG_STATUS_COPY = copyCode c ∧
      u.fld (Page.lsq 0) LSQ.IMG_VERSION_VERSION = (s.readImage c).version % 2 ^ 32) ∧
    (s.imageReason c met ≠ 0 → ∃ u, exec (.imageLoad met) s = .next u ∧ u.loadQueue = rest ∧
      u.fld (Page.lsq 0) LSQ.IMG_STATUS_REASON = s.imageReason c met ∧
      Nat.bitAt (u.fld (Page.lsq 0) LSQ.IMG_STATUS_REJECTED) (copyCode c) = true ∧
      u.reg (Page.lsq 0) LSQ.IMG_REJECTS = BitVec.ofNat 48 ((s.reg (Page.lsq 0) LSQ.IMG_REJECTS).toNat + 1) ∧
      u.flag (Page.lsq 0) LSQ.IMG_STATUS_BUSY = !rest.isEmpty ∧
      u.flag (Page.lsq 0) LSQ.IMG_STATUS_VERIFIED = s.flag (Page.lsq 0) LSQ.IMG_STATUS_VERIFIED)) ∧
  (∀ s : State, s.flag (Page.lsq 0) LSQ.IMG_STATUS_BUSY = true → s.loadQueue = [] → s.queues = [] →
    s.flag (Page.lsq 0) LSQ.IMG_STATUS_VERIFIED = true →
    ∃ u, exec .imgLoaded s = .next u ∧ u.flag (Page.lsq 0) LSQ.IMG_STATUS_BUSY = false ∧
      u.flag Page.dev DEV.DEV_STATUS_IMAGE_READY = true ∧
      u.reg (Page.lsq 0) LSQ.IMG_LOADS = BitVec.ofNat 48 ((s.reg (Page.lsq 0) LSQ.IMG_LOADS).toNat + 1) ∧
      ∀ n, n < 96 → s.powered (Page.lsq n) = true → u.flag (Page.lsq n) LSQ.SEQ_STATUS_IMAGE_VALID = true)

/-- THREAD_STATUS, RESTART_THREAD, RESYNC, HALT_THREAD, READ_REG, READ_STORE, EYE_SCAN, STORE_CHECK and MBX_NOT_TAKEN complete (tier 2;
R237, R238): the mailbox. How THREAD_STATUS packs its words is open. The model's readings that it may rest on are its own: assumptions 41,
42. -/
def Obligations.Mailbox : Prop :=
  (∀ (s : State) (r : Req) (n : Fin 96) (data : Word) (op t : Nat), s.accepts r (Page.lsq n) LSQ.MBX_CMD 0 true = true →
    op = Word.bits data 40 8 → t = Word.bits data 36 4 → s.flag (Page.lsq n) LSQ.MBX_STATUS_BUSY = false →
    (op = 1 → t < 9 → ∃ u, exec (.threadStatus r n data) s = .next u ∧ u.flag (Page.lsq n) LSQ.MBX_STATUS_DONE = true ∧
      u.fld (Page.lsq n) LSQ.MBX_STATUS_RESULT = 0 ∧ u.reg (Page.lsq n) LSQ.MBX_RSP 0 =
        Config.mailboxWord 0 [(s.thread n t).pc, if (s.thread n t).space = .vertical then 1 else 0]) ∧
    (op = 2 → t < 8 → s.queues = [] → ∃ u, exec (.restartThread r n data) s = .next u ∧
      u.flag (Page.lsq n) LSQ.MBX_STATUS_DONE = true ∧ u.fld (Page.lsq n) LSQ.MBX_STATUS_RESULT = 0 ∧
      u.thread n t = { starting := true, kicked := s.time.us } ∧ u.tstate n t = tsRun) ∧
    (op = 3 → s.queues = [] → s.flag (Page.lsq 0) LSQ.IMG_STATUS_VERIFIED = true → ∃ u, exec (.resync r n data) s = .next u ∧
      u.flag (Page.lsq n) LSQ.MBX_STATUS_DONE = true ∧ u.fld (Page.lsq n) LSQ.MBX_STATUS_RESULT = 0 ∧
      u.flag (Page.lsq n) LSQ.SEQ_STATUS_IMAGE_VALID = true ∧ ∀ v, v < 9 → u.thread n v = { starting := true, kicked := s.time.us }) ∧
    (op = 4 → t < 9 → s.queues = [] → (s.thread n t).stack.length ≤ 8 → ∃ u, exec (.haltThread r n data) s = .next u ∧
      u.flag (Page.lsq n) LSQ.MBX_STATUS_DONE = true ∧ u.tstate n t = tsHalted ∧ u.fld (Page.lsq n) LSQ.TRAP_REC_CAUSE t = 8 ∧
      u.fld (Page.lsq n) LSQ.TRAP_REC_CODE t = 4) ∧
    (op = 5 → t < 9 → ∃ u, exec (.readReg r n data) s = .next u ∧ u.flag (Page.lsq n) LSQ.MBX_STATUS_DONE = true ∧
      u.reg (Page.lsq n) LSQ.MBX_RSP 0 = BitVec.ofNat 48 (s.greg n t (s.fld (Page.lsq n) LSQ.MBX_ARG_ARG0 % 16)).toNat) ∧
    (∀ rom, op = 6 → ∃ u, exec (.readStore r n data rom) s = .next u ∧ u.flag (Page.lsq n) LSQ.MBX_STATUS_DONE = true ∧
      (∀ v, s.storeWord (s.fld (Page.lsq n) LSQ.MBX_ARG_ARG0 % 8) (s.fld (Page.lsq n) LSQ.MBX_ARG_ARG1) rom = some v →
        u.fld (Page.lsq n) LSQ.MBX_STATUS_RESULT = 0 ∧ u.reg (Page.lsq n) LSQ.MBX_RSP 0 = BitVec.ofNat 48 v ∧
        u.reg (Page.lsq n) LSQ.MBX_RSP 1 = BitVec.ofNat 48 (v / 2 ^ 48) ∧ u.reg (Page.lsq n) LSQ.MBX_RSP 2 = BitVec.ofNat 48 (v / 2 ^ 96)) ∧
      (s.storeWord (s.fld (Page.lsq n) LSQ.MBX_ARG_ARG0 % 8) (s.fld (Page.lsq n) LSQ.MBX_ARG_ARG1) rom = none →
        u.fld (Page.lsq n) LSQ.MBX_STATUS_RESULT = 2)) ∧
    (∀ a b, op = 7 → t < 8 → s.lstate (8 * n + t) ∈ [lsActive, lsTest] → s.tstate n 8 ≠ tsHalted →
      ∃ u, exec (.eyeScan r n data (.done a b)) s = .next u ∧ u.flag (Page.lsq n) LSQ.MBX_STATUS_DONE = true ∧
        u.fld (Page.lsq n) LSQ.MBX_STATUS_RESULT = 0 ∧ u.reg (Page.lsq n) LSQ.MBX_RSP 0 = a ∧ u.reg (Page.lsq n) LSQ.MBX_RSP 1 = b) ∧
    (∀ met, op = 7 → t < 8 → s.lstate (8 * n + t) ∉ [lsActive, lsTest] →
      ∃ u, exec (.eyeScan r n data met) s = .next u ∧ u.fld (Page.lsq n) LSQ.MBX_STATUS_RESULT = 2) ∧
    (∀ a b, op = 8 → (s.tstate n 8 ≠ tsHalted → ∃ u, exec (.storeCheck r n data (.done a b)) s = .next u ∧
        u.fld (Page.lsq n) LSQ.MBX_STATUS_RESULT = 0 ∧ u.reg (Page.lsq n) LSQ.MBX_RSP 0 = a) ∧
      (s.tstate n 8 = tsHalted → ∃ u, exec (.storeCheck r n data (.done a b)) s = .next u ∧
        u.fld (Page.lsq n) LSQ.MBX_STATUS_RESULT = 5)) ∧
    (op = 0 ∨ 9 ≤ op → ∃ u, exec (.threadStatus r n data) s = .next u ∧ u.flag (Page.lsq n) LSQ.MBX_STATUS_DONE = true ∧
      u.fld (Page.lsq n) LSQ.MBX_STATUS_RESULT = 1)) ∧
  (∀ (s : State) (n : Fin 96), s.flag (Page.lsq n) LSQ.MBX_STATUS_BUSY = true →
    ∃ u, exec (.mbxNotTaken n) s = .next u ∧ u.flag (Page.lsq n) LSQ.MBX_STATUS_BUSY = false ∧
      u.flag (Page.lsq n) LSQ.MBX_STATUS_DONE = true ∧ u.fld (Page.lsq n) LSQ.MBX_STATUS_RESULT = 3 ∧
      s.Aside u (fun a => a = slotAddr (Page.lsq n) LSQ.MBX_STATUS_BUSY 0))


/-! ## Port engines and links (08_port_engines.md) -/

/-- MOVE_REQ_REPEAT, MOVE_REQ, RESTORE_REQ, TIE_IN, TIEIN_SEND, TIEIN_TIMEOUT, BREAKOUT_WRITE, LP_ENABLE_WRITE, LINK_UP and
LINK_FAULT_TIMEOUT complete (tier 2; R241, R242, R252 to R257): tie-in, lane moves, breakout and link states. What a port's change of
state does to its queued packets is stated for empty queues. The model's readings that it may rest on are its own: assumptions 34, 35, 36. -/
def Obligations.PortControl : Prop :=
  (∀ (s : State) (lp : Fin 768) (m : MoveReq), (s.port lp).move = some m →
    ∃ t, exec (.moveReqRepeat lp) s = .next t ∧
      t.out = .control lp m.mask (moveMsg (if m.restore then 4 else 2) m.seq m.mask m.lost) :: s.out ∧ s.Aside t (fun _ => False)) ∧
  (∀ (s : State) (lp : Fin 768) (msg : List Byte) (mask both : Nat), mask = byteAt msg 2 % 16 → msgGood msg 2 = true →
    s.linkUp lp = true → s.spareAgreed lp = true → Nat.land mask (s.laneSet lp) = mask →
    both = (match (s.port lp).move with | some m => if m.restore then mask else Nat.land mask m.mask | none => mask) → both ≠ 0 →
    s.queues = [] →
    ∃ t, exec (.moveReq lp msg) s = .next t ∧ t.laneSet lp = both ∧ (t.port lp).move = none ∧
      Output.control lp both (moveMsg 3 (byteAt msg 1) both (byteAt msg 3 % 16)) ∈ t.out ∧
      t.reg (lpPage lp) PEN.C_LANE_MOVES = BitVec.ofNat 48 ((s.reg (lpPage lp) PEN.C_LANE_MOVES).toNat + 1)) ∧
  (∀ (s : State) (lp : Fin 768) (msg : List Byte) (mask i : Nat), mask = Nat.land (byteAt msg 2 % 16) (s.configured lp) →
    msgGood msg 4 = true → s.linkUp lp = true → i < 4 → Nat.bitAt mask i = true → s.lstate (lp / 4 * 4 + i) = lsSpared →
    (s.lane (lp / 4 * 4 + i)).testOk = true → s.queues = [] →
    ∃ t, exec (.restoreReq lp msg) s = .next t ∧ t.laneSet lp = Nat.lor mask (s.laneSet lp) ∧
      Output.control lp (Nat.lor mask (s.laneSet lp)) (moveMsg 5 (byteAt msg 1) (Nat.lor mask (s.laneSet lp)) (byteAt msg 3 % 16)) ∈ t.out) ∧
  (∀ (s : State) (l : Fin 768) (lp : Nat) (msg : List Byte), lp = s.portOfLane l → s.lstate l = lsTieIn → s.fabricPort lp = true →
    (msg.length = 31 → beAt msg 29 2 ≠ crc16 (msg.take 29) → ∃ t, exec (.tieIn l msg) s = .next t ∧ (t.lane l).tieRun = 0) ∧
    (msgGood msg 1 = true → s.tieReason l msg ≠ 0 → s.queues = [] → ∃ t, exec (.tieIn l msg) s = .next t ∧
      t.lpFld lp PEN.TIEIN_STATUS_REASON = s.tieReason l msg ∧ t.lpFld lp PEN.TIEIN_STATUS_VALID = 0 ∧
      (s.powered (lpPage lp) = true → t.raised (lpPage lp) PEN.S_TIEIN_REFUSED = true) ∧
      t.reg (lpPage lp) PEN.C_TIEIN_FAILS = BitVec.ofNat 48 ((s.reg (lpPage lp) PEN.C_TIEIN_FAILS).toNat + 1)) ∧
    (msgGood msg 1 = true → s.tieReason l msg = 0 →
      (∃ m, m ∈ lanesOf lp (s.laneSet lp) ∧ m ≠ l.val ∧ (s.lane m).tieRun < 3) →
      ∃ t, exec (.tieIn l msg) s = .next t ∧ t.lstate l = lsTieIn ∧ (t.lane l).peerId = some (beAt msg 5 10) ∧
        (t.lane l).tieRun = (if Nat.bitAt (byteAt msg 2) 0 && beAt msg 19 4 == (s.lane l).session then (s.lane l).tieRun + 1 else 0)) ∧
    (msgGood msg 1 = true → s.tieReason l msg = 0 → Nat.bitAt (byteAt msg 2) 0 = true → beAt msg 19 4 = (s.lane l).session →
      l.val ∈ lanesOf lp (s.laneSet lp) → 2 ≤ (s.lane l).tieRun → s.queues = [] →
      (∀ m, m ∈ lanesOf lp (s.laneSet lp) → s.lstate m = lsTieIn ∧ s.laneAllowed m = true ∧ (m ≠ l.val → 3 ≤ (s.lane m).tieRun) ∧
        ∀ i, s.severity (Page.lane m) i ≠ 3) →
      ∃ t, exec (.tieIn l msg) s = .next t ∧ t.lpFld lp PEN.TIEIN_STATUS_VALID = 1 ∧
        ∀ m, m ∈ lanesOf lp (s.laneSet lp) → t.lstate m = lsActive)) ∧
  (∀ (s : State) (l : Fin 768), s.lstate l = lsTieIn → s.fabricPort (s.portOfLane l) = true →
    ∃ t, exec (.tieinSend l) s = .next t ∧ t.out = .tieIn l (s.tieInMsg l) :: s.out ∧ s.Aside t (fun _ => False)) ∧
  (∀ (s : State) (lp : Fin 768) (m : Nat), m ∈ lanesOf lp (s.laneSet lp) → s.lstate m = lsTieIn → s.queues = [] →
    ∃ t, exec (.tieinTimeout lp) s = .next t ∧ t.lpFld lp PEN.TIEIN_STATUS_REASON = 5 ∧ t.lpFld lp PEN.TIEIN_STATUS_VALID = 0 ∧
      (s.powered (Page.lane m) = true → t.raised (Page.lane m) LN.S_TIEIN_FAIL = true) ∧
      t.reg (lpPage lp) PEN.C_TIEIN_FAILS = BitVec.ofNat 48 ((s.reg (lpPage lp) PEN.C_TIEIN_FAILS).toNat + 1)) ∧
  (∀ (s : State) (r : Req) (pe : Fin 192) (data : Word), s.accepts r (Page.pen pe) PEN.PE_CFG 0 false = true → r.size = .w64 →
    s.powered (Page.pen pe) = true → s.queues = [] →
    (Word.bits data 0 2 ≠ 3 → (∀ i, i < 4 → s.flag (Page.pen pe) PEN.LP_CTL_ENABLE i = false) →
      ∃ t, exec (.breakoutWrite r pe data) s = .next t ∧ t.breakout pe = Word.bits data 0 2) ∧
    (∀ i, i < 4 → Word.bits data 0 2 = 3 ∨ s.flag (Page.pen pe) PEN.LP_CTL_ENABLE i = true →
      ∃ t, exec (.breakoutWrite r pe data) s = .next t ∧ t.breakout pe = s.breakout pe ∧
        t.raised (Page.pen pe) PEN.S_BREAKOUT_INVALID = true)) ∧
  (∀ (s : State) (r : Req) (lp : Fin 768) (data new : Word), s.accepts r (lpPage lp) PEN.LP_CTL (lp % 4) false = true →
    new = BitVec.ofNat 48 ((mergeHalf r.size (s.reg (lpPage lp) PEN.LP_CTL (lp % 4)) data).toNat % 2 ^ 33) → s.queues = [] →
    (Word.bit new 0 = true → s.lpFld lp PEN.LP_CTL_ENABLE = 0 → s.created lp = true → (s.port lp).width = 0 →
      ∃ t, exec (.lpEnableWrite r lp data) s = .next t ∧ t.reg (lpPage lp) PEN.LP_CTL (lp % 4) = new ∧ t.linkState lp = lpDown ∧
        t.laneSet lp = s.configured lp) ∧
    (Word.bit new 0 = false → s.lpFld lp PEN.LP_CTL_ENABLE = 1 →
      ∃ t, exec (.lpEnableWrite r lp data) s = .next t ∧ t.reg (lpPage lp) PEN.LP_CTL (lp % 4) = new ∧ t.linkState lp = lpDisabled) ∧
    ((if Word.bit new 0 then 1 else 0) = s.lpFld lp PEN.LP_CTL_ENABLE →
      ∃ t, exec (.lpEnableWrite r lp data) s = .next t ∧ t.reg (lpPage lp) PEN.LP_CTL (lp % 4) = new ∧
        s.Aside t (fun a => a = slotAddr (lpPage lp) PEN.LP_CTL (lp % 4)))) ∧
  (∀ (s : State) (lp : Fin 768), s.lpEnabled lp = true → s.linkState lp = lpDown → s.setUp lp = true → s.queues = [] →
    ∃ t, exec (.linkUp lp) s = .next t ∧ t.linkState lp = (if s.laneSet lp = s.configured lp then lpUp else lpReduced) ∧
      t.lpFld lp PEN.LP_STATUS_LOCAL_FAULT = 0 ∧ t.lpFld lp PEN.LP_STATUS_REMOTE_FAULT = 0 ∧
      t.lpFld lp PEN.LP_STATUS_RATE = s.portRate lp / 100000 % 2 ^ 16 ∧
      (s.powered (lpPage lp) = true → t.raised (lpPage lp) PEN.S_LINK_CHANGE = true ∧
        (s.laneSet lp ≠ s.configured lp → t.raised (lpPage lp) PEN.S_PORT_REDUCED = true))) ∧
  (∀ (s : State) (lp : Fin 768) (remote : Bool), s.lpEnabled lp = true → s.queues = [] →
    ∃ t, exec (.linkFaultTimeout lp remote) s = .next t ∧ t.linkUp lp = false ∧
      t.lpFld lp (if remote then PEN.LP_STATUS_REMOTE_FAULT else PEN.LP_STATUS_LOCAL_FAULT) = 1 ∧
      (s.linkUp lp = true → t.linkState lp = lpDown ∧ t.lpFld lp PEN.LP_STATUS_PAUSED = 0 ∧ t.lpFld lp PEN.LP_STATUS_XOFF_SENT = 0 ∧
        t.reg (lpPage lp) PEN.C_LINK_DOWNS (lp % 4) =
          BitVec.ofNat 48 ((s.reg (lpPage lp) PEN.C_LINK_DOWNS (lp % 4)).toNat + 1)))

/-- RX_FRAME, TX_FRAME, PAUSE_TIMER_EXPIRY, XOFF_REFRESH, PFC_STORM, PFC_STORM_END and TS_META_READ complete (tier 2; R243 to R245, R260
to R265, R270, R271, R273, R435): what the MAC accepts, discards and sends, and pause. Counters of a frame that leaves are stated where
no survey counter is assigned and the packet holds no buffer chain. The model's readings that it may rest on are its own: assumption 37. -/
def Obligations.PortFrames : Prop :=
  (∀ (s : State) (lp : Fin 768) (l : List Byte), s.inService (lpPage lp) = true → s.linkUp lp = true → s.fabricPort lp = false →
    (∀ c, rxError l.length (s.maxFrame lp) (decide (4 ≤ l.length) && leAt l (l.length - 4) 4 == crcFcs (l.take (l.length - 4))) = some c →
      ∃ t, exec (.rxFrame lp l false .whole) s = .next t ∧ t.pkts = s.pkts ∧
        t.reg (lpPage lp) c (lp % 4) = BitVec.ofNat 48 ((s.reg (lpPage lp) c (lp % 4)).toNat + 1)) ∧
    (∀ fate c, fate = RxFate.lost ∧ c = PEN.C_RX_LOST ∨ fate = RxFate.codeError ∧ c = PEN.C_RX_CODE_ERRORS →
      ∃ t, exec (.rxFrame lp l false fate) s = .next t ∧ t.pkts = s.pkts ∧
        t.reg (lpPage lp) c (lp % 4) = BitVec.ofNat 48 ((s.reg (lpPage lp) c (lp % 4)).toNat + 1)) ∧
    (64 ≤ l.length → l.length ≤ s.maxFrame lp → leAt l (l.length - 4) 4 = crcFcs (l.take (l.length - 4)) →
      (beAt l 12 2 ≠ 0x8808 → s.ingressFill lp + (l.length - 4) ≤ 32768 →
        ∃ t, exec (.rxFrame lp l false .whole) s = .next t ∧ t.nextPkt = s.nextPkt + 1 ∧ t.pkt s.nextPkt =
          { stage := if s.secFld lp MSC.LP_SEC_PROTECT_RX = 1 then .secRx else .parse, bytes := l.take (l.length - 4), lp := lp,
            ts := s.wNow, grp := lp / 32, ord := s.nextPkt } ∧
          t.reg (lpPage lp) PEN.C_RX_FRAMES_OK (lp % 4) = BitVec.ofNat 48 ((s.reg (lpPage lp) PEN.C_RX_FRAMES_OK (lp % 4)).toNat + 1) ∧
          t.reg (lpPage lp) PEN.C_RX_OCTETS_OK (lp % 4) =
            BitVec.ofNat 48 ((s.reg (lpPage lp) PEN.C_RX_OCTETS_OK (lp % 4)).toNat + l.length)) ∧
      (beAt l 12 2 ≠ 0x8808 → 32768 < s.ingressFill lp + (l.length - 4) →
        ∃ t, exec (.rxFrame lp l false .whole) s = .next t ∧ t.pkts = s.pkts ∧
          t.reg (lpPage lp) PEN.C_RX_OVERRUN (lp % 4) = BitVec.ofNat 48 ((s.reg (lpPage lp) PEN.C_RX_OVERRUN (lp % 4)).toNat + 1)) ∧
      (beAt l 12 2 = 0x8808 → ∃ t, exec (.rxFrame lp l false .whole) s = .next t ∧ t.pkts = s.pkts ∧
        (s.fcMode lp = 1 → beAt l 14 2 = 1 → (s.port lp).storm = 0 → (s.port lp).quanta.length = 8 →
          (t.port lp).quanta = List.replicate 8 (beAt l 16 2) ∧ t.lpFld lp PEN.LP_STATUS_PAUSED = (if beAt l 16 2 = 0 then 0 else 255) ∧
          t.reg (lpPage lp) PEN.C_RX_PAUSE (lp % 4) = BitVec.ofNat 48 ((s.reg (lpPage lp) PEN.C_RX_PAUSE (lp % 4)).toNat + 1)) ∧
        (s.fcMode lp = 0 ∨ s.fcMode lp = 3 ∨ beAt l 14 2 ∉ [1, 0x101] → t.reg (lpPage lp) PEN.C_RX_MAC_CTL_DISCARD (lp % 4) =
          BitVec.ofNat 48 ((s.reg (lpPage lp) PEN.C_RX_MAC_CTL_DISCARD (lp % 4)).toNat + 1) ∧
          t.lpFld lp PEN.LP_STATUS_PAUSED = s.lpFld lp PEN.LP_STATUS_PAUSED)))) ∧
  (∀ (s : State) (id : Nat) (x : Pkt) (l : List Byte), x = s.pkt id → x.stage = .transmit → s.nextOut x = true → x.outLp < 768 →
    s.inService (lpPage x.outLp) = true → s.linkUp x.outLp = true → s.fabricPort x.outLp = false →
    l = fit (Nat.max 60 x.bytes.length) x.bytes →
    (x.tagBad = false → x.bits 187 46 2 = 0 → x.inband = [] →
      ∃ t, exec (.txFrame id .sent false false []) s = .next t ∧ t.pkt id = dflt.pkt ∧
        Output.frame x.outLp (l ++ leBytes 4 (crcFcs l)) ∈ t.out ∧
        (x.chain = 0 → x.parcel < 1024 → (∀ e, e ∈ s.ents → e.1 / 2 ^ 32 ≠ spSurvey * 2 ^ 16) →
          t.reg (lpPage x.outLp) PEN.C_TX_FRAMES_OK (x.outLp % 4) =
            BitVec.ofNat 48 ((s.reg (lpPage x.outLp) PEN.C_TX_FRAMES_OK (x.outLp % 4)).toNat + 1))) ∧
    (x.tagBad = false → x.inband = [] → x.chain = 0 → s.powered (lpPage x.outLp) = true →
      ∃ t, exec (.txFrame id .tagFails true false []) s = .next t ∧ t.pkt id = dflt.pkt ∧
        Output.frame x.outLp (l ++ leBytes 4 (2 ^ 32 - 1 - crcFcs l)) ∈ t.out ∧ t.raised (lpPage x.outLp) PEN.S_TAG_ERROR = true ∧
        t.reg (lpPage x.outLp) PEN.C_TX_TAG_ERRORS (x.outLp % 4) =
          BitVec.ofNat 48 ((s.reg (lpPage x.outLp) PEN.C_TX_TAG_ERRORS (x.outLp % 4)).toNat + 1) ∧
        t.reg (lpPage x.outLp) PEN.C_TX_STOMPED (x.outLp % 4) =
          BitVec.ofNat 48 ((s.reg (lpPage x.outLp) PEN.C_TX_STOMPED (x.outLp % 4)).toNat + 1))) ∧
  (∀ (s : State) (lp : Fin 768) (c : Fin 8),
    (∃ t, exec (.pauseTimerExpiry lp c) s = .next t ∧ Nat.bitAt (t.lpFld lp PEN.LP_STATUS_PAUSED) c = false ∧
      (t.port lp).quanta = (s.port lp).quanta.set c 0) ∧
    (s.fld (lpPage lp) PEN.PFC_TX_CFG_WD_MS ≠ 0 → Nat.bitAt (s.lpFld lp PEN.LP_STATUS_PAUSED) c = true → s.powered (lpPage lp) = true →
      ∃ t, exec (.pfcStorm lp c) s = .next t ∧ Nat.bitAt (t.port lp).storm c = true ∧
        Nat.bitAt (t.lpFld lp PEN.LP_STATUS_PAUSED) c = false ∧ t.raised (lpPage lp) PEN.S_PFC_STORM = true ∧
        t.reg (lpPage lp) PEN.C_PFC_STORMS = BitVec.ofNat 48 ((s.reg (lpPage lp) PEN.C_PFC_STORMS).toNat + 1)) ∧
    (Nat.bitAt (s.port lp).storm c = true → ∃ t, exec (.pfcStormEnd lp c) s = .next t ∧ Nat.bitAt (t.port lp).storm c = false)) ∧
  (∀ (s : State) (lp : Fin 768) (m : Nat), m = Nat.land (s.lpFld lp PEN.LP_STATUS_XOFF_SENT) (s.xoffAllowed lp) → m ≠ 0 →
    (s.fcMode lp = 1 → ∃ t, exec (.xoffRefresh lp) s = .next t ∧ t.out = .frame lp (controlFrame (s.reg (lpPage lp) PEN.PAUSE_SA)
        ([0x00, 0x01] ++ beBytes 2 (s.fld (lpPage lp) PEN.PFC_TX_CFG_QUANTA))) :: s.out ∧
      t.reg (lpPage lp) PEN.C_TX_PAUSE (lp % 4) = BitVec.ofNat 48 ((s.reg (lpPage lp) PEN.C_TX_PAUSE (lp % 4)).toNat + 1)) ∧
    (s.fcMode lp = 2 → ∃ t, exec (.xoffRefresh lp) s = .next t ∧ t.out = .frame lp (controlFrame (s.reg (lpPage lp) PEN.PAUSE_SA)
        ([0x01, 0x01] ++ beBytes 2 m ++ (List.range 8).flatMap (fun c =>
          beBytes 2 (if Nat.bitAt m c then s.fld (lpPage lp) PEN.PFC_TX_CFG_QUANTA else 0)))) :: s.out ∧
      t.reg (lpPage lp) PEN.C_TX_PFC (lp % 4) = BitVec.ofNat 48 ((s.reg (lpPage lp) PEN.C_TX_PFC (lp % 4)).toNat + 1))) ∧
  (∀ (s : State) (r : Req) (pe : Fin 192), s.readFate r (slotAddr (Page.pen pe) PEN.TS_META 0) true = .ok →
    (∀ e rest, s.tsEntries pe = e :: rest → ∃ t, exec (.tsMetaRead r pe) s = .next t ∧
      t.out = .readData r.fn (readPart r.size (tsMetaWord e)) :: s.out ∧ t.tsEntries pe = rest ∧
      t.reg (Page.pen pe) PEN.TS_SEC = BitVec.ofNat 48 (datumSec e.time) ∧
      t.reg (Page.pen pe) PEN.TS_NS = BitVec.ofNat 48 (datumNs e.time * 2 ^ 16 + datumFrac e.time)) ∧
    (s.tsEntries pe = [] → ∃ t, exec (.tsMetaRead r pe) s = .next t ∧ t.out = .readData r.fn (readPart r.size 0) :: s.out ∧
      s.Aside t (fun _ => False)))


/-! ## MACsec (09_macsec.md) -/

/-- R301 (tier 1), and with it KEY_LOCK_RELEASE completes: RELEASE from the holder discards any staged material and frees the lock, and
from any other function it has no effect, whether its write is accepted or not. -/
def Obligations.KeyLockRelease : Prop :=
  ∀ (s : State) (r : Req) (data : Word), Word.bit data 0 = false → Word.bit data 1 = true → Word.bit data 2 = false →
    (s.accepts r Page.msg MSG.KEY_LOCK 0 true = true → s.holds r.fn = true → ∃ t, exec (.keyLockRelease r data) s = .next t ∧
      t.holder = 0 ∧ t.staging = {} ∧ ({ s with staging := {} } : State).Aside t (fun a => a = slotAddr Page.msg MSG.KEY_LOCK 0)) ∧
    (s.accepts r Page.msg MSG.KEY_LOCK 0 true = true → s.holds r.fn = false → ∃ t, exec (.keyLockRelease r data) s = .next t ∧
      s.Aside t (fun _ => False)) ∧
    (s.accepts r Page.msg MSG.KEY_LOCK 0 true = false → ∃ t, exec (.keyLockRelease r data) s = .next t ∧ t.holder = s.holder ∧
      t.staging = s.staging)

/-- KEY_LOCK_ACQUIRE, KEY_LOCK_BREAK, KEY_STAGING_WRITE, SC_READ, SC_WRITE, SC_DELETE, SA_READ, SA_INSTALL, SA_DELETE,
SA_SET_NEXT, PN_EVENT_READ and REKEY_RETIRE complete (tier 2; R281, R287, R290, R298 to R300, R302, R303): who holds the lock, and what its holder
does to channels, associations and staged key material. The model's readings that it may rest on are its own: assumption 40. -/
def Obligations.KeysAndChannels : Prop :=
  (∀ (s : State) (r : Req) (data : Word), s.accepts r Page.msg MSG.KEY_LOCK 0 true = true → s.powered Page.msg = true →
    (Word.bit data 0 = true → Word.bit data 1 = false → Word.bit data 2 = false →
      (s.holder = 0 → ∃ t, exec (.keyLockAcquire r data) s = .next t ∧ t.holder = holderCode r.fn ∧
        t.flag Page.msg MSG.KEY_LOCK_BROKEN_SEEN = s.flag Page.msg MSG.KEY_LOCK_LOCK_BROKEN ∧
        t.flag Page.msg MSG.KEY_LOCK_LOCK_BROKEN = false) ∧
      (s.holder ≠ 0 → s.holds r.fn = false → ∃ t, exec (.keyLockAcquire r data) s = .next t ∧ t.holder = s.holder ∧
        t.raised Page.msg MSG.S_LOCK_REFUSED = true ∧ s.Aside t (fun _ => False)) ∧
      (s.holds r.fn = true → ∃ t, exec (.keyLockAcquire r data) s = .next t ∧ s.Aside t (fun _ => False))) ∧
    (Word.bit data 0 = false → Word.bit data 1 = false → Word.bit data 2 = true →
      (s.holder = 1 ∨ s.holder = 2 → s.holds r.fn = false → holderCode r.fn ≠ 0 → ∃ t, exec (.keyLockBreak r data) s = .next t ∧
        t.holder = 0 ∧ t.staging = {} ∧ t.flag Page.msg MSG.KEY_LOCK_LOCK_BROKEN = true ∧ t.raised Page.msg MSG.S_LOCK_BROKEN = true) ∧
      (s.holder = 0 ∨ s.holder = 3 → ∃ t, exec (.keyLockBreak r data) s = .next t ∧ s.Aside t (fun _ => False)))) ∧
  (∀ (s : State) (r : Req) (reg : Fin 9) (data : Word), s.accepts r Page.msg (stagingFld reg).1 (stagingFld reg).2 false = true →
    (s.holds r.fn = true → ∃ t, exec (.keyStagingWrite r reg data) s = .next t ∧ t.staging = s.staging.put reg r.size data) ∧
    (s.holds r.fn = false → s.powered Page.msg = true → ∃ t, exec (.keyStagingWrite r reg data) s = .next t ∧
      t.raised Page.msg MSG.S_KEY_NO_LOCK = true ∧ s.Aside t (fun _ => False))) ∧
  (∀ (s : State) (r : Req) (data : Word) (n op : Nat), s.accepts r Page.msg MSG.SC_CMD 0 true = true → n = Word.bits data 0 14 →
    op = Word.bits data 46 2 → s.flag Page.msg MSG.CMD_STATUS_BUSY = false →
    (op = 0 → ∃ t, exec (.scRead r data) s = .next t ∧ t.reg Page.msg MSG.SC_DATA0 = BitVec.ofNat 48 ((s.chan n).sci / 2 ^ 16) ∧
      t.reg Page.msg MSG.SC_DATA3 = BitVec.ofNat 48 (s.chan n).switchPn ∧ t.reg Page.msg MSG.SC_DATA4 = BitVec.ofNat 48 (s.chan n).notifyPn ∧
      t.fld Page.msg MSG.CMD_STATUS_ERROR = 0 ∧ t.flag Page.msg MSG.CMD_STATUS_DONE = true ∧ t.channels = s.channels) ∧
    (op = 1 → s.holds r.fn = true →
      (s.chanError n s.stagedChan = 0 → ∃ t, exec (.scWrite r data) s = .next t ∧
        t.chan n = { s.stagedChan with suspended := (s.chan n).valid && (s.chan n).suspended } ∧
        t.fld Page.msg MSG.CMD_STATUS_ERROR = 0 ∧ t.flag Page.msg MSG.CMD_STATUS_DONE = true) ∧
      (s.chanError n s.stagedChan ≠ 0 → s.powered Page.msg = true → ∃ t, exec (.scWrite r data) s = .next t ∧ t.channels = s.channels ∧
        t.fld Page.msg MSG.CMD_STATUS_ERROR = s.chanError n s.stagedChan ∧ t.raised Page.msg MSG.S_SC_REFUSED = true)) ∧
    (op = 2 → s.holds r.fn = true → ∃ t, exec (.scDelete r data) s = .next t ∧ (t.chan n).valid = false ∧
      t.fld Page.msg MSG.CMD_STATUS_ERROR = 0 ∧
      ∀ i, i < 4 → (t.assoc (4 * n + i)).inUse = false ∧ (t.assoc (4 * n + i)).key = 0 ∧ (t.assoc (4 * n + i)).salt = 0) ∧
    (op = 1 ∨ op = 2 → s.holds r.fn = false → s.powered Page.msg = true → ∃ t, exec (.scWrite r data) s = .next t ∧
      t.channels = s.channels ∧ t.assocs = s.assocs ∧ t.fld Page.msg MSG.CMD_STATUS_ERROR = 1 ∧
      t.raised Page.msg MSG.S_KEY_NO_LOCK = true)) ∧
  (∀ (s : State) (r : Req) (data : Word) (sa op : Nat), s.accepts r Page.msg MSG.SA_CMD 0 true = true → sa = Word.bits data 0 16 →
    op = Word.bits data 45 3 → s.flag Page.msg MSG.CMD_STATUS_BUSY = false →
    (op = 0 → ∃ t, exec (.saRead r data) s = .next t ∧ t.reg Page.msg MSG.SA_DATA0 = BitVec.ofNat 48 (s.assoc sa).nextPn ∧
      t.flag Page.msg MSG.SA_DATA1_IN_USE = (s.assoc sa).inUse ∧ t.fld Page.msg MSG.CMD_STATUS_ERROR = 0 ∧ t.assocs = s.assocs) ∧
    (op = 1 → s.holds r.fn = true → (s.chan (sa / 4)).valid = true → ¬ (Word.bit data 44 = true ∧ Word.bit data 43 = true) →
      keyBits (s.chan (sa / 4)).suite = 256 ∨ s.staging.key < 2 ^ 128 →
      ∃ t, exec (.saInstall r data) s = .next t ∧ (t.assoc sa).inUse = true ∧ (t.assoc sa).key = s.staging.key ∧
        (t.assoc sa).notified = false ∧ t.staging = {} ∧ t.fld Page.msg MSG.CMD_STATUS_ERROR = 0 ∧
        (t.assoc sa).nextPn = Nat.max 1 (s.fld Page.msg MSG.SA_DATA0_NEXT_PN_LO +
          (if isXpn (s.chan (sa / 4)).suite then s.fld Page.msg MSG.SA_DATA1_NEXT_PN_HI else 0) * 2 ^ 48) ∧
        (Word.bit data 44 = true → (s.chan (sa / 4)).tx = true → (t.chan (sa / 4)).activeAn = sa % 4) ∧
        (Word.bit data 43 = true → (s.chan (sa / 4)).tx = true → (t.chan (sa / 4)).nextAn = sa % 4 ∧ (t.chan (sa / 4)).nextValid = true)) ∧
    (op = 1 → s.holds r.fn = true → (s.chan (sa / 4)).valid = false ∨ Word.bit data 44 = true ∧ Word.bit data 43 = true →
      ∃ t, exec (.saInstall r data) s = .next t ∧ t.assocs = s.assocs ∧ t.fld Page.msg MSG.CMD_STATUS_ERROR = 6) ∧
    (op = 2 → s.holds r.fn = true → (s.chan (sa / 4)).valid = true → ∃ t, exec (.saDelete r data) s = .next t ∧
      (t.assoc sa).inUse = false ∧ (t.assoc sa).key = 0 ∧ t.fld Page.msg MSG.CMD_STATUS_ERROR = 0) ∧
    (op = 3 → s.holds r.fn = true → (s.chan (sa / 4)).valid = true → (s.assoc sa).inUse = true → (s.chan (sa / 4)).tx = true →
      ∃ t, exec (.saSetNext r data) s = .next t ∧ (t.chan (sa / 4)).nextAn = sa % 4 ∧ (t.chan (sa / 4)).nextValid = true ∧
        t.fld Page.msg MSG.CMD_STATUS_ERROR = 0) ∧
    (op = 3 → s.holds r.fn = true → (s.assoc sa).inUse = false → ∃ t, exec (.saSetNext r data) s = .next t ∧
      t.fld Page.msg MSG.CMD_STATUS_ERROR = 6 ∧ t.channels = s.channels)) ∧
  (∀ (s : State) (r : Req), s.readFate r (slotAddr Page.msg MSG.PN_EVENT 0) true = .ok →
    (∀ e rest, s.pnEvents = e :: rest → ∃ t, exec (.pnEventRead r) s = .next t ∧ t.pnEvents = rest ∧
      t.out = .readData r.fn (readPart r.size (BitVec.ofNat 48 (2 ^ 47 + e.1 * 2 ^ 45 + e.2))) :: s.out) ∧
    (s.pnEvents = [] → ∃ t, exec (.pnEventRead r) s = .next t ∧ t.pnEvents = [] ∧ t.out = .readData r.fn (readPart r.size 0) :: s.out)) ∧
  (∀ (s : State) (sa : Nat) (rest : List Nat), s.retire = sa :: rest →
    (s.holder = 0 → ∃ t, exec .rekeyRetire s = .next t ∧ t.retire = rest ∧ (t.assoc sa).inUse = false ∧ (t.assoc sa).key = 0 ∧
      ∀ k, k ≠ sa → t.assoc k = s.assoc k) ∧
    (s.holder ≠ 0 → ∃ t, exec .rekeyRetire s = .next t ∧ t.retire = s.retire ∧ t.assocs = s.assocs))

/-- MACSEC_RX_FRAME, MACSEC_TX_FRAME, DUAL_RAIL_MISMATCH, KAT_COMPLETE, SPARE_PAIR_KAT and PAIR_READMIT complete (tier 2; R283, R285 to
R289, R293 to R296): what a cluster passes, drops and protects, and its core pairs. What the ciphers compute is uninterpreted. A frame
that fails leaves no packet; one that is verified leaves without SecTAG and ICV. The model's readings that it may rest on are its own:
assumptions 38, 39, 40. -/
def Obligations.ProtectedFrames : Prop :=
  (∀ (s : State) (id : Nat) (x : Pkt) (truncated : Bool), x = s.pkt id → x.stage = .secRx → x.lp < 768 →
    s.inService (mscPage x.lp) = true →
    (s.secFld x.lp MSC.LP_SEC_VALIDATE = 0 → ∃ t, exec (.macsecRxFrame id truncated false) s = .next t ∧
      t.pkt id = { x with stage := .parse } ∧ t.reg (mscPage x.lp) MSC.C_BYPASS (x.lp % 32) =
        BitVec.ofNat 48 ((s.reg (mscPage x.lp) MSC.C_BYPASS (x.lp % 32)).toNat + 1)) ∧
    (s.secFld x.lp MSC.LP_SEC_VALIDATE ≠ 0 → secTag x.bytes = none → beAt x.bytes 12 2 = 0x888E →
      ∃ t, exec (.macsecRxFrame id truncated false) s = .next t ∧ t.pkt id = { x with stage := .parse }) ∧
    (2 ≤ s.secFld x.lp MSC.LP_SEC_VALIDATE → secTag x.bytes = none → beAt x.bytes 12 2 ≠ 0x888E →
      (∀ i, i < 4 → s.flag (mscPage x.lp) MSC.BYPASS_ET_EN i = false) →
      ∃ t, exec (.macsecRxFrame id truncated false) s = .next t ∧ t.pkt id = dflt.pkt ∧
        (x.chain = 0 → t.reg (mscPage x.lp) MSC.C_NO_TAG (x.lp % 32) =
          BitVec.ofNat 48 ((s.reg (mscPage x.lp) MSC.C_NO_TAG (x.lp % 32)).toNat + 1))) ∧
    (∀ g, s.secFld x.lp MSC.LP_SEC_VALIDATE ≠ 0 → secTag x.bytes = some g → tagInvalid g x.bytes.length = true →
      ∃ t, exec (.macsecRxFrame id truncated false) s = .next t ∧ t.pkt id = dflt.pkt) ∧
    (∀ g, 2 ≤ s.secFld x.lp MSC.LP_SEC_VALIDATE → secTag x.bytes = some g → s.rxChannel x.lp g = none →
      ∃ t, exec (.macsecRxFrame id truncated false) s = .next t ∧ t.pkt id = dflt.pkt) ∧
    (∀ g n a s1 body pn clear, s.secFld x.lp MSC.LP_SEC_VALIDATE ≠ 0 → secTag x.bytes = some g → tagInvalid g x.bytes.length = false →
      s.rxChannel x.lp g = some n → a = s.assoc (4 * n + g.an) → a.inUse = true →
      pn = (if isXpn (s.chan n).suite then recoverPn a.nextPn g.pn else g.pn) → lowestPn (s.chan n) a ≤ pn →
      s.secGrant id (x.bytes.length - g.len - 16) = some s1 → x.tagBad = false →
      clear = (if Nat.bitAt g.tci 1 then 12 + g.len + confBytes (s.chan n).confOffset else x.bytes.length - 16) →
      Config.gcmOpen (keyBits (s.chan n).suite) a.key (secIv (s.chan n) a pn) (x.bytes.take clear) (x.bytes.drop clear) = some body →
      ∃ t, exec (.macsecRxFrame id false false) s = .next t ∧ (t.pkt id).stage = .parse ∧
        (t.pkt id).bytes = x.bytes.take 12 ++ (x.bytes.take clear).drop (12 + g.len) ++ body ∧
        (t.assoc (4 * n + g.an)).nextPn = Nat.max a.nextPn (pn + 1)) ∧
    (∀ g n a s1 pn clear, s.secFld x.lp MSC.LP_SEC_VALIDATE ≠ 0 → secTag x.bytes = some g → tagInvalid g x.bytes.length = false →
      s.rxChannel x.lp g = some n → a = s.assoc (4 * n + g.an) → a.inUse = true →
      pn = (if isXpn (s.chan n).suite then recoverPn a.nextPn g.pn else g.pn) → lowestPn (s.chan n) a ≤ pn →
      s.secGrant id (x.bytes.length - g.len - 16) = some s1 →
      clear = (if Nat.bitAt g.tci 1 then 12 + g.len + confBytes (s.chan n).confOffset else x.bytes.length - 16) →
      truncated = true ∨ x.tagBad = true ∨
        Config.gcmOpen (keyBits (s.chan n).suite) a.key (secIv (s.chan n) a pn) (x.bytes.take clear) (x.bytes.drop clear) = none →
      ∃ t, exec (.macsecRxFrame id truncated false) s = .next t ∧ t.pkt id = dflt.pkt ∧ t.assocs = s.assocs)) ∧
  (∀ (s : State) (id n sa : Nat) (x : Pkt) (c : Chan) (a : Assoc), x = s.pkt id → x.stage = .secTx → x.outLp < 768 →
    s.inService (mscPage x.outLp) = true → n = x.sc.getD (s.secFld x.outLp MSC.LP_SEC_TX_SC) → c = s.chan n →
    sa = 4 * n + c.activeAn → a = s.assoc sa →
    (c.valid = true → c.suspended = false → c.tx = true → c.lp = x.outLp → a.inUse = true → a.nextPn < switchAt c →
      a.nextPn ≤ lastPn c.suite →
      ∃ t, exec (.macsecTxFrame id) s = .next t ∧ (t.assoc sa).nextPn = a.nextPn + 1 ∧
        t.pkt id = { x with bytes := sealFrame c a (sa % 4) a.nextPn x.bytes, stage := .transmit }) ∧
    (c.valid = true → c.suspended = false → c.tx = true → c.lp = x.outLp → a.inUse = true → switchAt c ≤ a.nextPn →
      c.nextValid = true → (s.assoc (4 * n + c.nextAn)).inUse = true → (s.assoc (4 * n + c.nextAn)).nextPn ≤ lastPn c.suite →
      c.nextAn ≠ c.activeAn →
      ∃ t, exec (.macsecTxFrame id) s = .next t ∧ (t.chan n).activeAn = c.nextAn ∧ (t.chan n).nextValid = false ∧
        (t.assoc (4 * n + c.nextAn)).nextPn = (s.assoc (4 * n + c.nextAn)).nextPn + 1 ∧ t.assoc sa = a ∧ sa ∈ t.retire) ∧
    (c.valid = false ∨ c.suspended = true ∨ c.tx = false ∨ c.lp ≠ x.outLp ∨ a.inUse = false → x.chain = 0 →
      s.powered (mscPage x.outLp) = true →
      ∃ t, exec (.macsecTxFrame id) s = .next t ∧ t.pkt id = dflt.pkt ∧ t.raised (mscPage x.outLp) MSC.S_TX_SC_MISMATCH = true ∧
        t.reg (mscPage x.outLp) MSC.C_TX_SC_MISMATCH = BitVec.ofNat 48 ((s.reg (mscPage x.outLp) MSC.C_TX_SC_MISMATCH).toNat + 1))) ∧
  (∀ (s : State) (g : Fin 24) (pair : Fin 5) (id : Nat) (x : Pkt), x = s.pkt id → s.pairState g pair = 0 →
    s.powered (Page.msc g) = true → x.chain = 0 → x.stage = .secTx →
    ∃ t, exec (.dualRailMismatch g pair id []) s = .next t ∧ t.pairState g pair = 2 ∧ t.raised (Page.msc g) MSC.S_DUAL_RAIL = true ∧
      t.pkt id = { x with tagBad := true, stage := .transmit }) ∧
  (∀ (s : State) (g : Fin 24) (pair : Fin 5), s.pairState g pair = 2 →
    (∃ t, exec (.katComplete g pair true) s = .next t ∧ t.pairState g pair ∈ [0, 1] ∧
      t.reg (Page.msc g) MSC.C_KAT_RUNS = BitVec.ofNat 48 ((s.reg (Page.msc g) MSC.C_KAT_RUNS).toNat + 1)) ∧
    (∃ t, exec (.katComplete g pair false) s = .next t ∧ t.pairState g pair = 3 ∧
      t.reg (Page.msc g) MSC.C_KAT_FAILS = BitVec.ofNat 48 ((s.reg (Page.msc g) MSC.C_KAT_FAILS).toNat + 1) ∧
      (s.powered (Page.msc g) = true → t.raised (Page.msc g) MSC.S_KAT_FAIL = true))) ∧
  (∀ (s : State) (g : Fin 24) (i : Nat) (rest : List Nat), s.pairsIn g 1 = i :: rest →
    (∀ second, ∃ t, exec (.sparePairKat g true second) s = .next t ∧ t.pairState g i = 1 ∧
      t.reg (Page.msc g) MSC.C_KAT_RUNS = BitVec.ofNat 48 ((s.reg (Page.msc g) MSC.C_KAT_RUNS).toNat + 1)) ∧
    (∃ t, exec (.sparePairKat g false false) s = .next t ∧ t.pairState g i = 3 ∧
      t.reg (Page.msc g) MSC.C_KAT_RUNS = BitVec.ofNat 48 ((s.reg (Page.msc g) MSC.C_KAT_RUNS).toNat + 2))) ∧
  (∀ (s : State) (r : Req) (g : Fin 24) (data : Word) (pass : Fin 32) (i : Nat), s.accepts r (Page.msc g) MSC.PAIR_CMD 0 true = true →
    i < 5 → Word.bit data i = true → s.pairState g i = 3 →
    ∃ t, exec (.pairReadmit r g data pass) s = .next t ∧ (Nat.bitAt pass i = true → t.pairState g i ∈ [0, 1]) ∧
      (Nat.bitAt pass i = false → t.pairState g i = 3))


/-! ## Parser and classification (10_parser.md) -/

/-- PRS_IND_READ, PRS_IND_WRITE, PRS_IND_INSERT, PRS_IND_DELETE, PRS_IND_VALIDATE and PRS_IND_CLEAR complete, and so do FLIP_NOW,
FLIP_ARM, FLIP_DISARM, SCHEDULED_FLIP and PRS_SCRUB (tier 2; R317, R325, R327 to R330, R336, R337): the parser's tables, its banks and
what a command that fails leaves. A write of one bank entry clears that bank's VALID and changes no other entry. The model's readings that
it may rest on are its own: assumption 45. -/
def Obligations.ParserTables : Prop :=
  (∀ (s : State) (r : Req) (t : Fin 25) (data : Word) (p : Page) (c : PrsCmd) (d : List Word) (k : Nat), p = Page.prs t →
    s.accepts r p PRS.IND_CMD 0 true = true → s.flag p PRS.IND_STATUS_BUSY = false → c = prsCmdOf data →
    d = s.indData p PRS.IND_DATA 6 → k = bankInst t c.bank c.tgt →
    (c.op = 0 → prsSize c.tgt ≠ 0 → c.idx < prsSize c.tgt → c.tgt ≠ 8 → c.tgt ≠ 4 ∨ t.val ≠ 24 ∨ 32 ≤ c.idx →
      ∃ u, exec (.prsIndRead r t data) s = .next u ∧ (∀ i, i < 6 → u.reg p PRS.IND_DATA i = s.entWord c.tgt k c.idx i) ∧
        u.fld p PRS.IND_STATUS_CODE = 0 ∧ u.flag p PRS.IND_STATUS_ERROR = false ∧ u.flag p PRS.IND_STATUS_DONE = true ∧
        s.Aside u (fun a => a = slotAddr p PRS.IND_STATUS_CODE 0 ∨ ∃ i, i < 6 ∧ a = slotAddr p PRS.IND_DATA i)) ∧
    (c.op = 1 → c.bcast = false → prsSize c.tgt ≠ 0 → c.tgt ≠ 3 → c.idx < prsSize c.tgt → c.tgt ≠ 4 ∨ 32 ≤ c.idx →
      c.tgt < 6 → s.activeBank t ≠ some c.bank → prsBad c.tgt (prsStored c.tgt c.idx d) = false →
      ∃ u, exec (.prsIndWrite r t data) s = .next u ∧ (∀ i, u.entWord c.tgt k c.idx i = (prsStored c.tgt c.idx d).getD i 0) ∧
        u.bankValid t c.bank = false ∧ u.bankValid t (1 - c.bank) = s.bankValid t (1 - c.bank) ∧ u.fld p PRS.IND_STATUS_CODE = 0 ∧
        u.flag p PRS.IND_STATUS_DONE = true ∧
        ∀ sp j x, entKey sp j x ≠ entKey c.tgt k c.idx → u.ent sp j x = s.ent sp j x) ∧
    (c.op = 1 → c.bcast = false → 6 ≤ c.tgt → c.tgt < 10 → c.idx < prsSize c.tgt →
      prsBad c.tgt (prsStored c.tgt c.idx d) = false →
      ∃ u, exec (.prsIndWrite r t data) s = .next u ∧ (∀ i, u.entWord c.tgt k c.idx i = (prsStored c.tgt c.idx d).getD i 0) ∧
        u.fld p PRS.IND_STATUS_CODE = 0 ∧ ∀ sp j x, entKey sp j x ≠ entKey c.tgt k c.idx → u.ent sp j x = s.ent sp j x) ∧
    (c.op = 1 → c.bcast = false → t.val < 24 → c.tgt = 4 → c.idx < 32 → s.activeBank t ≠ some c.bank →
      ∃ u, exec (.prsIndWrite r t data) s = .next u ∧ (∀ i, u.entWord 4 k c.idx i = (prsStored 4 c.idx d).getD i 0) ∧
        u.bankValid t c.bank = false ∧
        (s.powered (Page.trv 24) = true → s.activeBank 24 ≠ some c.bank →
          ∀ i, u.entWord 4 (48 + c.bank) (lpClassIdx 24 t c.idx) i = (prsStored 4 c.idx d).getD i 0)) ∧
    (∀ code, c.op = 1 → c.bcast = false → s.powered p = true →
      code = (if c.tgt = 3 ∨ 10 ≤ c.tgt then 1 else if prsSize c.tgt ≤ c.idx then 2
        else if c.tgt < 6 ∧ s.activeBank t = some c.bank then 3 else if prsBad c.tgt (prsStored c.tgt c.idx d) = true then 6 else 0) →
      code ≠ 0 → ∃ u, exec (.prsIndWrite r t data) s = .next u ∧ u.fld p PRS.IND_STATUS_CODE = code ∧
        u.flag p PRS.IND_STATUS_ERROR = true ∧ u.raised p PRS.S_IND_ERROR = true ∧
        s.Aside u (fun a => a = slotAddr p PRS.IND_STATUS_CODE 0)) ∧
    (∀ w key b way, c.op = 2 → c.bcast = false → c.tgt = 3 → s.activeBank t ≠ some c.bank → w = (prsStored 3 0 d).getD 0 0 →
      prsBad 3 (prsStored 3 0 d) = false →
      key = (fun i => classIs (s.prsWord t c.bank spClass i 0) (Word.bits w 45 2) (Word.bit w 44) (Word.bits w 39 5) (Word.bits w 15 24)) →
      b = 4 * classSet (Word.bits w 45 2) (Word.bit w 44) (Word.bits w 39 5) (Word.bits w 15 24) → way < 4 →
      (∀ j, j < way → key (b + j) = false) → key (b + way) = true ∨
        ((∀ j, j < 4 → key (b + j) = false) ∧ Word.bit (s.prsWord t c.bank spClass (b + way) 0) 47 = false ∧
          ∀ j, j < way → Word.bit (s.prsWord t c.bank spClass (b + j) 0) 47 = true) →
      ∃ u, exec (.prsIndInsert r t data) s = .next u ∧ (∀ i, u.entWord 3 k (b + way) i = (prsStored 3 0 d).getD i 0) ∧
        u.bankValid t c.bank = false ∧ u.fld p PRS.IND_STATUS_CODE = 0 ∧
        ∀ sp j x, entKey sp j x ≠ entKey 3 k (b + way) → u.ent sp j x = s.ent sp j x) ∧
    (∀ w b, c.op = 2 → c.bcast = false → c.tgt = 3 → s.activeBank t ≠ some c.bank → w = (prsStored 3 0 d).getD 0 0 →
      prsBad 3 (prsStored 3 0 d) = false →
      b = 4 * classSet (Word.bits w 45 2) (Word.bit w 44) (Word.bits w 39 5) (Word.bits w 15 24) →
      (∀ j, j < 4 → Word.bit (s.prsWord t c.bank spClass (b + j) 0) 47 = true ∧ classIs (s.prsWord t c.bank spClass (b + j) 0)
        (Word.bits w 45 2) (Word.bit w 44) (Word.bits w 39 5) (Word.bits w 15 24) = false) →
      ∃ u, exec (.prsIndInsert r t data) s = .next u ∧ u.fld p PRS.IND_STATUS_CODE = 4 ∧ u.ents = s.ents) ∧
    (∀ w, c.op = 3 → c.bcast = false → c.tgt = 3 → s.activeBank t ≠ some c.bank → w = d.getD 0 0 →
      (∀ i, s.classFind t c.bank (Word.bits w 45 2) (Word.bit w 44) (Word.bits w 39 5) (Word.bits w 15 24) = some i →
        ∃ u, exec (.prsIndDelete r t data) s = .next u ∧ u.ent 3 k i = [] ∧ u.bankValid t c.bank = false ∧
          u.fld p PRS.IND_STATUS_CODE = 0 ∧ ∀ sp j x, entKey sp j x ≠ entKey 3 k i → u.ent sp j x = s.ent sp j x) ∧
      (s.classFind t c.bank (Word.bits w 45 2) (Word.bit w 44) (Word.bits w 39 5) (Word.bits w 15 24) = none →
        ∃ u, exec (.prsIndDelete r t data) s = .next u ∧ u.fld p PRS.IND_STATUS_CODE = 5 ∧ u.ents = s.ents)) ∧
    (c.op = 4 → c.bcast = false → ∃ u, exec (.prsIndValidate r t data) s = .next u ∧ u.bankValid t c.bank = true ∧
      u.fld p (genFld c.bank) = c.idx ∧ u.bankValid t (1 - c.bank) = s.bankValid t (1 - c.bank) ∧ u.fld p PRS.IND_STATUS_CODE = 0 ∧
      u.ents = s.ents) ∧
    (c.op = 4 → c.bcast = true → ∃ u, exec (.prsIndValidate r t data) s = .next u ∧
      (∀ v, v < 25 → s.reached v = true → u.bankValid v c.bank = true ∧ u.fld (Page.prs v) (genFld c.bank) = c.idx) ∧
      (∀ v, v < 25 → s.reached v = false → u.bankValid v c.bank = s.bankValid v c.bank) ∧
      (u.flag p PRS.IND_STATUS_SKIPPED = true ↔ ∃ v, v < 25 ∧ s.reached v = false)) ∧
    (c.op = 5 → c.bcast = false →
      (s.activeBank t ≠ some c.bank → ∃ u, exec (.prsIndClear r t data) s = .next u ∧ u.bankValid t c.bank = false ∧
        u.fld p PRS.IND_STATUS_CODE = 0 ∧ ∀ tgt x, tgt < 6 → x < 2 ^ 32 → u.ent tgt (2 * t + c.bank) x = entReset tgt x) ∧
      (s.activeBank t = some c.bank → ∃ u, exec (.prsIndClear r t data) s = .next u ∧ u.fld p PRS.IND_STATUS_CODE = 3 ∧
        u.ents = s.ents))) ∧
  (∀ (s : State) (r : Req) (t : Fin 25) (data : Word) (p : Page), p = Page.prs t → r.size = .w64 →
    s.accepts r p PRS.FLIP_CTL 0 false = true →
    (Word.bit data 0 = true → Word.bit data 1 = false → Word.bit data 2 = false →
      (s.bankValid t (s.flipTo t) = true → ∃ u, exec (.flipNow r t data) s = .next u ∧ u.activeBank t = some (s.flipTo t) ∧
        u.reg p PRS.C_FLIPS = BitVec.ofNat 48 ((s.reg p PRS.C_FLIPS).toNat + 1) ∧ u.fld p PRS.FLIP_STAMP_TIME = s.stamp32 ∧
        u.flag p PRS.BANK_STATUS_ARMED = false ∧ u.flag p PRS.FLIP_CTL_ARM = false ∧
        (s.powered p = true → u.raised p PRS.S_FLIP_DONE = true) ∧ u.ents = s.ents) ∧
      (s.bankValid t (s.flipTo t) = false → s.powered p = true → ∃ u, exec (.flipNow r t data) s = .next u ∧
        u.activeBank t = s.activeBank t ∧ u.raised p PRS.S_FLIP_REFUSED = true ∧ s.Aside u (fun _ => False))) ∧
    (Word.bit data 0 = false → Word.bit data 1 = true → Word.bit data 2 = false →
      (s.fld p PRS.FLIP_NS_NS ≤ 999999999 → s.wOn = false ∨ s.wNs + 1000 ≤ s.flipAt t →
        ∃ u, exec (.flipArm r t data) s = .next u ∧ u.flag p PRS.BANK_STATUS_ARMED = true ∧ u.flag p PRS.FLIP_CTL_ARM = true ∧
          u.activeBank t = s.activeBank t) ∧
      (999999999 < s.fld p PRS.FLIP_NS_NS → s.powered p = true → ∃ u, exec (.flipArm r t data) s = .next u ∧
        u.raised p PRS.S_FLIP_REFUSED = true ∧ s.Aside u (fun _ => False)) ∧
      (s.fld p PRS.FLIP_NS_NS ≤ 999999999 → s.wOn = true → s.flipAt t < s.wNs + 1000 → s.bankValid t (s.flipTo t) = true →
        s.powered p = true → ∃ u, exec (.flipArm r t data) s = .next u ∧ u.activeBank t = some (s.flipTo t) ∧
          u.raised p PRS.S_FLIP_LATE = true ∧ u.flag p PRS.BANK_STATUS_ARMED = false)) ∧
    (Word.bit data 0 = false → Word.bit data 1 = false → Word.bit data 2 = true → ∃ u, exec (.flipDisarm r t data) s = .next u ∧
      u.flag p PRS.BANK_STATUS_ARMED = false ∧ u.flag p PRS.FLIP_CTL_ARM = false ∧ u.activeBank t = s.activeBank t)) ∧
  (∀ (s : State) (t : Fin 25) (p : Page), p = Page.prs t → s.flag p PRS.BANK_STATUS_ARMED = true → s.wOn = true →
    s.flipAt t ≤ s.wNs → s.reached t = true → ∃ u, exec (.scheduledFlip t) s = .next u ∧
      u.flag p PRS.BANK_STATUS_ARMED = false ∧ u.flag p PRS.FLIP_CTL_ARM = false ∧
      (s.bankValid t (s.flipTo t) = true → u.activeBank t = some (s.flipTo t)) ∧
      (s.bankValid t (s.flipTo t) = false → u.activeBank t = s.activeBank t ∧
        (s.powered p = true → u.raised p PRS.S_FLIP_REFUSED = true))) ∧
  ∀ (s : State) (t : Fin 25) (bank : Fin 3) (p : Page), p = Page.prs t → s.powered p = true →
    (∃ u, exec (.prsScrub t .fixed bank) s = .next u ∧ u.raised p PRS.S_SCRUB_FIXED = true ∧
      u.reg p PRS.C_SCRUB_FIXED = BitVec.ofNat 48 ((s.reg p PRS.C_SCRUB_FIXED).toNat + 1) ∧
      s.Aside u (fun a => a = slotAddr p PRS.C_SCRUB_FIXED 0)) ∧
    (bank.val < 2 → s.activeBank t ≠ some bank.val → ∃ u, exec (.prsScrub t .lost bank) s = .next u ∧
      u.bankValid t bank = false ∧ u.raised p PRS.S_BANK_LOST = true ∧ u.activeBank t = s.activeBank t) ∧
    (bank.val = 2 ∨ s.activeBank t = some bank.val → ∃ u, exec (.prsScrub t .lost bank) s = .next u ∧
      u.raised p PRS.S_PRS_MEM_FAIL = true ∧ s.Aside u (fun _ => False))

/-- PARSE_PACKET completes (tier 2; R308 to R314, R316, R318 to R320, R322, R326): a packet at the head of its origin enters the
traverse that serves its group; under the active bank it is parsed, classified and handed to station 0, or dropped with the counter of
its reason. With them the parse's own rules: which TCAM entry applies, how the cursor moves, when a parse ends, and which entry and
origin choose the traffic class. The model's readings that it may rest on are its own: assumptions 44, 45. -/
def Obligations.PacketsParsed : Prop :=
  (∀ (s : State) (id : Nat) (x : Pkt) (t : Nat), x = s.pkt id → x.stage = .parse → s.headOfLine id x = true →
    s.servedBy x.grp = some t → t < 25 → x.chain = 0 →
    (s.activeBank t = none → ∃ u, exec (.parsePacket id .clean) s = .next u ∧ u.pkt id = dflt.pkt ∧
      u.reg (Page.prs t) PRS.C_NOT_READY = BitVec.ofNat 48 ((s.reg (Page.prs t) PRS.C_NOT_READY).toNat + 1) ∧
      (s.powered (Page.prs t) = true → u.raised (Page.prs t) PRS.S_NOT_READY = true)) ∧
    ∀ (b start idx : Nat) (cls : Word) (q : Parse), s.activeBank t = some b →
      idx = (if x.ring.isSome then 32 else lpClassIdx t (if t = 24 then s.serves else 0) (x.lp % 32)) →
      cls = s.prsWord t b spLpClass idx 0 → start = Word.bits cls 21 8 → q = s.parse t b start x.bytes →
      (q.drop = true → ∃ u, exec (.parsePacket id .clean) s = .next u ∧ u.pkt id = dflt.pkt ∧
        u.reg (Page.prs t) PRS.C_PARSE_DROPS = BitVec.ofNat 48 ((s.reg (Page.prs t) PRS.C_PARSE_DROPS).toNat + 1)) ∧
      (q.drop = false → x.ring = none → s.classify t b x.lp cls q.ckey = none →
        ∃ u, exec (.parsePacket id .clean) s = .next u ∧ u.pkt id = dflt.pkt ∧
          u.reg (Page.prs t) PRS.C_UNCLASSIFIED = BitVec.ofNat 48 ((s.reg (Page.prs t) PRS.C_UNCLASSIFIED).toNat + 1) ∧
          (s.powered (Page.prs t) = true → u.raised (Page.prs t) PRS.S_UNCLASSIFIED = true)) ∧
      (∀ parcel entry dfl tc hash, q.drop = false → x.ring = none → s.classify t b x.lp cls q.ckey = some (parcel, entry, dfl) →
        s.parcelValid parcel = true → tc = s.trafficClass t b cls entry x.bytes q.hdrs → hash = s.flowHashOf t q.hash x.lp parcel →
        ∃ u, exec (.parsePacket id .clean) s = .next u ∧
          u.pkt id = { x with trav := t, phv := headWords q dfl parcel tc x.lp b hash, parcel := parcel, stage := .station 0,
                              ord := s.nextPkt } ∧
          u.reg (Page.prs t) PRS.C_PARSED = BitVec.ofNat 48 ((s.reg (Page.prs t) PRS.C_PARSED).toNat + 1) ∧
          ∀ i, i ≠ id → u.pkt i = s.pkt i) ∧
      (q.drop = false → x.ring.isSome = true → s.parcelValid x.parcel = true →
        ∃ u, exec (.parsePacket id .clean) s = .next u ∧ (u.pkt id).stage = .station 0 ∧ (u.pkt id).parcel = x.parcel ∧
          Word.bits ((u.pkt id).phv.get 180 0) 22 10 = 0x3FF) ∧
      (∀ parcel entry dfl, q.drop = false → x.ring = none → s.classify t b x.lp cls q.ckey = some (parcel, entry, dfl) →
        s.parcelValid parcel = false → ∃ u, exec (.parsePacket id .clean) s = .next u ∧ u.pkt id = dflt.pkt)) ∧
  (∀ (s : State) (t bank key n : Nat), Tab.sorted s.ents = true → n < 1024 →
    (s.tcamHit t bank key = some n ↔ tcamMatches (s.ent spTcam (2 * t + bank) n) key = true ∧
      ∀ m, m < n → tcamMatches (s.ent spTcam (2 * t + bank) m) key = false)) ∧
  (∀ (q : Parse) (l : List Byte) (a : List Word), q.ended = false →
    (q.act l a).cursor = Nat.min 1023 (q.cursor + advance q l (a.getD 1 0)) ∧
    (Word.bits (a.getD 0 0) 32 6 ≠ 63 → q.hdrs.length < 32 → (q.act l a).hdrs = q.hdrs ++ [(Word.bits (a.getD 0 0) 32 6, q.cursor)]) ∧
    (Word.bits (a.getD 0 0) 32 6 ≠ 63 → 32 ≤ q.hdrs.length → (q.act l a).hdrs = q.hdrs ∧ (q.act l a).ovf = true) ∧
    (Word.bit (a.getD 0 0) 38 = true → (q.act l a).drop = true ∧ (q.act l a).ended = true) ∧
    (Word.bit (a.getD 0 0) 38 = false → Word.bit (a.getD 0 0) 39 = false → (q.act l a).state = Word.bits (a.getD 0 0) 40 8 ∧
      (q.act l a).ended = false)) ∧
  (∀ (s : State) (t bank start : Nat) (l : List Byte), (s.parse t bank start l).ended = true ∧ (s.parse t bank start l).steps ≤ 48 ∧
    (s.parse t bank start l).cursor ≤ 1023 ∧ (s.parse t bank start l).hdrs.length ≤ 32) ∧
  (∀ (s : State) (t bank lp kind value i : Nat) (cls : Word),
    (s.classFind t bank kind true (lp % 32) value = some i →
      s.classify t bank lp cls (some (kind, value)) =
        some (Word.bits (s.prsWord t bank spClass i 0) 3 12, some (s.prsWord t bank spClass i 1), false)) ∧
    (s.classFind t bank kind true (lp % 32) value = none → s.classFind t bank kind false (lp % 32) value = some i →
      s.classify t bank lp cls (some (kind, value)) =
        some (Word.bits (s.prsWord t bank spClass i 0) 3 12, some (s.prsWord t bank spClass i 1), false)) ∧
    (s.classFind t bank kind true (lp % 32) value = none → s.classFind t bank kind false (lp % 32) value = none →
      s.classify t bank lp cls (some (kind, value)) = if Word.bit cls 29 then none else some (Word.bits cls 36 12, none, true)))


/-! ## Traverses and stations (11_traverses.md) -/

/-- STATION_PROCESS completes (tier 2; R338, R340, R349 to R352, R354, R355, R357, R363, R369, R370): what a packet's passage of one
station does, and the rules of its instructions, stated of the operation that carries out one of them: no stored instruction writes words
168 to 182, an instruction changes the bits of its field alone, and a disposition word changes only with DECTTL. The model's readings that
it may rest on are its own: assumption 48. -/
def Obligations.StationPasses : Prop :=
  (∀ (s : State) (id k : Nat) (x : Pkt), x = s.pkt id → x.stage = .station k → k < 20 → x.trav < 25 → s.isFirst x = true →
    s.travIssues x.trav = true →
    (s.fld (Page.stn x.trav k) STN.STN_CFG_LT_EN = 0 → k ≠ 19 → ∃ u, exec (.stationProcess id .none) s = .next u ∧
      (u.pkt id).stage = nextStage k ∧ (u.pkt id).phv = x.phv ∧ (u.pkt id).bytes = x.bytes ∧
      u.reg (Page.stn x.trav k) STN.C_PACKETS = BitVec.ofNat 48 ((s.reg (Page.stn x.trav k) STN.C_PACKETS).toNat + 1) ∧
      (x.stake = none → k ≠ 0 → ∀ i, i ≠ id → u.pkt i = s.pkt i)) ∧
    (s.fld (Page.stn x.trav k) STN.STN_CFG_LT_EN = 0 → k = 19 → x.bit 186 47 = false →
      ∃ u, exec (.stationProcess id .none) s = .next u ∧ (u.pkt id).stage = .deparse ∧ (u.pkt id).phv = x.phv) ∧
    (s.fld (Page.stn x.trav k) STN.STN_CFG_LT_EN = 0 → k = 19 → x.bit 186 47 = true → x.chain = 0 →
      ∃ u, exec (.stationProcess id .none) s = .next u ∧ u.pkt id = dflt.pkt ∧
        u.reg (Page.res x.trav) RES.C_DROPS_EG (x.bits 186 40 7) =
          BitVec.ofNat 48 ((s.reg (Page.res x.trav) RES.C_DROPS_EG (x.bits 186 40 7)).toNat + 1)) ∧
    (x.chain = 0 → s.powered (Page.stn x.trav k) = true → ∃ u, exec (.stationProcess id .parity) s = .next u ∧ u.pkt id = dflt.pkt ∧
      u.reg (Page.stn x.trav k) STN.C_PHV_PARITY = BitVec.ofNat 48 ((s.reg (Page.stn x.trav k) STN.C_PHV_PARITY).toNat + 1) ∧
      u.raised (Page.stn x.trav k) STN.S_PHV_PARITY = true ∧
      u.reg (Page.res x.trav) (if k < 12 then RES.C_DROPS_IN else RES.C_DROPS_EG) 120 =
        BitVec.ofNat 48 ((s.reg (Page.res x.trav) (if k < 12 then RES.C_DROPS_IN else RES.C_DROPS_EG) 120).toNat + 1)) ∧
    (x.chain = 0 → s.powered (Page.stn x.trav k) = true → ∃ u, exec (.stationProcess id .alu) s = .next u ∧ u.pkt id = dflt.pkt ∧
      u.reg (Page.stn x.trav k) STN.C_ALU_CHECK = BitVec.ofNat 48 ((s.reg (Page.stn x.trav k) STN.C_ALU_CHECK).toNat + 1) ∧
      u.raised (Page.stn x.trav k) STN.S_ALU_CHECK = true)) ∧
  (∀ (s : State) (t k : Nat) (q : Src) (w : Word) (out : Pkt), instrGood w = true →
    (∀ i, 168 ≤ i → i ≤ 182 → ((s.instruction t k q w out).2).word i = out.word i) ∧
    (insOp w < 0x11 → ∀ i b, i ≠ insDst w ∨ b < insLsb w ∨ insLsb w + insW w ≤ b →
      ((s.instruction t k q w out).2).bit i b = out.bit i b) ∧
    ((s.instruction t k q w out).2).bytes = out.bytes ∧ ((s.instruction t k q w out).2).parcel = out.parcel) ∧
  (∀ (s : State) (t k : Nat) (q : Src) (w : Word) (out : Pkt) (a b : Nat), instrGood w = true → insOp w ∉ [0x00, 0x0E, 0x10] →
    insOp w ≤ 0x11 → insA w ≠ 3 * 512 + 9 → insB w ≠ 3 * 512 + 9 → a = operand q 0 (insA w) (insLsb w) (insW w) →
    b = operand q 0 (insB w) (insLsb w) (insW w) →
    (insOp w < 0x11 → ((s.instruction t k q w out).2).bits (insDst w) (insLsb w) (insW w) = aluOp (insOp w) a b (insW w)) ∧
    (insOp w = 0x11 → 2 ≤ a → ((s.instruction t k q w out).2).bits (insDst w) (insLsb w) (insW w) = a - 1) ∧
    (insOp w = 0x11 → a < 2 → ((s.instruction t k q w out).2).bit (if k < 12 then 183 else 186) 47 = true ∧
      ((s.instruction t k q w out).2).bits (if k < 12 then 183 else 186) 40 7 = insB w % 128 ∧
      (insDst w ≠ (if k < 12 then 183 else 186) →
        ((s.instruction t k q w out).2).bits (insDst w) (insLsb w) (insW w) = 0))) ∧
  (∀ (s : State) (t k : Nat) (q : Src) (e i : Nat) (c : Word), c = s.seCfg t k e → Word.bits c 46 2 ≠ 0 → seCapacity c ≤ i →
    s.powered (Page.stn t k) = true →
    (s.updateElement t k q e i).2 = 0 ∧ (s.updateElement t k q e i).1.seEnts = s.seEnts ∧
    (s.updateElement t k q e i).1.raised (Page.stn t k) STN.S_SE_RANGE = true) ∧
  (∀ (x : SeEntry) (b col : Nat), (meterMark x b col).1.tc ≤ x.tc ∧ (meterMark x b col).1.te ≤ x.te ∧ (meterMark x b col).2 ≤ 2 ∧
    Nat.min 2 col ≤ (meterMark x b col).2 ∧ ((meterMark x b col).2 = 2 → (meterMark x b col).1 = x) ∧
    ((meterMark x b col).2 = 0 → (meterMark x b col).1.tc + b = x.tc)) ∧
  ∀ (x : SeEntry) (pkt : Bool) (now : Nat), x.tc ≤ x.cbs * meterUnit → x.te ≤ x.ebs * meterUnit →
    (meterFill x pkt now).tc ≤ x.cbs * meterUnit ∧ (meterFill x pkt now).te ≤ x.ebs * meterUnit

/-- RESOLUTION and DEPARSE complete (tier 2; R331 to R333, R345, R359, R360, R362 to R364, R367 to R369): what becomes of a packet whose
disposition asks for no copy, where the spreading unit sends it, and the frame that the deparser emits. The rules of spreading and of the
IPv4 header checksum are stated of the operations that carry them out. The model's readings that it may rest on are its own: assumptions 46,
49, 50. -/
def Obligations.ResolutionAndDeparse : Prop :=
  (∀ (s : State) (id t : Nat) (x : Pkt) (flowBad : Bool), x = s.pkt id → x.stage = .resolve → t = x.trav → t < 25 → s.isFirst x = true →
    s.travIssues t = true →
    (x.chain = 0 → s.powered (Page.res t) = true → ∃ u, exec (.resolution id true flowBad) s = .next u ∧ u.pkt id = dflt.pkt ∧
      u.raised (Page.res t) RES.S_PHV_PARITY = true ∧
      u.reg (Page.res t) RES.C_PHV_PARITY = BitVec.ofNat 48 ((s.reg (Page.res t) RES.C_PHV_PARITY).toNat + 1)) ∧
    (x.disposition = none → x.bits 183 36 3 < 3 → x.bit 184 47 = false → x.sessions = [] → x.shim = none →
      ∃ u, exec (.resolution id false flowBad) s = .next u ∧ (u.pkt id).stage = .admission ∧
        (u.pkt id).fwdKind = x.bits 183 36 3 ∧ (u.pkt id).fwdIndex = x.bits 183 16 20 ∧ (u.pkt id).tc = x.effTc ∧
        (u.pkt id).parcel = x.phvParcel ∧ (u.pkt id).bytes = x.bytes ∧
        u.reg (Page.res t) RES.C_FORWARDED = BitVec.ofNat 48 ((s.reg (Page.res t) RES.C_FORWARDED).toNat + 1)) ∧
    (∀ n, x.disposition = none → x.bits 183 36 3 < 3 → x.bit 184 47 = false → x.sessions = [n] → x.shim = none → id < s.nextPkt →
      ∃ u, exec (.resolution id false flowBad) s = .next u ∧ (u.pkt id).stage = .admission ∧
        (u.pkt s.nextPkt).stage = .admission ∧ (u.pkt s.nextPkt).kind = 2 ∧ (u.pkt s.nextPkt).fwdIndex = n ∧
        (u.pkt s.nextPkt).bytes = x.bytes) ∧
    (∀ c, x.disposition = some c → x.bit 184 47 = false → x.sessions = [] → x.shim = none → x.chain = 0 →
      ∃ u, exec (.resolution id false flowBad) s = .next u ∧ u.pkt id = dflt.pkt ∧
        u.reg (Page.res t) RES.C_DROPS_IN c = BitVec.ofNat 48 ((s.reg (Page.res t) RES.C_DROPS_IN c).toNat + 1) ∧
        u.reg (Page.res t) RES.C_FORWARDED = s.reg (Page.res t) RES.C_FORWARDED) ∧
    (x.disposition = none → x.bits 183 36 3 = 3 → s.spreadEcmp t (x.bits 183 16 20) x.flowHash = .ecmpEmpty → x.chain = 0 →
      ∃ u, exec (.resolution id false flowBad) s = .next u ∧ u.pkt id = dflt.pkt ∧
        u.reg (Page.prs t) PRS.C_ECMP_DROPS = BitVec.ofNat 48 ((s.reg (Page.prs t) PRS.C_ECMP_DROPS).toNat + 1) ∧
        (s.powered (Page.prs t) = true → u.raised (Page.prs t) PRS.S_ECMP_EMPTY = true)) ∧
    (∀ n kind, kind = x.bits 183 36 3 → kind = 3 ∨ kind = 4 → x.disposition = none → x.bit 184 47 = false → x.sessions = [] →
      x.shim = none →
      (if kind = 3 then s.spreadEcmp t (x.bits 183 16 20) x.flowHash else s.spreadLag t (x.bits 183 16 20) x.flowHash) = .lp n →
      n < 768 → ∃ u, exec (.resolution id false flowBad) s = .next u ∧ (u.pkt id).stage = .admission ∧ (u.pkt id).fwdKind = 0 ∧
        (u.pkt id).fwdIndex = n)) ∧
  (∀ (s : State) (t g h l : Nat),
    (s.spreadEcmp t g h = .lp l → s.lpIsUp l = true) ∧ (s.spreadLag t g h = .lp l → s.lpIsUp l = true) ∧
    (s.spreadEcmp t g h = .ecmpEmpty ↔ Word.bit (s.prsWord t 0 spEcmpGroup g 0) 47 = false ∨
      ∀ i, i < Word.bits (s.prsWord t 0 spEcmpGroup g 0) 20 9 →
        s.ecmpMember t (Word.bits (s.prsWord t 0 spEcmpGroup g 0) 29 14 + i) h = none) ∧
    (s.spreadLag t g h = .lagEmpty ↔ Word.bit (s.prsWord t 0 spLagGroup g 0) 47 = false ∨ s.lagActive t g s.lpIsUp = []) ∧
    (s.spreadLag t g h = .lp l → ∃ m, m ∈ s.lagActive t g s.lpIsUp ∧ l = Word.bits (s.prsWord t 0 spLagMember (64 * g + m) 0) 36 10)) ∧
  (∀ (s : State) (id t : Nat) (x : Pkt), x = s.pkt id → x.stage = .deparse → t = x.trav → t < 25 → s.isFirst x = true → s.travIssues t = true →
    (x.tagBad = false → (s.rebuilt t x).1.length + 4 ≤ 16383 → x.bit 186 39 = false → ∃ u, exec (.deparse id .none) s = .next u ∧
      (u.pkt id).bytes = (s.rebuilt t x).1 ∧
      (u.pkt id).stage = (if s.secFld x.outLp MSC.LP_SEC_PROTECT_TX = 1 then .secTx else .transmit) ∧
      (u.pkt id).sc = (if x.bit 188 47 then some (x.bits 188 33 14) else none) ∧
      u.reg (Page.dpr t) DPR.C_FRAMES = BitVec.ofNat 48 ((s.reg (Page.dpr t) DPR.C_FRAMES).toNat + 1)) ∧
    (x.tagBad = false → 16383 < (s.rebuilt t x).1.length + 4 → x.chain = 0 → s.powered (Page.dpr t) = true →
      ∃ u, exec (.deparse id .none) s = .next u ∧ u.pkt id = dflt.pkt ∧ u.raised (Page.dpr t) DPR.S_EDIT_DROP = true ∧
        u.reg (Page.dpr t) DPR.C_EDIT_DROPS = BitVec.ofNat 48 ((s.reg (Page.dpr t) DPR.C_EDIT_DROPS).toNat + 1)) ∧
    (x.chain = 0 → s.powered (Page.dpr t) = true → ∃ u, exec (.deparse id .tag) s = .next u ∧ u.pkt id = dflt.pkt ∧
      u.raised (Page.dpr t) DPR.S_TAG_ERROR = true ∧
      u.reg (Page.dpr t) DPR.C_TAG_ERRORS = BitVec.ofNat 48 ((s.reg (Page.dpr t) DPR.C_TAG_ERRORS).toNat + 1)) ∧
    (x.chain = 0 → s.powered (Page.dpr t) = true → ∃ u, exec (.deparse id .parity) s = .next u ∧ u.pkt id = dflt.pkt ∧
      u.raised (Page.dpr t) DPR.S_PHV_PARITY = true)) ∧
  (∀ (s : State) (t : Nat) (x : Pkt), x.hdrCount = 0 → x.pushes = [] → (s.rebuilt t x).1 = x.bytes) ∧
  ∀ l : List Byte, 5 ≤ byteAt l 0 % 16 → byteAt l 0 % 16 * 4 ≤ l.length →
    (List.range (byteAt l 0 % 16 * 2)).foldl (fun v i => v + beAt (ipChecksum l) (2 * i) 2) 0 % 65535 = 0 ∧
    (ipChecksum l).length = l.length

/-- PROBE_INJECT, AUTO_TAKEOVER, SPARE_TAKEOVER, SPARE_RETURN, SPARE_CLEARING_DONE and T24_CLOSURE_SELFTEST complete (tier 2; R372 to
R377, R381 to R384): benchmark probes, and how T24 takes the place of a traverse and gives it back. The model's readings that it may rest on
are its own: assumption 51. -/
def Obligations.SpareTraverse : Prop :=
  (∀ (s : State) (t : Fin 25) (a b : ProbeEnd), s.flag (Page.trv t) TRV.TRV_CTL_PROBE_EN = true → s.travIssues t = true →
    s.role t ≠ roleFenced → ∃ u, exec (.probeInject t a b) s = .next u ∧
      u.fld (Page.trv t) TRV.PROBE_STATUS_SEQ = (s.fld (Page.trv t) TRV.PROBE_STATUS_SEQ + 2) % 2 ^ 16 ∧
      u.fld (Page.trv t) TRV.PROBE_STATUS_LAST = (match b with | .pass => 1 | .once => 2 | .twice => 3) ∧
      u.reg (Page.trv t) TRV.C_PROBES_RUN = BitVec.ofNat 48 ((s.reg (Page.trv t) TRV.C_PROBES_RUN).toNat +
        (if a = .pass then 1 else 2) + (if b = .pass then 1 else 2)) ∧
      u.reg (Page.trv t) TRV.C_PROBE_FAILS = BitVec.ofNat 48 ((s.reg (Page.trv t) TRV.C_PROBE_FAILS).toNat +
        (if a = .twice then 1 else 0) + (if b = .twice then 1 else 0)) ∧
      (a = .twice ∨ b = .twice → u.raised (Page.trv t) TRV.S_PROBE_FAIL = true) ∧
      s.Aside u (fun c => c = slotAddr (Page.trv t) TRV.PROBE_STATUS_SEQ 0 ∨ c = slotAddr (Page.trv t) TRV.C_PROBES_RUN 0 ∨
        c = slotAddr (Page.trv t) TRV.C_PROBE_FAILS 0)) ∧
  (∀ (s : State) (g : Fin 24), s.role g = roleInService → s.regionHalted g = true →
    (s.t24Free = true → s.flag (Page.trv g) TRV.TRV_CTL_AUTO_SPARE = true → ∃ u, exec (.autoTakeover g) s = .next u ∧
      u.role g = roleFenced ∧ u.role 24 = roleStandingIn ∧ u.serves = g ∧ (∀ i, i ∈ s.inFlight g → u.pkt i = dflt.pkt) ∧
      u.reg (Page.trv g) TRV.C_SWITCH_LOST = BitVec.ofNat 48 ((s.reg (Page.trv g) TRV.C_SWITCH_LOST).toNat + (s.inFlight g).length) ∧
      u.reg (Page.trv 24) TRV.C_SWITCHES = BitVec.ofNat 48 ((s.reg (Page.trv 24) TRV.C_SWITCHES).toNat + 1) ∧
      u.raised (Page.trv 24) TRV.S_STANDING_IN = true ∧ (s.powered (Page.trv g) = true → u.raised (Page.trv g) TRV.S_FENCED = true) ∧
      ∀ h, h < 24 → h ≠ g → u.role h = s.role h) ∧
    (s.t24Free = false → s.powered (Page.trv g) = true → ∃ u, exec (.autoTakeover g) s = .next u ∧
      u.raised (Page.trv g) TRV.S_NO_SPARE = true ∧ u.role g = roleInService ∧ s.Aside u (fun _ => False))) ∧
  (∀ (s : State) (r : Req) (data : Word) (g : Nat), s.accepts r (Page.trv 24) TRV.SPARE_CMD 0 true = true →
    g = Word.bits data 0 5 → Word.bit data 6 = true → Word.bit data 7 = false →
    (g < 24 → s.t24Free = true → s.role g = roleInService → ∃ u, exec (.spareTakeover r data) s = .next u ∧ u.role g = roleFenced ∧
      u.role 24 = roleStandingIn ∧ u.serves = g ∧ u.pkts = s.pkts ∧
      u.reg (Page.trv g) TRV.C_SWITCH_LOST = s.reg (Page.trv g) TRV.C_SWITCH_LOST) ∧
    (24 ≤ g ∨ s.t24Free = false → s.powered (Page.trv 24) = true → ∃ u, exec (.spareTakeover r data) s = .next u ∧
      u.raised (Page.trv 24) TRV.S_SPARE_REFUSED = true ∧ s.Aside u (fun _ => False))) ∧
  (∀ (s : State) (r : Req) (data : Word) (g : Nat), s.accepts r (Page.trv 24) TRV.SPARE_CMD 0 true = true →
    g = Word.bits data 0 5 → Word.bit data 7 = true → Word.bit data 6 = false →
    (s.role 24 = roleStandingIn → s.serves = g → g < 24 → s.role g = roleFenced → s.fld (Page.trv g) TB.PAGE_STATE_STATE = 2 →
      s.regionHalted g = false → s.flag (Page.prs g) PRS.BANK_STATUS_ACTIVE_VALID = true →
      ∃ u, exec (.spareReturn r data) s = .next u ∧ u.role g = roleInService ∧ u.role 24 = roleClearing ∧ u.serves = 24 ∧
        u.reg (Page.trv 24) TRV.C_RETURNS = BitVec.ofNat 48 ((s.reg (Page.trv 24) TRV.C_RETURNS).toNat + 1) ∧
        (∀ e, e ∈ u.tables → e.1 / 2 ^ 39 = g → e.2.learned = false)) ∧
    (s.role 24 ≠ roleStandingIn ∨ s.serves ≠ g ∨ s.regionHalted g = true ∨ s.fld (Page.trv g) TB.PAGE_STATE_STATE ≠ 2 ∨
      s.flag (Page.prs g) PRS.BANK_STATUS_ACTIVE_VALID = false → s.powered (Page.trv 24) = true →
      ∃ u, exec (.spareReturn r data) s = .next u ∧ u.raised (Page.trv 24) TRV.S_SPARE_REFUSED = true ∧ u.role g = s.role g ∧
        u.role 24 = s.role 24)) ∧
  (∀ (s : State), s.role 24 = roleClearing → ∃ u, exec .spareClearingDone s = .next u ∧ u.role 24 = roleFree ∧ u.serves = 24 ∧
    (∀ e, e ∈ u.tables → e.1 / 2 ^ 39 = 24 → e.2.learned = false) ∧
    ∀ k e i, k < 20 → e < 8 → i < 2 ^ 21 → (u.se 24 k e i).cell = 0 ∧ (u.se 24 k e i).pkts = 0 ∧ (u.se 24 k e i).byts = 0 ∧
      (u.se 24 k e i).cir = (s.se 24 k e i).cir ∧ (u.se 24 k e i).fresh = true) ∧
  ∀ (s : State), s.role 24 = roleFree → s.powered (Page.trv 24) = true →
    (∃ u, exec (.t24ClosureSelftest none) s = .next u ∧ s.Aside u (fun _ => False)) ∧
    ∀ k : Fin 22, k.val < 20 → s.powered (Page.stn 24 k) = true → ∃ u, exec (.t24ClosureSelftest (some k)) s = .next u ∧
      u.raised (Page.stn 24 k) STN.S_STN_MEM_FAIL = true ∧ s.Aside u (fun _ => False)

/-- R387 (tier 2), and with it BRIDGE_MASK_WRITE completes: a write that would leave more than 40 bits set for words 0 to 167 is not stored
and sets BRIDGE_INVALID; any other is stored, and bits [47:24] of BRIDGE_MASK3 stay 1. -/
def Obligations.BridgeMaskBound : Prop :=
  ∀ (s : State) (r : Req) (t : Fin 25) (i : Fin 4) (data new : Word) (after : Nat → Word) (bits : Nat),
    s.accepts r (Page.trv t) TRV.BRIDGE_MASK i false = true →
    (∀ k, k < 48 → Word.bit new k =
      ((i.val == 3 && decide (24 ≤ k)) || Word.bit (mergeHalf r.size (s.reg (Page.trv t) TRV.BRIDGE_MASK i) data) k)) →
    (∀ j, after j = if j = i.val then new else s.reg (Page.trv t) TRV.BRIDGE_MASK j) →
    bits = ((List.range 168).filter (fun w => Word.bit (after (w / 48)) (w % 48))).length →
    (40 < bits → ∃ u, exec (.bridgeMaskWrite r t i data) s = .next u ∧ u.raised (Page.trv t) TRV.S_BRIDGE_INVALID = true ∧
      s.Aside u (fun _ => False)) ∧
    (bits ≤ 40 → ∃ u, exec (.bridgeMaskWrite r t i data) s = .next u ∧ u.reg (Page.trv t) TRV.BRIDGE_MASK i = new ∧
      s.Aside u (fun a => a = slotAddr (Page.trv t) TRV.BRIDGE_MASK i))

/-- STN_SCRUB, LT_CFG_WRITE, SE_CFG_WRITE, STN_IND_READ, STN_IND_WRITE, STN_IND_READ_CLEAR, DPR_IND_READ and
DPR_IND_WRITE complete (tier 2; R343, R348, R353, R354, R365, R371, R388): what the stations and the deparser store, and what they
refuse, stated for commands without BCAST. The model's readings that it may rest on are its own: assumption 48. -/
def Obligations.StationTables : Prop :=
  (∀ (s : State) (t : Fin 25) (k : Fin 20), s.powered (Page.stn t k) = true →
    (∃ u, exec (.stnScrub t (k.castLE (by decide)) .fixed) s = .next u ∧ u.raised (Page.stn t k) STN.S_SCRUB_FIXED = true ∧
      u.reg (Page.stn t k) STN.C_SCRUB_FIXED = BitVec.ofNat 48 ((s.reg (Page.stn t k) STN.C_SCRUB_FIXED).toNat + 1)) ∧
    (∃ u, exec (.stnScrub t (k.castLE (by decide)) .lost) s = .next u ∧ u.raised (Page.stn t k) STN.S_STN_MEM_FAIL = true ∧
      s.Aside u (fun _ => False))) ∧
  (∀ (s : State) (r : Req) (t : Fin 25) (k : Fin 20) (data : Word) (p : Page), p = Page.stn t k →
    (∀ (i : Fin 8) (c : Word), s.accepts r p STN.LT_CFG i false = true →
      c = keep 0xFFFFFFFFFFF8 (mergeHalf r.size (s.ltCfg t k i) data) →
      (Word.bits c 34 4 + Word.bits c 29 5 ≤ 16 → (∀ j, j < 8 → j ≠ i.val → Nat.bitAt (s.fld p STN.STN_CFG_LT_EN) j = true →
          slotsMeet (ltSlots c) (ltSlots (s.ltCfg t k j)) = false) →
        ∃ u, exec (.ltCfgWrite r t k (some i) data) s = .next u ∧ u.ltCfg t k i = c ∧
          s.Aside u (fun a => a = slotAddr p STN.LT_CFG i)) ∧
      (16 < Word.bits c 34 4 + Word.bits c 29 5 ∨ (∃ j, j < 8 ∧ j ≠ i.val ∧ Nat.bitAt (s.fld p STN.STN_CFG_LT_EN) j = true ∧
          slotsMeet (ltSlots c) (ltSlots (s.ltCfg t k j)) = true) → s.powered p = true →
        ∃ u, exec (.ltCfgWrite r t k (some i) data) s = .next u ∧ u.raised p STN.S_LT_INVALID = true ∧ s.Aside u (fun _ => False))) ∧
    (∀ en, s.accepts r p STN.STN_CFG 0 false = true → en = Word.bits (mergeHalf r.size (s.reg p STN.STN_CFG) data) 0 8 →
      (s.enClash t k en = false → ∃ u, exec (.ltCfgWrite r t k none data) s = .next u ∧ u.fld p STN.STN_CFG_LT_EN = en) ∧
      (s.enClash t k en = true → s.powered p = true → ∃ u, exec (.ltCfgWrite r t k none data) s = .next u ∧
        u.raised p STN.S_LT_INVALID = true ∧ s.Aside u (fun _ => False))) ∧
    (∀ (e : Fin 8) (c : Word), s.accepts r p STN.SE_CFG e false = true →
      c = keep 0xFFFFFFFFC000 (mergeHalf r.size (s.seCfg t k e) data) →
      (Word.bits c 46 2 = 0 → ∃ u, exec (.seCfgWrite r t k e data) s = .next u ∧ u.seCfg t k e = c ∧
        s.Aside u (fun a => a = slotAddr p STN.SE_CFG e)) ∧
      (Word.bits c 46 2 ≠ 0 → 0 < Word.bits c 30 8 → Word.bits c 38 8 + Word.bits c 30 8 ≤ 160 →
        s.tableMeets t 1024 (Word.bits c 38 8) (Word.bits c 30 8) 0 0 = false →
        s.elementMeets t (8 * k.val + e.val) (Word.bits c 38 8) (Word.bits c 30 8) = false →
        ∃ u, exec (.seCfgWrite r t k e data) s = .next u ∧ u.seCfg t k e = c) ∧
      (Word.bits c 46 2 ≠ 0 → 160 < Word.bits c 38 8 + Word.bits c 30 8 → s.powered p = true →
        ∃ u, exec (.seCfgWrite r t k e data) s = .next u ∧ u.raised p STN.S_LT_INVALID = true ∧ s.Aside u (fun _ => False)))) ∧
  (∀ (s : State) (r : Req) (t : Fin 25) (k : Fin 20) (data : Word) (p : Page) (c : StnCmd) (w : Word), p = Page.stn t k →
    s.accepts r p STN.IND_CMD 0 true = true → s.flag p STN.IND_STATUS_BUSY = false → c = stnCmdOf data → Word.bit data 42 = false →
    w = s.reg p STN.IND_DATA 0 →
    (c.op = 1 → c.tgt = 0 → c.idx < 4096 → instrGood w = true → ∃ u, exec (.stnIndWrite r t k data) s = .next u ∧
      u.entWord spCode (stnInst t k) c.idx 0 = w ∧ u.fld p STN.IND_STATUS_CODE = 0 ∧
      ∀ sp j x, entKey sp j x ≠ entKey spCode (stnInst t k) c.idx → u.ent sp j x = s.ent sp j x) ∧
    (c.op = 1 → c.tgt = 0 → c.idx < 4096 → instrGood w = false → s.powered p = true → ∃ u, exec (.stnIndWrite r t k data) s = .next u ∧
      u.ents = s.ents ∧ u.fld p STN.IND_STATUS_CODE = 6 ∧ u.raised p STN.S_IND_ERROR = true) ∧
    (c.op = 1 → c.tgt = 1 → c.idx < 512 → Word.bits w 0 12 + Word.bits w 12 4 + 1 ≤ 4096 →
      ∃ u, exec (.stnIndWrite r t k data) s = .next u ∧ u.entWord spProgram (stnInst t k) c.idx 0 = keep 0xFFFF w ∧
        u.fld p STN.IND_STATUS_CODE = 0) ∧
    (c.op = 1 → c.tgt = 2 → Word.bits (s.seCfg t k c.el) 46 2 = 1 → c.idx < seCapacity (s.seCfg t k c.el) →
      ∃ u, exec (.stnIndWrite r t k data) s = .next u ∧ (u.se t k c.el c.idx).fresh = true ∧
        (u.se t k c.el c.idx).cir = Word.bits w 0 32 ∧ (u.se t k c.el c.idx).cbs = Word.bits (s.reg p STN.IND_DATA 2) 0 28) ∧
    (c.op = 0 → c.tgt = 0 → c.idx < 4096 → ∃ u, exec (.stnIndRead r t k data) s = .next u ∧
      u.reg p STN.IND_DATA 0 = s.entWord spCode (stnInst t k) c.idx 0 ∧ u.fld p STN.IND_STATUS_CODE = 0 ∧ u.ents = s.ents) ∧
    (c.op = 2 → c.tgt = 2 → Word.bits (s.seCfg t k c.el) 46 2 = 2 → c.idx < seCapacity (s.seCfg t k c.el) →
      ∃ u, exec (.stnIndReadClear r t k data) s = .next u ∧
        u.reg p STN.IND_DATA 0 = BitVec.ofNat 48 (s.se t k c.el c.idx).pkts ∧
        u.reg p STN.IND_DATA 1 = BitVec.ofNat 48 (s.se t k c.el c.idx).byts ∧
        (u.se t k c.el c.idx).pkts = 0 ∧ (u.se t k c.el c.idx).byts = 0 ∧ u.fld p STN.IND_STATUS_CODE = 0)) ∧
  ∀ (s : State) (r : Req) (t : Fin 25) (data : Word) (p : Page) (tgt i : Nat) (d : List Word), p = Page.dpr t →
    s.accepts r p DPR.IND_CMD 0 true = true → s.flag p DPR.IND_STATUS_BUSY = false → tgt = Word.bits data 46 2 →
    i = Word.bits data 0 9 → d = s.indData p DPR.IND_DATA 2 → Word.bit data 44 = false →
    (∀ l, Word.bit data 45 = true → i < dprSize tgt → dprEntry tgt d = some l → ∃ u, exec (.dprIndWrite r t data) s = .next u ∧
      (∀ j, u.entWord (dprSpace tgt) t i j = l.getD j 0) ∧ u.fld p DPR.IND_STATUS_CODE = 0 ∧
      ∀ sp j x, entKey sp j x ≠ entKey (dprSpace tgt) t i → u.ent sp j x = s.ent sp j x) ∧
    (Word.bit data 45 = true → tgt = 0 → i < 256 → 6 < Word.bits (d.getD 0 0) 29 3 + Word.bits (d.getD 0 0) 18 3 ∨
        167 < Word.bits (d.getD 0 0) 21 8 → s.powered p = true → ∃ u, exec (.dprIndWrite r t data) s = .next u ∧ u.ents = s.ents ∧
      u.fld p DPR.IND_STATUS_CODE = 6 ∧ u.raised p DPR.S_IND_ERROR = true) ∧
    (Word.bit data 45 = false → i < dprSize tgt → ∃ u, exec (.dprIndRead r t data) s = .next u ∧ u.ents = s.ents ∧
      u.fld p DPR.IND_STATUS_CODE = 0 ∧ ∀ j, j < 2 → u.reg p DPR.IND_DATA j = s.entWord (dprSpace tgt) t i j)


/-! ## Forwarding tables and learning (12_tables_and_learning.md) -/

/-- TBC_READ, TBC_WRITE, TBC_INSERT, TBC_DELETE, TBC_SEARCH, TBC_UPDATE_ACTION, TBC_AGE_QUERY, TBC_AGE_TOUCH, TBC_AGE_CLEAR,
TBC_AGE_SWEEP, TBC_DESC_READ, TBC_DESC_WRITE, TBC_COUNT_READ and TBC_BROADCAST_DONE complete (tier 2; R391, R392, R397 to R400, R407, R408,
R411, R419): the table command page and what its commands do to the entries of an on-chip table, stated for commands without BCAST. The
model's readings that it may rest on are its own: assumptions 52, 54. The model's readings that it may rest on are its own: assumptions 52,
54. -/
def Obligations.TableCommands : Prop :=
  (∀ (s : State) (r : Req) (t : Fin 25) (data : Word) (p : Page) (op tb i : Nat) (d : Desc) (l : List Word) (e : TEntry),
    p = Page.tbc t → s.accepts r p TBC.TBC_CMD 0 true = true → Word.bit data 29 = false →
    s.flag p TBC.TBC_STATUS_BUSY = false → op = Word.bits data 40 8 → tb = Word.bits data 30 10 → i = Word.bits data 0 29 →
    d = s.desc t tb → l = s.tbcData t → e = (unstage d l).1 →
    (op = 0x10 → ∃ u, exec (.tbcDescRead r t data) s = .next u ∧ (∀ j, j < 5 → u.reg p TBC.TBC_DATA j = s.entWord spDesc t tb j) ∧
      u.fld p TBC.TBC_STATUS_STATUS = 0 ∧ u.flag p TBC.TBC_STATUS_DONE = true ∧ u.tables = s.tables ∧ u.ents = s.ents) ∧
    (op = 0x11 → descBad (descOf l) = false → s.descConflict t tb (descOf l) = false →
      ∃ u, exec (.tbcDescWrite r t data) s = .next u ∧ u.desc t tb = descOf l ∧ u.fld p TBC.TBC_STATUS_STATUS = 0 ∧
        u.tables = s.tables ∧ ∀ v x, v < 25 → x < 1024 → (v, x) ≠ (t.val, tb) → u.desc v x = s.desc v x) ∧
    (op = 0x11 → descBad (descOf l) = false → s.descConflict t tb (descOf l) = true → s.powered p = true →
      ∃ u, exec (.tbcDescWrite r t data) s = .next u ∧ u.ents = s.ents ∧ u.fld p TBC.TBC_STATUS_STATUS = 5 ∧
        u.raised p TBC.S_ALLOC_CONFLICT = true ∧ u.raised p TBC.S_CMD_ERROR = true) ∧
    (op = 0x12 → ∃ u, exec (.tbcCountRead r t data) s = .next u ∧ u.fld p TBC.TBC_STATUS_STATUS = 0 ∧
      u.reg p TBC.TBC_DATA 0 = BitVec.ofNat 48 (s.entryUse t (i / 4096 % 16) (i % 4096)) ∧ u.entryCount = s.entryCount) ∧
    (1 ≤ d.type → d.type ≤ 4 → sizesGood d = true →
      (op = 1 → i < tableSize d → ∃ u, exec (.tbcRead r t data) s = .next u ∧ u.tables = s.tables ∧
        (∀ j, j < 16 → j < (stage d (s.tent t tb i)).length → u.reg p TBC.TBC_DATA j = (stage d (s.tent t tb i)).getD j 0) ∧
        u.fld p TBC.TBC_STATUS_STATUS = 0 ∧ u.fld p TBC.TBC_RESULT_INDEX = i) ∧
      (op = 2 → d.type ≠ 2 → i < tableSize d → (unstage d l).2 = true → e.valid = false ∨
          (s.tent t tb i).valid = true ∧ (s.tent t tb i).parcel = e.parcel ∨ s.overLimit t d.qclass e.parcel = false →
        ∃ u, exec (.tbcWrite r t data) s = .next u ∧ u.tent t tb i = (if e.valid then freshEntry d e else dflt.entry) ∧
          u.fld p TBC.TBC_STATUS_STATUS = 0 ∧ ∀ k, k ≠ tableKey t tb i → u.tables.get k dflt.entry = s.tables.get k dflt.entry) ∧
      (op = 2 → d.type ≠ 2 → i < tableSize d → (unstage d l).2 = true → e.valid = true → (s.tent t tb i).valid = false →
          s.overLimit t d.qclass e.parcel = true → ∃ u, exec (.tbcWrite r t data) s = .next u ∧ u.tables = s.tables ∧
          u.fld p TBC.TBC_STATUS_STATUS = 3) ∧
      (op = 3 → d.type = 3 → ∃ u, exec (.tbcInsert r t data) s = .next u ∧ u.tables = s.tables ∧ u.fld p TBC.TBC_STATUS_STATUS = 5) ∧
      (op = 3 → d.type = 4 → (unstage d l).2 = true → e.valid = true → e.key < tableSize d → s.overLimit t d.qclass e.parcel = false →
        ∃ u, exec (.tbcInsert r t data) s = .next u ∧ u.tent t tb e.key = freshEntry d e ∧ u.fld p TBC.TBC_STATUS_STATUS = 0) ∧
      (∀ j o, op = 4 → d.type = 1 → (unstage d l).2 = true → s.find d t tb e.parcel e.key = some (j, o) →
        ∃ u, exec (.tbcDelete r t data) s = .next u ∧ u.tent t tb j = dflt.entry ∧ u.fld p TBC.TBC_STATUS_STATUS = 0 ∧
          u.entryUse t d.qclass e.parcel = s.entryUse t d.qclass e.parcel - 1 ∧
          ∀ k, k ≠ tableKey t tb j → u.tables.get k dflt.entry = s.tables.get k dflt.entry) ∧
      (op = 4 → d.type = 1 → (unstage d l).2 = true → s.find d t tb e.parcel e.key = none →
        ∃ u, exec (.tbcDelete r t data) s = .next u ∧ u.tables = s.tables ∧ u.fld p TBC.TBC_STATUS_STATUS = 1) ∧
      (∀ j o, d.type ≠ 2 → (unstage d l).2 = true → s.find d t tb e.parcel e.key = some (j, o) →
        (op = 5 → ∃ u, exec (.tbcSearch r t data) s = .next u ∧ u.tables = s.tables ∧ u.fld p TBC.TBC_STATUS_STATUS = 0 ∧
          u.reg p TBC.TBC_DATA 0 = (stage d o).getD 0 0 ∧ u.reg p TBC.TBC_DATA 1 = ageWord o) ∧
        (op = 6 → ∃ u, exec (.tbcUpdateAction r t data) s = .next u ∧ u.fld p TBC.TBC_STATUS_STATUS = 0 ∧
          u.tent t tb j = { o with prog := e.prog, se := e.se, act := e.act }) ∧
        (op = 7 → ∃ u, exec (.tbcAgeQuery r t data) s = .next u ∧ u.tables = s.tables ∧ u.fld p TBC.TBC_STATUS_STATUS = 0 ∧
          Word.bit (u.reg p TBC.TBC_DATA 1) 45 = o.hit ∧ Word.bits (u.reg p TBC.TBC_DATA 1) 29 16 = o.age % 2 ^ 16) ∧
        (op = 8 → ∃ u, exec (.tbcAgeTouch r t data) s = .next u ∧ u.tent t tb j = { o with hit := true, age := 0 }) ∧
        (op = 9 → ∃ u, exec (.tbcAgeClear r t data) s = .next u ∧ u.tent t tb j = { o with hit := false, age := 0 })) ∧
      (op = 0x0A → Tab.sorted s.tables = true → ∃ u, exec (.tbcAgeSweep r t data) s = .next u ∧ u.fld p TBC.TBC_STATUS_STATUS = 0 ∧
        ∀ j o, j < 2 ^ 29 → o = s.tent t tb j → o.valid = true → u.tent t tb j =
          (if o.hit then { o with hit := false, age := 0 }
           else if o.static = false ∧ d.ageLimit ≠ 0 ∧ d.ageLimit ≤ Nat.min 0xFFFF (o.age + 1) then dflt.entry
           else { o with age := Nat.min 0xFFFF (o.age + 1) })))) ∧
  (∀ (s : State) (t : Fin 25) (status : Nat) (skipped : Bool), s.tbcWait = [(t.val, status, skipped)] → status < 8 →
    ∃ u, exec (.tbcBroadcastDone t) s = .next u ∧ u.fld (Page.tbc t) TBC.TBC_STATUS_STATUS = status ∧
      u.flag (Page.tbc t) TBC.TBC_STATUS_DONE = true ∧ u.flag (Page.tbc t) TBC.TBC_STATUS_SKIPPED = skipped ∧
      (∀ v, v < 25 → u.flag (Page.tbc v) TBC.TBC_STATUS_BUSY = false) ∧ u.tbcWait = [])

/-- R396, R397 (tier 2): an INSERT into an EXACT table whose entries stand where their hashes put them leaves them so; whatever it moves,
every other key keeps its entry; and the key inserted has the entry staged where the command ends with status 0. The model's readings that
it may rest on are its own: assumption 52. -/
def Obligations.ExactInsert : Prop :=
  ∀ (s : State) (r : Req) (t : Fin 25) (data : Word) (p : Page) (tb : Nat) (d : Desc) (l : List Word) (e : TEntry), p = Page.tbc t →
    s.accepts r p TBC.TBC_CMD 0 true = true → Word.bit data 29 = false → s.flag p TBC.TBC_STATUS_BUSY = false →
    Word.bits data 40 8 = 3 → tb = Word.bits data 30 10 → d = s.desc t tb → l = s.tbcData t → e = (unstage d l).1 →
    (unstage d l).2 = true → e.valid = true → d.type = 1 → 0 < wayEntries d → s.Placed t tb →
    ∃ u, exec (.tbcInsert r t data) s = .next u ∧ u.Placed t tb ∧
      (∀ parcel key, (parcel, key) ≠ (e.parcel, e.key) →
        (u.find d t tb parcel key).map (·.2) = (s.find d t tb parcel key).map (·.2)) ∧
      (u.fld p TBC.TBC_STATUS_STATUS = 0 → (u.find d t tb e.parcel e.key).map (·.2) = some (freshEntry d e)) ∧
      (u.fld p TBC.TBC_STATUS_STATUS ≠ 0 → u.tables = s.tables) ∧
      (u.fld p TBC.TBC_STATUS_STATUS = 0 ∨ u.fld p TBC.TBC_STATUS_STATUS = 3 ∨ u.fld p TBC.TBC_STATUS_STATUS = 6) ∧
      (u.fld p TBC.TBC_STATUS_STATUS = 3 ↔ s.find d t tb e.parcel e.key = none ∧ s.overLimit t d.qclass e.parcel = true) ∧
      ((s.find d t tb e.parcel e.key).isSome = true → 0 < s.entryUse t d.qclass e.parcel →
        ∀ c q, u.entryUse t c q = s.entryUse t c q)

/-- CACHE_MISS_FILL and CACHE_WRITEBACK complete, and the commands that act on HBM-resident tables (tier 2; R402 to R406, R409): a fill
brings a line into a cache, a write-back never clears a HIT bit, and an INSERT or DELETE acts on HBM and on every cache. The model's
readings that it may rest on are its own: assumption 53. -/
def Obligations.HbmTables : Prop :=
  (∀ (s : State) (t : Fin 25) (line : Nat), line ∈ s.fills.get t [] → s.hbmUp = true → s.cached t line = none →
    (∀ e, e ∈ s.writeBacks → e.2.addr ≠ line) →
    ∃ u k, exec (.cacheMissFill t line .clean) s = .next u ∧ u.cached t line = some k ∧
      (u.cache.get k dflt.line).bodies = s.lineBodies line ∧ (u.cache.get k dflt.line).dirty = false ∧
      line ∉ u.fills.get t [] ∧ u.hbmBodies = s.hbmBodies) ∧
  (∀ (s : State) (t : Nat) (x : Line) (rest : List (Nat × Line)), s.writeBacks = (t, x) :: rest → s.hbmUp = true → t < 25 →
    ∃ u, exec .cacheWriteback s = .next u ∧ u.writeBacks = rest ∧
      (∀ i, i < 4 → u.body (4 * x.addr + i) = x.bodies.getD i 0 ∧
        u.bodyHit (4 * x.addr + i) = (s.bodyHit (4 * x.addr + i) || Nat.bitAt x.hits i)) ∧
      (∀ k, s.bodyHit k = true → u.bodyHit k = true) ∧ (∀ k, k / 4 ≠ x.addr → u.body k = s.body k) ∧
      u.reg (Page.tbc t) TBC.C_WRITEBACKS = BitVec.ofNat 48 ((s.reg (Page.tbc t) TBC.C_WRITEBACKS).toNat + 1)) ∧
  ∀ (s : State) (r : Req) (t : Fin 25) (data : Word) (p : Page) (tb : Nat) (d : Desc) (l : List Word) (e : TEntry), p = Page.tbc t →
    s.accepts r p TBC.TBC_CMD 0 true = true → Word.bit data 29 = false → s.flag p TBC.TBC_STATUS_BUSY = false →
    tb = Word.bits data 30 10 → d = s.desc t tb → l = s.tbcData t → e = (unstage d l).1 → (unstage d l).2 = true → d.type = 5 →
    sizesGood d = true → s.hbmUp = true → s.writeBacks = [] → (∀ k, k ∈ candidates d e.parcel e.key → s.inBodyArea (k / 4) = true) →
    (∀ k, Word.bits data 40 8 = 3 → e.valid = true → e.se = none → s.bodyOf d e.parcel e.key = none →
      s.overLimit t d.qclass e.parcel = false → (candidates d e.parcel e.key).find? (fun j => !Nat.bitAt (s.body j) 127) = some k →
      ∃ u, exec (.tbcInsert r t data) s = .next u ∧ u.body k = entryBody d e ∧ u.anyHit k = false ∧
        u.entryUse t d.qclass e.parcel = s.entryUse t d.qclass e.parcel + 1 ∧ u.fld p TBC.TBC_STATUS_STATUS = 0 ∧
        u.fld p TBC.TBC_RESULT_INDEX = (k - d.hbmBase * 4096) % 2 ^ 29 ∧ ∀ j, j ≠ k → u.body j = s.body j) ∧
    (∀ k, Word.bits data 40 8 = 4 → s.bodyOf d e.parcel e.key = some k →
      ∃ u, exec (.tbcDelete r t data) s = .next u ∧ u.body k = 0 ∧ u.fld p TBC.TBC_STATUS_STATUS = 0 ∧
        ∀ v w, v < 25 → u.cached v (k / 4) = some w → (u.cache.get w dflt.line).bodies.getD (k % 4) 0 = 0) ∧
    (∀ k, Word.bits data 40 8 = 7 → s.bodyOf d e.parcel e.key = some k →
      ∃ u, exec (.tbcAgeQuery r t data) s = .next u ∧ Word.bit (u.reg p TBC.TBC_DATA 1) 45 = s.anyHit k ∧ u.hbmBodies = s.hbmBodies)

/-- LEARN_APPLY, NOTE0_READ, FLOOD_READ, FLOOD_WRITE, AGE_SWEEP_PERIODIC, TABLE_SCRUB, TCAM_SHADOW_COMPARE and SPARE_ROW_MARCH complete
(tier 2; R413 to R424): learning, eviction, flood groups, ageing and memory protection. The model's readings that it may rest on are its
own: assumption 54. -/
def Obligations.LearningAndAgeing : Prop :=
  (∀ (s : State) (t : Fin 25) (x : Learn) (rest : List Learn) (d : Desc), s.learnQ.get t [] = x :: rest → d = s.desc t x.table →
    d.valid = true → d.type = 1 → d.learn = true →
    (∀ i, x.move = false → s.find d t x.table x.parcel x.key = none → s.overLimit t d.qclass x.parcel = false →
      s.firstFree t x.table (positions d x.parcel x.key) = some i → ∃ u, exec (.learnApply t) s = .next u ∧ u.learnQ.get t [] = rest ∧
        u.tent t x.table i = { valid := true, parcel := x.parcel, prog := d.learnProg, learned := true, hit := true, key := x.key,
                               act := x.value } ∧
        u.entryUse t d.qclass x.parcel = s.entryUse t d.qclass x.parcel + 1 ∧
        u.reg (Page.lrn t) LRN.C_LEARNS = BitVec.ofNat 48 ((s.reg (Page.lrn t) LRN.C_LEARNS).toNat + 1)) ∧
    (∀ i o, x.move = false → s.find d t x.table x.parcel x.key = none → s.overLimit t d.qclass x.parcel = true →
      (s.victim d t x.table x.parcel x.key).2 = some (i, o) → o = s.tent t x.table i → 0 < s.entryUse t d.qclass x.parcel →
      ∃ u, exec (.learnApply t) s = .next u ∧
        (u.tent t x.table i).learned = true ∧ (u.tent t x.table i).key = x.key ∧ (u.tent t x.table i).parcel = x.parcel ∧
        u.entryUse t d.qclass x.parcel = s.entryUse t d.qclass x.parcel ∧
        u.reg (Page.lrn t) LRN.C_EVICTIONS = BitVec.ofNat 48 ((s.reg (Page.lrn t) LRN.C_EVICTIONS).toNat + 1)) ∧
    (x.move = false → s.find d t x.table x.parcel x.key = none → s.overLimit t d.qclass x.parcel = true →
      (s.victim d t x.table x.parcel x.key).2 = none → ∃ u, exec (.learnApply t) s = .next u ∧ u.tables = s.tables ∧
        u.reg (Page.lrn t) LRN.C_LEARN_DROPS = BitVec.ofNat 48 ((s.reg (Page.lrn t) LRN.C_LEARN_DROPS).toNat + 1) ∧
        (s.powered (Page.lrn t) = true → u.raised (Page.lrn t) LRN.S_LEARN_DROP = true)) ∧
    (x.move = false → (s.find d t x.table x.parcel x.key).isSome = true → ∃ u, exec (.learnApply t) s = .next u ∧
      u.tables = s.tables ∧ u.learnQ.get t [] = rest) ∧
    (∀ i o, x.move = true → s.find d t x.table x.parcel x.key = some (i, o) → o.learned = true →
      ∃ u, exec (.learnApply t) s = .next u ∧
        u.tent t x.table i = { o with act := o.act - o.act % 2 ^ d.learnW + x.value % 2 ^ d.learnW, hit := true, age := 0 } ∧
        u.reg (Page.lrn t) LRN.C_MOVES = BitVec.ofNat 48 ((s.reg (Page.lrn t) LRN.C_MOVES).toNat + 1))) ∧
  (∀ (s : State) (d : Desc) (t tb parcel key i : Nat) (o : TEntry), (s.victim d t tb parcel key).2 = some (i, o) →
    i ∈ positions d parcel key ∧ o = s.tent t tb i ∧ o.learned = true ∧ o.static = false ∧ o.parcel = parcel ∧
    (d.evict = true → ∀ j, j ∈ positions d parcel key → (s.tent t tb j).valid = true → (s.tent t tb j).learned = true →
      (s.tent t tb j).static = false → (s.tent t tb j).parcel = parcel →
      (s.tent t tb j).age ≤ o.age ∧ ((s.tent t tb j).age = o.age → (s.tent t tb j).hit = false → o.hit = false))) ∧
  (∀ (s : State) (r : Req) (t : Fin 25), s.readFate r (slotAddr (Page.lrn t) LRN.NOTE0 0) true = .ok →
    (∀ n rest, s.notes.get t [] = n :: rest → ∃ u, exec (.note0Read r t) s = .next u ∧ u.notes.get t [] = rest ∧
      u.reg (Page.lrn t) LRN.NOTE1 0 = BitVec.ofNat 48 n.key ∧ u.reg (Page.lrn t) LRN.NOTE1 2 = BitVec.ofNat 48 n.act ∧
      u.out = .readData r.fn (readPart r.size (BitVec.ofNat 48
        (2 ^ 47 + n.kind * 2 ^ 44 + n.table * 2 ^ 34 + n.parcel * 2 ^ 22 + n.index % 2 ^ 20))) :: s.out) ∧
    (s.notes.get t [] = [] → ∃ u, exec (.note0Read r t) s = .next u ∧ u.notes.get t [] = [] ∧
      u.out = .readData r.fn (readPart r.size 0) :: s.out)) ∧
  (∀ (s : State) (r : Req) (t : Fin 25) (data : Word) (n : Nat), s.accepts r (Page.lrn t) LRN.FLOOD_CMD 0 true = true →
    n = Word.bits data 0 12 →
    (Word.bit data 47 = false → ∃ u, exec (.floodRead r t data) s = .next u ∧
      u.reg (Page.lrn t) LRN.FLOOD_DATA = s.entWord spFlood t n 0 ∧ u.ents = s.ents) ∧
    (Word.bit data 47 = true → Word.bit data 46 = false → ∃ u, exec (.floodWrite r t data) s = .next u ∧
      u.entWord spFlood t n 0 = keep 0x7FFF (s.reg (Page.lrn t) LRN.FLOOD_DATA)) ∧
    (Word.bit data 47 = true → Word.bit data 46 = true → ∃ u, exec (.floodWrite r t data) s = .next u ∧
      ∀ v, v < 25 → s.reached v = true → u.entWord spFlood v n 0 = keep 0x7FFF (s.reg (Page.lrn t) LRN.FLOOD_DATA))) ∧
  (∀ (s : State) (t : Fin 25) (tb : Fin 1024) (d : Desc) (late : Bool), d = s.desc t tb → d.valid = true → d.age = true → d.type ≠ 5 →
    Tab.sorted s.tables = true → ∃ u, exec (.ageSweepPeriodic t tb late) s = .next u ∧
      (late = true → u.reg (Page.lrn t) LRN.C_AGE_LATE = BitVec.ofNat 48 ((s.reg (Page.lrn t) LRN.C_AGE_LATE).toNat + 1)) ∧
      ∀ j o, j < 2 ^ 29 → o = s.tent t tb j → o.valid = true →
        (o.hit = true → u.tent t tb j = { o with hit := false, age := 0 }) ∧
        (o.hit = false → o.static = false → d.ageLimit = o.age + 1 → o.age < 0xFFFF → u.tent t tb j = dflt.entry)) ∧
  (∀ (s : State) (t : Fin 25) (b : Fin 160), s.powered (Page.tbc t) = true →
    (∀ pass, ∃ u, exec (.tableScrub t b .fixed false pass none none) s = .next u ∧ u.raised (Page.tbc t) TBC.S_TBL_SCRUB_FIXED = true ∧
      u.reg (Page.tbc t) TBC.C_SCRUB_FIXED = BitVec.ofNat 48 ((s.reg (Page.tbc t) TBC.C_SCRUB_FIXED).toNat + 1)) ∧
    (s.rowsUsed.get (t * 160 + b) 0 < 4 → ∃ u, exec (.tableScrub t b .fixed true false none none) s = .next u ∧
      u.rowsUsed.get (t * 160 + b) 0 = s.rowsUsed.get (t * 160 + b) 0 + 1 ∧ u.raised (Page.tbc t) TBC.S_ROW_RETIRED = true) ∧
    (4 ≤ s.rowsUsed.get (t * 160 + b) 0 → ∃ u, exec (.tableScrub t b .fixed true false none none) s = .next u ∧
      u.rowsUsed = s.rowsUsed ∧ u.raised (Page.tbc t) TBC.S_SPARE_ROWS_OUT = true) ∧
    (∀ pass (tb : Fin 1024) i, (s.tent t tb i).valid = true → (s.tent t tb i).learned = true →
      ∃ u, exec (.tableScrub t b .lost false pass (some (tb, i)) none) s = .next u ∧ u.tent t tb i = dflt.entry ∧
        u.reg (Page.tbc t) TBC.C_LEARNED_LOST = BitVec.ofNat 48 ((s.reg (Page.tbc t) TBC.C_LEARNED_LOST).toNat + 1)) ∧
    (∀ pass (tb : Fin 1024) i, (s.tent t tb i).learned = false →
      ∃ u, exec (.tableScrub t b .lost false pass (some (tb, i)) none) s = .next u ∧ u.raised (Page.tbc t) TBC.S_TBL_MEM_FAIL = true ∧
        s.Aside u (fun _ => False)) ∧
    (∀ pass (k : Fin 16384), ∃ u, exec (.tableScrub t b .lost false pass none (some k)) s = .next u ∧
      (u.cache.get (t * 16384 + k) dflt.line).valid = false ∧ u.raised (Page.tbc t) TBC.S_CACHE_ECC = true) ∧
    (∀ (tb : Fin 1024) row, ∃ u, exec (.tcamShadowCompare t .fixed tb row) s = .next u ∧ u.tables = s.tables ∧
      u.reg (Page.tbc t) TBC.C_SCRUB_FIXED = BitVec.ofNat 48 ((s.reg (Page.tbc t) TBC.C_SCRUB_FIXED).toNat + 1)) ∧
    (∀ (tb : Fin 1024) row, ∃ u, exec (.tcamShadowCompare t .lost tb row) s = .next u ∧ (u.tent t tb row).valid = false ∧
      u.raised (Page.tbc t) TBC.S_TBL_MEM_FAIL = true) ∧
    (∃ u, exec (.spareRowMarch t b true) s = .next u ∧ s.Aside u (fun _ => False)) ∧
    (s.rowsUsed.get (t * 160 + b) 0 < 4 → ∃ u, exec (.spareRowMarch t b false) s = .next u ∧
      u.rowsUsed.get (t * 160 + b) 0 = s.rowsUsed.get (t * 160 + b) 0 + 1 ∧ u.raised (Page.tbc t) TBC.S_ROW_RETIRED = true))


/-! ## Spray and restore (13_spray_and_restore.md) -/

/-- R334 (tier 3): from credits of 0, over any W consecutive packets of a spray group, W the sum of the weights of its present members,
each member is chosen exactly as often as its weight says. -/
def Obligations.SprayShares : Prop :=
  ∀ (s : State) (g : Nat) (l : List (Nat × Nat)) (w k : Nat), (l.map (·.1)).Nodup → (∀ e, e ∈ l → e.1 < 16384 ∧ 0 < e.2) →
    (∀ e, e ∈ l → s.credit g e.1 = 0) → w = (l.map (·.2)).foldl (· + ·) 0 → w < 2 ^ 20 →
    ∀ e, e ∈ l → ((s.sprayPicks g l (k + w)).2.drop k).count e.1 = e.2

/-- MEMBER_REJOIN, RESTORE_RECORD, RESTORE_TIMEOUT, SPR_IND_READ and SPR_IND_WRITE complete (tier 2; R427, R436, R438 to R441, R445,
R447): members that return, and the restore contexts. Whatever is recorded or declared lost, NEXT is left unfilled. Frames are taken that
use their context without an easement. The model's readings that it may rest on are its own: assumption 56. -/
def Obligations.SprayAndRestore : Prop :=
  (∀ (s : State) (lp : Fin 768) (m : Nat), m < 16384 → s.ent spSprayMember 0 m ≠ [] → memberLp (s.sprayMember m) = lp →
    s.present.get m 0 = 0 → s.memberReady m = true →
    ∃ u, exec (.memberRejoin lp) s = .next u ∧ u.present.get m 0 = s.effWeight m + 1) ∧
  (∀ (s : State) (id ctx seq c : Nat) (x : Pkt) (w : Word) (y : Restore), x = s.pkt id → x.stage = .restore → x.shim = some (ctx, seq) →
    s.isFirst x = true → s.inService Page.spr = true → c = ctx % 2 ^ 16 → ctx < 2 ^ 20 → seq < 2 ^ 24 → w = s.ctxWord c →
    y = s.restore c → x.dead = false → y.next < 2 ^ 24 →
    (Word.bit w 47 = false → ∃ u, exec (.restoreRecord id none) s = .next u ∧ (u.pkt id).stage = .admission ∧ (u.pkt id).bytes = x.bytes ∧
      u.reg Page.spr SPR.C_UNRESTORED = BitVec.ofNat 48 ((s.reg Page.spr SPR.C_UNRESTORED).toNat + 1)) ∧
    (Word.bit w 47 = true → Word.bits w 42 4 ≠ ctx / 2 ^ 16 → s.powered Page.spr = true →
      ∃ u, exec (.restoreRecord id none) s = .next u ∧ (u.pkt id).stage = .admission ∧ u.restores = s.restores ∧
        u.raised Page.spr SPR.S_TAG_MISMATCH = true ∧
        u.reg Page.spr SPR.C_TAG_MISMATCH = BitVec.ofNat 48 ((s.reg Page.spr SPR.C_TAG_MISMATCH).toNat + 1)) ∧
    (Word.bit w 47 = true → Word.bits w 42 4 = ctx / 2 ^ 16 → s.waitOver c = false → ctxParcel w = x.parcel ∨ ctxParcel w = 0 →
      (∃ u, exec (.restoreRecord id none) s = .next u ∧ ∀ e, e ∈ (u.restore c).filled → e.1 ≠ (u.restore c).next) ∧
      (y.synced = false → y.filled = [] → ∃ u, exec (.restoreRecord id none) s = .next u ∧ (u.pkt id).stage = .admission ∧
        (u.restore c).next = (seq + 1) % 2 ^ 24 ∧ (u.restore c).synced = true) ∧
      (y.synced = true → seq = y.next → (∀ e, e ∈ y.filled → e.1 ≠ (seq + 1) % 2 ^ 24) →
        ∃ u, exec (.restoreRecord id none) s = .next u ∧ (u.pkt id).stage = .admission ∧ (u.restore c).next = (seq + 1) % 2 ^ 24 ∧
          (u.restore c).filled = y.filled ∧
          u.reg Page.spr SPR.C_RESTORED = BitVec.ofNat 48 ((s.reg Page.spr SPR.C_RESTORED).toNat + 1)) ∧
      (y.synced = true → 1 ≤ y.ahead seq → y.ahead seq < 2048 → (∀ e, e ∈ y.filled → e.1 ≠ seq ∧ e.1 ≠ y.next) →
        ∃ u o, exec (.restoreRecord id none) s = .next u ∧ (u.restore c).next = y.next ∧
          (u.restore c).filled = y.filled ++ [(seq, o)] ∧ (o = some id ∨ o = none) ∧ (u.restore c).since.isSome = true) ∧
      (y.synced = true → 2 ^ 23 ≤ y.ahead seq → (∀ e, e ∈ y.filled → e.1 ≠ y.next) → s.powered Page.spr = true →
        ∃ u, exec (.restoreRecord id none) s = .next u ∧ (u.restore c).next = y.next ∧ (u.restore c).filled = y.filled ∧
          u.raised Page.spr SPR.S_LATE = true ∧
          (Word.bit w 46 = false → (u.pkt id).stage = .admission) ∧
          (Word.bit w 46 = true → x.chain = 0 → u.pkt id = dflt.pkt ∧
            u.reg Page.spr SPR.C_LATE_DROPPED = BitVec.ofNat 48 ((s.reg Page.spr SPR.C_LATE_DROPPED).toNat + 1))) ∧
      (y.synced = true → 2048 ≤ y.ahead seq → y.ahead seq < 2 ^ 23 → y.filled = [] →
        ∃ u, exec (.restoreRecord id none) s = .next u ∧ (u.restore c).next = (seq + 2 ^ 24 - 2047) % 2 ^ 24 ∧
          u.reg Page.spr SPR.C_WINDOW_SLIDES = BitVec.ofNat 48 ((s.reg Page.spr SPR.C_WINDOW_SLIDES).toNat + 1) ∧
          u.reg Page.spr SPR.C_GAPS_LOST = BitVec.ofNat 48 ((s.reg Page.spr SPR.C_GAPS_LOST).toNat + (y.ahead seq - 2047))))) ∧
  (∀ (s : State) (c : Fin 65536) (e : Nat × Option Nat) (y : Restore), y = s.restore c → s.waitOver c = true →
    y.inOrder.head? = some e →
    ∃ u, exec (.restoreTimeout c) s = .next u ∧ (∀ f, f ∈ (u.restore c).filled → f.1 ≠ (u.restore c).next) ∧
      e ∉ (u.restore c).filled ∧
      u.reg Page.spr SPR.C_GAPS_LOST = BitVec.ofNat 48 ((s.reg Page.spr SPR.C_GAPS_LOST).toNat + y.ahead e.1) ∧
      (0 < y.ahead e.1 → s.powered Page.spr = true → u.raised Page.spr SPR.S_GAP_LOST = true)) ∧
  ∀ (s : State) (r : Req) (data : Word) (tgt i : Nat) (d : List Word), s.accepts r Page.spr SPR.IND_CMD 0 true = true →
    s.flag Page.spr SPR.IND_STATUS_BUSY = false → tgt = Word.bits data 45 3 → i = Word.bits data 0 16 →
    d = s.indData Page.spr SPR.IND_DATA 2 →
    (Word.bit data 44 = false → tgt = 3 → ∃ u, exec (.sprIndRead r data) s = .next u ∧
      u.reg Page.spr SPR.IND_DATA 0 = s.entWord spSendSeq 0 i 0 ∧ u.fld Page.spr SPR.IND_STATUS_CODE = 0 ∧ u.ents = s.ents) ∧
    (Word.bit data 44 = false → tgt = 2 → (s.restore i).frames.length ≤ 2048 → ∃ u, exec (.sprIndRead r data) s = .next u ∧
      u.reg Page.spr SPR.IND_DATA 0 = s.ctxWord i ∧ Word.bits (u.reg Page.spr SPR.IND_DATA 1) 23 24 = (s.restore i).next % 2 ^ 24) ∧
    (Word.bit data 44 = true → tgt = 0 → i < 1024 →
      (1 ≤ groupCount (d.getD 0 0) → groupCount (d.getD 0 0) ≤ 64 → groupBase (d.getD 0 0) + groupCount (d.getD 0 0) ≤ 16384 →
        Word.bits (d.getD 0 0) 10 4 ≤ 8 → Word.bits (d.getD 1 0) 0 20 + 2 ^ Word.bits (d.getD 0 0) 10 4 ≤ 2 ^ 20 →
        ∃ u, exec (.sprIndWrite r data) s = .next u ∧ u.entWord spSpray 0 i 0 = keep 0xFFFFFFFFFC00 (d.getD 0 0) ∧
          u.fld Page.spr SPR.IND_STATUS_CODE = 0 ∧ ∀ m, m < 16384 → u.credit i m = 0) ∧
      (groupCount (d.getD 0 0) = 0 ∨ 64 < groupCount (d.getD 0 0) ∨ 8 < Word.bits (d.getD 0 0) 10 4 → s.powered Page.spr = true →
        ∃ u, exec (.sprIndWrite r data) s = .next u ∧ u.ents = s.ents ∧ u.fld Page.spr SPR.IND_STATUS_CODE = 6 ∧
          u.raised Page.spr SPR.S_IND_ERROR = true)) ∧
    (Word.bit data 44 = true → tgt = 1 → i < 16384 →
      (Word.bits (d.getD 0 0) 28 8 ≠ 0 → ∃ u, exec (.sprIndWrite r data) s = .next u ∧
        u.sprayMember i = keep 0xFFFFF0000000 (d.getD 0 0) ∧ u.fld Page.spr SPR.IND_STATUS_CODE = 0) ∧
      (Word.bits (d.getD 0 0) 28 8 = 0 → ∃ u, exec (.sprIndWrite r data) s = .next u ∧ u.ents = s.ents ∧
        u.fld Page.spr SPR.IND_STATUS_CODE = 6)) ∧
    (Word.bit data 44 = true → tgt = 2 → Word.bit (d.getD 0 0) 47 = true → Word.bit (s.ctxWord i) 47 = false →
      ∃ u, exec (.sprIndWrite r data) s = .next u ∧ u.ctxWord i = keep 0xFFFFFFF00000 (d.getD 0 0) ∧ (u.restore i).synced = false) ∧
    (Word.bit data 44 = true → tgt = 2 → Word.bit (d.getD 0 0) 47 = false →
      ∃ u, exec (.sprIndWrite r data) s = .next u ∧ (u.restore i).filled = [] ∧ ∀ k, some k ∈ (s.restore i).filled.map (·.2) →
        (u.pkt k).stage = .admission) ∧
    (Word.bit data 44 = true → tgt = 3 → ∃ u, exec (.sprIndWrite r data) s = .next u ∧
      u.entWord spSendSeq 0 i 0 = keep 0xFFFFFF (d.getD 0 0))

/-! ## The buffer pool manager (14_buffer_pools.md) -/

/-- CARVE_APPLY, PSET_READ, PSET_WRITE, ISLAND_CTL_WRITE and ISLAND_OUT complete (tier 2; R453, R455, R474): an accepted carve lays the
extents of its pools aligned, apart and within their islands, its fallbacks rise in class, and its pool sets and SEC_POOL name pools of
it; a refused one changes no pool and reports its reason. The model's readings that it may rest on are its own: assumption 57. -/
def Obligations.CarvingAndIslands : Prop :=
  (∀ (s : State) (r : Req) (data : Word), s.accepts r Page.bpm BPM.CARVE_CMD 0 true = true → Word.bit data 0 = true →
    (s.carveReason = 0 → ∃ u, exec (.carveApply r data) s = .next u ∧ u.flag Page.bpm BPM.CARVE_STATUS_CARVED = true ∧
      u.flag Page.bpm BPM.CARVE_STATUS_REFUSED = false ∧ u.alloc = [] ∧ s.alloc = [] ∧
      u.carve.sec = s.fld Page.bpm BPM.BPM_CFG_SEC_POOL ∧ (u.pool u.carve.sec).isSome = true ∧
      (∀ p, p < 16 → ((u.pool p).isSome = true ↔ Word.bit (s.reg Page.bpm BPM.POOL_CFG p) 11 = true)) ∧
      (∀ p q, p < 16 → u.pool p = some q → q.cls = Word.bits (s.reg Page.bpm BPM.POOL_CFG p) 9 2 ∧
        q.share = Word.bit (s.reg Page.bpm BPM.POOL_CFG p) 8 ∧
        (∀ f, q.fb = some f → ∃ q', u.pool f = some q' ∧ q.cls < q'.cls) ∧
        ∀ b, b < 4 → ∀ e, e = q.ext.getD b (0, 0) → e.2 = s.fld Page.bpm BPM.POOL_EXT_BUFFERS (4 * p + b) ∧
          e.1 % classCells q.cls = 0 ∧ 327680 * b ≤ e.1 ∧ e.1 + e.2 * classCells q.cls ≤ 327680 * (b + 1) ∧
          ∀ p' q' e', p < p' → p' < 16 → u.pool p' = some q' → e' = q'.ext.getD b (0, 0) → 0 < e.2 →
            e.1 + e.2 * classCells q.cls ≤ e'.1) ∧
      ∀ k l, u.carve.sets.getD k none = some l → l.length = 4 ∧ ∀ p, p ∈ l → (u.pool p).isSome = true) ∧
    (s.carveReason ≠ 0 → ∃ u, exec (.carveApply r data) s = .next u ∧ u.carve = s.carve ∧
      u.flag Page.bpm BPM.CARVE_STATUS_REFUSED = true ∧ u.fld Page.bpm BPM.CARVE_STATUS_REASON = s.carveReason ∧
      (s.powered Page.bpm = true → u.raised Page.bpm BPM.S_CARVE_REFUSED = true) ∧
      s.Aside u (fun a => a = slotAddr Page.bpm BPM.CARVE_STATUS 0)) ∧
    (s.alloc ≠ [] ∨ s.fld Page.bpm TB.PAGE_STATE_STATE ≠ 2 → s.carveReason ≠ 0)) ∧
  (∀ (s : State) (r : Req) (data : Word) (n : Nat), s.accepts r Page.bpm BPM.PSET_CMD 0 true = true → n = Word.bits data 0 12 →
    (Word.bit data 47 = false → ∃ u, exec (.psetRead r data) s = .next u ∧
      u.fld Page.bpm BPM.PSET_DATA_SET = s.psets.get n 0 % 16 ∧ s.Aside u (fun a => a = slotAddr Page.bpm BPM.PSET_DATA 0)) ∧
    (Word.bit data 47 = true → ∃ u, exec (.psetWrite r data) s = .next u ∧
      u.psets.get n 0 = s.fld Page.bpm BPM.PSET_DATA_SET ∧ ∀ m, m ≠ n → u.psets.get m 0 = s.psets.get m 0)) ∧
  (∀ (s : State) (r : Req) (data : Word) (new old : Nat), s.accepts r Page.bpm BPM.ISLAND_CTL 0 false = true → r.size ≠ .hi →
    new = Word.bits data 1 3 → old = s.fld Page.bpm BPM.ISLAND_CTL_ENABLE →
    (s.minSum 4096 ≤ 327680 → ∃ u, exec (.islandCtlWrite r data) s = .next u ∧ u.fld Page.bpm BPM.ISLAND_CTL_ENABLE = new ∧
      u.islandGrants 0 = s.islandGrants 0 ∧
      ∀ b, 1 ≤ b → b ≤ 3 → (Nat.bitAt new (b - 1) = false → u.islandGrants b = false ∧ u.islandServes b = s.islandServes b ∧
          ∀ q : Pool, u.freeIn q b = 0) ∧
        (Nat.bitAt new (b - 1) = true → u.islandGrants b = true ∧ u.islandServes b = true)) ∧
    (new = 0 → old ≠ 0 → 327680 < s.minSum 4096 → ∃ u, exec (.islandCtlWrite r data) s = .next u ∧
      u.fld Page.bpm BPM.ISLAND_CTL_ENABLE = old ∧ (s.powered Page.bpm = true → u.raised Page.bpm BPM.S_CARVE_REFUSED = true))) ∧
  ∀ (s : State) (b : Fin 4), s.powered Page.bpm = true →
    (1 ≤ b.val → s.islandServes b = true → Nat.bitAt (s.fld Page.bpm BPM.ISLAND_CTL_ENABLE) (b - 1) = false →
      (∀ c, s.alloc.get c false = true → islandOf c ≠ b.val) → Tab.wf s.alloc (fun _ => false) = true → s.quarantine = [] →
      ∃ u, exec (.islandOut b) s = .next u ∧ u.islandServes b = false ∧ u.raised Page.bpm BPM.S_ISLAND_OUT = true ∧
        ∀ c : Fin 4, c ≠ b → u.islandServes c = s.islandServes c) ∧
    ((b = 0 ∨ s.islandGrants b = true ∨ ∃ c, s.alloc.get c false = true ∧ islandOf c = b.val) →
      ∃ u, exec (.islandOut b) s = .next u ∧ s.Aside u (fun _ => False))

/-- BUFFER_FREE, LEAK_AUDIT, BUFFER_ROW_TEST, ROW_READMIT and BPM_META_SCRUB complete (tier 2; R461, R467, R469, R470, R472, R473): a
double free changes no buffer and is recorded; after the audit of a pool whose counts differ, every allocated buffer of the pool is
held by a chain. The model's readings that it may rest on are its own: assumption 59. -/
def Obligations.BufferFrees : Prop :=
  (∀ (s : State) (kind : Fin 8) (unit : Fin 32) (cell p c : Nat), s.bufferOf cell = some (p, c) → s.powered Page.bpm = true →
    (s.alloc.get c false = false → ∃ u, exec (.bufferFree kind unit cell false) s = .next u ∧ u.alloc = s.alloc ∧ u.chains = s.chains ∧
      u.raised Page.bpm BPM.S_DOUBLE_FREE = true ∧
      u.reg Page.bpm BPM.C_DOUBLE_FREES = BitVec.ofNat 48 ((s.reg Page.bpm BPM.C_DOUBLE_FREES).toNat + 1) ∧
      (s.flag Page.bpm BPM.DFREE_REC_VALID = true → u.reg Page.bpm BPM.DFREE_REC = s.reg Page.bpm BPM.DFREE_REC) ∧
      (s.flag Page.bpm BPM.DFREE_REC_VALID = false →
        u.reg Page.bpm BPM.DFREE_REC = BitVec.ofNat 48 (2 ^ 47 + kind * 2 ^ 44 + unit * 2 ^ 39 + p * 2 ^ 21 + c)) ∧
      s.Aside u (fun a => a = slotAddr Page.bpm BPM.C_DOUBLE_FREES 0 ∨ a = slotAddr Page.bpm BPM.DFREE_REC 0)) ∧
    (s.alloc.get c false = true → ∃ u, exec (.bufferFree kind unit cell false) s = .next u ∧ u.alloc.get c false = false ∧
      (∀ d, d ≠ c → u.alloc.get d false = s.alloc.get d false) ∧ u.chains = s.chains ∧
      u.reg Page.bpm BPM.C_DOUBLE_FREES = s.reg Page.bpm BPM.C_DOUBLE_FREES) ∧
    (∀ n q pcl, s.alloc.get c false = true → s.chainHolding c = some n → s.pool p = some q → (s.chainOf n).parcel = some pcl →
      pcl < 4096 → ∃ u, exec (.bufferFree kind unit cell true) s = .next u ∧ u.alloc.get c false = false ∧
        c ∉ (u.chainOf n).bufs ∧ u.charge pcl = s.charge pcl - classCells q.cls)) ∧
  (∀ (s : State) (p : Nat) (held : List Nat) (mine : Nat → Bool), p < 16 →
    held = s.chains.flatMap (fun (e : Nat × Chain) => e.2.bufs) → (∀ c, mine c = ((s.bufferOf c).map (·.1) == some p)) →
    ((s.alloc.map (·.1)).filter mine).length ≠ (held.filter mine).length → s.powered Page.bpm = true →
    ∃ u, exec .leakAudit s = .next u ∧ u.chains = s.chains ∧ u.raised Page.bpm BPM.S_LEAK_SUSPECT = true ∧
      (∀ c, u.alloc.get c false = true → mine c = true → c ∈ held) ∧
      (∀ c, c ∈ held → u.alloc.get c false = s.alloc.get c false) ∧
      ∀ c, c ∈ held → mine c = true → s.alloc.get c false = false → c ∈ u.refFree) ∧
  (∀ s : State, s.alloc = [] → s.chains = [] → ∃ u, exec .leakAudit s = .next u ∧ u.alloc = [] ∧ u.refFree = s.refFree ∧
    ∀ p, p < 16 → u.fld Page.bpm BPM.POOL_AUDIT_ALLOCATED p = 0 ∧ u.fld Page.bpm BPM.POOL_AUDIT_REFERENCED p = 0) ∧
  (∀ (s : State) (row : Nat), row ∈ s.quarantine → s.powered Page.bpm = true →
    (s.rowBusy row = false →
      (∃ u, exec (.bufferRowTest row true) s = .next u ∧ row ∉ u.quarantine ∧ u.retired = s.retired ∧ u.alloc = s.alloc) ∧
      ∃ u, exec (.bufferRowTest row false) s = .next u ∧ row ∉ u.quarantine ∧ u.retired = s.retired ++ [row] ∧
        u.raised Page.bpm BPM.S_ROW_RETIRED = true ∧
        u.reg Page.bpm BPM.C_ROWS_RETIRED = BitVec.ofNat 48 ((s.reg Page.bpm BPM.C_ROWS_RETIRED).toNat + 1)) ∧
    (s.rowBusy row = true → ∀ pass, ∃ u, exec (.bufferRowTest row pass) s = .next u ∧ u.quarantine = s.quarantine ∧
      u.retired = s.retired)) ∧
  (∀ (s : State) (r : Req) (data : Word) (pass : List Nat), s.accepts r Page.bpm BPM.ROW_CMD 0 true = true →
    Word.bit data 0 = true → ∃ u, exec (.rowReadmit r data pass) s = .next u ∧ u.quarantine = s.quarantine ∧ u.alloc = s.alloc ∧
      (∀ x, x ∈ u.retired ↔ x ∈ s.retired ∧ x ∉ pass) ∧ u.fld Page.bpm BPM.ROW_STATUS_RETIRED = u.retired.length % 2 ^ 17) ∧
  ∀ s : State, (∃ u, exec (.bpmMetaScrub .clean) s = .next u ∧ s.Aside u (fun _ => False)) ∧
    (∃ u, exec (.bpmMetaScrub .fixed) s = .next u ∧
      u.reg Page.bpm BPM.C_META_FIXED = BitVec.ofNat 48 ((s.reg Page.bpm BPM.C_META_FIXED).toNat + 1) ∧
      s.Aside u (fun a => a = slotAddr Page.bpm BPM.C_META_FIXED 0)) ∧
    (s.powered Page.bpm = true → ∃ u, exec (.bpmMetaScrub .lost) s = .next u ∧ u.raised Page.bpm BPM.S_META_MEM_FAIL = true ∧
      s.Aside u (fun _ => False))

/-! ## The traffic manager (15_traffic_manager.md) -/

/-- PACKET_ADMISSION completes (tier 2; R430, R455 to R459, R476, R478 to R480, R483): the checks of R479 in order for a packet of a
unicast queue that its parcel may use and that spills, marks and launches nothing. An admitted packet stands at the end of its queue with a
descriptor and buffers that were all free, charged to its parcel; a refused one is counted where its check says. The model's readings that
it may rest on are its own: assumptions 55, 58. -/
def Obligations.Admission : Prop :=
  (∀ (s : State) (c n : Nat) (g u f a : Int), g = max 0 (min (s.charge c + n) (s.pclFld c PCL.BUF_QUOTA_MIN_CELLS) - s.charge c) → u = n - g →
    f = s.freeCells - n - (s.reserve - g) → a = s.charge c + n - s.pclFld c PCL.BUF_QUOTA_MIN_CELLS → g ≤ s.reserve →
    (s.shareCheck c n 0 = 0 ↔ s.charge c + n ≤ s.pclFld c PCL.BUF_QUOTA_MAX_CELLS ∧
      (u = 0 ∨ 0 ≤ f ∧ a * 256 ≤ 2 ^ s.fld Page.bpm BPM.BPM_CFG_ALPHA * f))) ∧
  ∀ (s : State) (id n p lp free : Nat) (x : Pkt), x = s.pkt id → x.stage = .admission → s.isFirst x = true → s.tmRuns = true → x.stake = none →
    free = s.fld Page.tmc TMC.DESC_STATUS_FREE → id < s.nextPkt →
    (∀ k size, x.kind ≠ 2 → x.fwdKind = 0 → x.fwdIndex = lp → lp < 768 → x.tc < 16 → n = 16 * lp + x.tc → p = x.parcel → p < 4096 →
      nodeParcel (s.nodeWord (s.qNode n) 0) = p ∨ nodeParcel (s.nodeWord (s.qNode n) 0) = 0 → x.desc = false → x.chain = 0 →
      size = x.bytes.length → s.flag Page.dtm DTM.LAUNCH_CFG_EN = false → Word.bit (s.qWord n 3) 47 = false → s.ovfEn n = false →
      (s.queue n).spilling = false →
      (s.pstate lp < 2 → ∃ u, exec (.packetAdmission id none) s = .next u ∧ u.pkt id = dflt.pkt ∧ u.queues = s.queues ∧
        u.chains = s.chains ∧
        u.reg (Page.tmw lp) TMW.C_DROP_PORT_DOWN = BitVec.ofNat 48 ((s.reg (Page.tmw lp) TMW.C_DROP_PORT_DOWN).toNat + 1)) ∧
      (2 ≤ s.pstate lp → free = 0 → ∃ u, exec (.packetAdmission id none) s = .next u ∧ u.pkt id = dflt.pkt ∧ u.queues = s.queues ∧
        u.reg Page.tmc TMC.C_DROP_NO_DESC = BitVec.ofNat 48 ((s.reg Page.tmc TMC.C_DROP_NO_DESC).toNat + 1) ∧
        (s.powered Page.tmc = true → u.raised Page.tmc TMC.S_DESC_EXHAUSTED = true)) ∧
      (2 ≤ s.pstate lp → 0 < free → s.queueLimit n x k k = .refused → (s.buffersFor id p size size).cells size = k →
        ∃ u, exec (.packetAdmission id none) s = .next u ∧ u.pkt id = dflt.pkt ∧ u.chains = s.chains ∧ u.queue n = s.queue n ∧
          u.reg (Page.tmw lp) TMW.C_Q_DROPS x.tc = BitVec.ofNat 48 ((s.reg (Page.tmw lp) TMW.C_Q_DROPS x.tc).toNat + 1) ∧
          u.fld Page.tmc TMC.DESC_STATUS_FREE = free) ∧
      (∀ met, 2 ≤ s.pstate lp → 0 < free → s.buffersFor id p size size = .exhausted met →
        s.queueLimit n x ((size + 255) / 256) 0 = .ok → s.powered Page.bpm = true →
        ∃ u, exec (.packetAdmission id none) s = .next u ∧ u.pkt id = dflt.pkt ∧ u.chains = s.chains ∧
          u.raised Page.bpm BPM.S_CHAIN_EXHAUSTED = true ∧
          (s.pclFld p PCL.PARCEL_CFG_STRICT = 1 → met = false →
            u.reg Page.bpm BPM.C_DROP_STRICT_POOL = BitVec.ofNat 48 ((s.reg Page.bpm BPM.C_DROP_STRICT_POOL).toNat + 1)) ∧
          (s.pclFld p PCL.PARCEL_CFG_STRICT = 0 ∨ met = true →
            u.reg Page.bpm BPM.C_DROP_NO_BUFFER = BitVec.ofNat 48 ((s.reg Page.bpm BPM.C_DROP_NO_BUFFER).toNat + 1))) ∧
      (∀ pn, 2 ≤ s.pstate lp → 0 < free → s.buffersFor id p size size = .fresh pn k → s.queueLimit n x k k = .ok →
        (s.shareCheck p k 0 = 1 → ∃ u, exec (.packetAdmission id none) s = .next u ∧ u.pkt id = dflt.pkt ∧ u.charge p = s.charge p ∧
          u.slot (parcelCtr p 0x028) = BitVec.ofNat 48 ((s.slot (parcelCtr p 0x028)).toNat + 1)) ∧
        (s.shareCheck p k 0 = 2 → ∃ u, exec (.packetAdmission id none) s = .next u ∧ u.pkt id = dflt.pkt ∧ u.charge p = s.charge p ∧
          u.reg Page.bpm BPM.C_DROP_SHARE = BitVec.ofNat 48 ((s.reg Page.bpm BPM.C_DROP_SHARE).toNat + 1)) ∧
        (s.shareCheck p k 0 = 0 → ∃ u c, exec (.packetAdmission id none) s = .next u ∧ (u.pkt id).stage = .queued ∧
          (u.pkt id).queue = n ∧ (u.pkt id).parcel = p ∧ (u.pkt id).bytes = x.bytes ∧ (u.pkt id).desc = true ∧ (u.pkt id).chain = c + 1 ∧
          (u.queue n).ready = (s.queue n).ready ++ [id] ∧ (u.queue n).cells = (s.queue n).cells + k ∧
          (∀ m, m ≠ n → u.queue m = s.queue m) ∧ (∀ i, i ≠ id → u.pkt i = s.pkt i) ∧ u.charge p = s.charge p + k ∧
          u.fld Page.tmc TMC.DESC_STATUS_FREE = free - 1 ∧ (u.chainOf c).cells = k ∧ (u.chainOf c).pool = pn ∧
          (u.chainOf c).parcel = some p ∧ (u.chainOf c).refs = [id] ∧ (u.chainOf c).bufs.Nodup ∧
          (∀ q : Pool, s.pool pn = some q → (∀ i j, i < j → j < 4 → (q.ext.getD i (0, 0)).1 + (q.ext.getD i (0, 0)).2 * classCells q.cls ≤
            (q.ext.getD j (0, 0)).1) → (u.chainOf c).bufs.length * classCells q.cls = k) ∧
          ∀ b, b ∈ (u.chainOf c).bufs → s.alloc.get b false = false ∧ u.alloc.get b false = true))) ∧
    (x.kind ≠ 2 → x.fwdKind = 1 → s.replQ.length < 65536 → ∃ u, exec (.packetAdmission id none) s = .next u ∧ u.replQ = s.replQ ++ [id] ∧
      (u.pkt id).stage = .repl) ∧
    (x.kind ≠ 2 → x.fwdKind = 1 → 65536 ≤ s.replQ.length → x.chain = 0 → ∃ u, exec (.packetAdmission id none) s = .next u ∧
      u.replQ = s.replQ ∧ u.pkt id = dflt.pkt ∧
      u.reg Page.tmc TMC.C_REPL_DROPS = BitVec.ofNat 48 ((s.reg Page.tmc TMC.C_REPL_DROPS).toNat + 1)) ∧
    (x.kind ≠ 2 → x.fwdKind = 2 → s.inService Page.spr = true →
      (Word.bit (s.entWord spSpray 0 x.fwdIndex 0) 47 = false ∨ s.groupMembers x.fwdIndex = [] → x.chain = 0 →
        ∃ u, exec (.packetAdmission id none) s = .next u ∧ u.pkt id = dflt.pkt ∧
          u.reg Page.spr SPR.C_SPRAY_EMPTY_DROPS = BitVec.ofNat 48 ((s.reg Page.spr SPR.C_SPRAY_EMPTY_DROPS).toNat + 1)) ∧
      ∃ u, exec (.packetAdmission id none) s = .next u ∧ (u.admitted id = false → u.ents = s.ents) ∧
        (u.admitted id = true → ∃ ctx seq, (u.pkt id).outShim = some (ctx, seq) ∧
          seq = Word.bits (s.entWord spSendSeq 0 (ctx % 2 ^ 16) 0) 0 24 ∧
          Word.bits (u.entWord spSendSeq 0 (ctx % 2 ^ 16) 0) 0 24 = (seq + 1) % 2 ^ 24))

/-- REPLICATION, DEQUEUE, AGEING_VISIT, HOLD_EXPIRY and LAUNCH_ELIGIBLE complete (tier 3; R482, R483, R486, R487, R496, R497, R502,
R504): the scheduler of a port with an eligible queue under an open node always finds a frame, and it takes it by strict priority at both
levels; a visit leaves no head frame that is too old; the end of a hold leaves every queue of the port empty. The model's readings that it
may rest on are its own: assumption 60. -/
def Obligations.Scheduling : Prop :=
  (∀ (s : State) (id : Nat) (l : List Nat) (x : Pkt) (w : Word), s.replQ = id :: l → s.tmRuns = true → x = s.pkt id →
    w = s.entWord spGroup 0 x.fwdIndex 0 → id < s.nextPkt →
    (Word.bit w 47 = false → ∃ u, exec .replication s = .next u ∧ u.replQ = l ∧ u.pkt id = dflt.pkt ∧
      u.reg Page.tmc TMC.C_MC_DROPS = BitVec.ofNat 48 ((s.reg Page.tmc TMC.C_MC_DROPS).toNat + 1)) ∧
    (Word.bit w 47 = true → Word.bits w 34 12 = x.parcel ∨ Word.bits w 34 12 = 0 → ∃ u, exec .replication s = .next u ∧ u.replQ = l ∧
      u.pkt id = dflt.pkt ∧
      u.reg Page.tmc TMC.C_COPIES_MADE = BitVec.ofNat 48 ((s.reg Page.tmc TMC.C_COPIES_MADE).toNat +
        ((List.range (u.nextPkt - s.nextPkt)).filter (fun i => u.admitted (s.nextPkt + i))).length) ∧
      ∀ i, s.nextPkt ≤ i → i < u.nextPkt → u.admitted i = true → (u.pkt i).bytes = x.bytes ∧ (u.pkt i).kind = 1 ∧
        ∃ m, Word.bits w 17 17 ≤ m ∧ m < Word.bits w 17 17 + Word.bits w 7 10 ∧ Word.bit (s.entWord spMember 0 m 0) 47 = true ∧
          (Word.bit w 46 = true → x.ring = none → Word.bits (s.entWord spMember 0 m 0) 37 10 ≠ x.lp) ∧
          (u.pkt i).queue = s.mqOf (Word.bits (s.entWord spMember 0 m 0) 37 10) x.tc)) ∧
  (∀ (s : State) (lp : Fin 768) (t : Nat), s.servedBy (lp / 32) = some t → s.tmRuns = true → s.inService (Page.tmw lp) = true →
    (s.eligibleQueues lp = [] → ∃ u, exec (.dequeue lp) s = .next u ∧ s.Aside u (fun _ => False)) ∧
    ((∃ n, n ∈ s.eligibleQueues lp ∧ s.shaperOpen (s.qNode n) (s.nodeWord (s.qNode n) 1) = true) →
      (∀ n id, n ∈ s.eligibleQueues lp → s.headOf n = some id → s.tooOld n (s.pkt id) = false ∧ s.late n (s.pkt id) = false ∧
        s.shapedLen lp id ≤ 17920) →
      ∃ u n id m, exec (.dequeue lp) s = .next u ∧ n ∈ s.eligibleQueues lp ∧ s.headOf n = some id ∧ m = s.qNode n ∧
        s.shaperOpen m (s.nodeWord m 1) = true ∧
        (∀ k, k ∈ s.eligibleQueues lp → s.qNode k = m → Word.bits (s.qWord n 0) 29 3 ≤ Word.bits (s.qWord k 0) 29 3) ∧
        (∀ k, k ∈ s.eligibleQueues lp → s.shaperOpen (s.qNode k) (s.nodeWord (s.qNode k) 1) = true →
          Word.bits (s.nodeWord m 0) 22 3 ≤ Word.bits (s.nodeWord (s.qNode k) 0) 22 3) ∧
        (u.pkt id).stage = .station 12 ∧ (u.pkt id).trav = t ∧ (u.pkt id).outLp = lp ∧ (u.pkt id).bytes = (s.pkt id).bytes ∧
        (∀ i, i ≠ id → u.pkt i = s.pkt i) ∧ (∀ k, k ≠ n → u.queue k = s.queue k) ∧
        (u.queue n).ready = (s.queue n).ready.drop 1 ∧
        (n < 12288 → u.reg (Page.tmw lp) TMW.C_TX_PKTS (n % 16) =
            BitVec.ofNat 48 ((s.reg (Page.tmw lp) TMW.C_TX_PKTS (n % 16)).toNat + 1) ∧
          u.reg (Page.tmw lp) TMW.C_TX_BYTES (n % 16) =
            BitVec.ofNat 48 ((s.reg (Page.tmw lp) TMW.C_TX_BYTES (n % 16)).toNat + (s.pkt id).frameLen)))) ∧
  (∀ (s : State) (n : Fin 16384), (s.queue n).ready.length ≤ s.pkts.length →
    ∃ u, exec (.ageingVisit n) s = .next u ∧ (∀ id, u.headOf n = some id → u.tooOld n (u.pkt id) = false) ∧
      (∃ k, (u.queue n).ready = (s.queue n).ready.drop k) ∧ (∀ k, k ≠ n.val → u.queue k = s.queue k) ∧
      (n < 12288 → u.reg (Page.tmw (n / 16)) TMW.C_AGED (n % 16) =
        BitVec.ofNat 48 ((s.reg (Page.tmw (n / 16)) TMW.C_AGED (n % 16)).toNat + ((s.queue n).ready.length - (u.queue n).ready.length)))) ∧
  (∀ (s : State) (lp : Fin 768), s.powered (Page.tmw lp) = true →
    (s.holdOver lp = true → ∃ u, exec (.holdExpiry lp) s = .next u ∧ (∀ n, s.qLp n = lp → (u.queue n).busy = false) ∧
      (∀ n, s.qLp n ≠ lp → u.queue n = s.queue n) ∧
      u.holdEnds.get lp 0 = 0 ∧ u.raised (Page.tmw lp) TMW.S_HOLD_EXPIRED = true ∧ (s.pstate lp = 2 → u.pstate lp = 1) ∧
      u.reg (Page.tmw lp) TMW.C_HOLD_EXPIRIES = BitVec.ofNat 48 ((s.reg (Page.tmw lp) TMW.C_HOLD_EXPIRIES).toNat + 1)) ∧
    (s.holdOver lp = false → ∃ u, exec (.holdExpiry lp) s = .next u ∧ s.Aside u (fun _ => False))) ∧
  ∀ (s : State) (n : Fin 16384), ∃ u, exec (.launchEligible n) s = .next u ∧ u.queues = s.queues ∧ u.pkts = s.pkts ∧
    (n < 12288 → u.reg (Page.tmw (n / 16)) TMW.Q_STATUS (n % 16) = s.qStatus n)

/-- TMC_IND_READ, TMC_IND_WRITE, Q_CFG_WRITE, PG_CFG_WRITE and TM_SCRUB complete (tier 2; R476, R485, R489, R490, R506, R508): what each
entry accepts, and that a refused write stores nothing. The model's readings that it may rest on are its own: assumption 60. -/
def Obligations.TrafficSettings : Prop :=
  (∀ (s : State) (r : Req) (data : Word) (tgt i : Nat) (d : List Word) (w : Word), s.accepts r Page.tmc TMC.IND_CMD 0 true = true →
    s.flag Page.tmc TMC.IND_STATUS_BUSY = false → tgt = Word.bits data 45 3 → i = Word.bits data 0 17 →
    d = s.indData Page.tmc TMC.IND_DATA 8 → w = d.getD 0 0 →
    (Word.bit data 44 = false →
      (tgt < 6 → i < tmcSize tgt → ∃ u, exec (.tmcIndRead r data) s = .next u ∧ u.fld Page.tmc TMC.IND_STATUS_CODE = 0 ∧ u.ents = s.ents ∧
        u.reg Page.tmc TMC.IND_DATA 0 = s.entWord (tmcSpace tgt) 0 i 0 ∧
        (tgt = 1 → u.reg Page.tmc TMC.IND_DATA 7 = s.qStatus (12288 + i))) ∧
      (6 ≤ tgt → ∃ u, exec (.tmcIndRead r data) s = .next u ∧ u.fld Page.tmc TMC.IND_STATUS_CODE = 1 ∧ u.ents = s.ents) ∧
      (tgt < 6 → tmcSize tgt ≤ i → ∃ u, exec (.tmcIndRead r data) s = .next u ∧ u.fld Page.tmc TMC.IND_STATUS_CODE = 2 ∧
        u.ents = s.ents)) ∧
    (Word.bit data 44 = true →
      (tgt = 0 → i < 65536 → nodeLp w < 768 → shapeRate (d.getD 1 0) ≤ 1600000 →
        (s.nodeNamed i = true → nodeLp w ≠ nodeLp (s.nodeWord i 0) ∨ nodeParcel w ≠ nodeParcel (s.nodeWord i 0) ∨ nodeValid w = false →
          ∃ u, exec (.tmcIndWrite r data) s = .next u ∧ u.fld Page.tmc TMC.IND_STATUS_CODE = 8 ∧ u.ents = s.ents) ∧
        (s.nodeNamed i = false → nodeValid w = true → nodeValid (s.nodeWord i 0) = false →
          s.pclFld (nodeParcel w) PCL.RES_QUOTA_NODES < s.nodesOf (nodeParcel w) + 1 →
          ∃ u, exec (.tmcIndWrite r data) s = .next u ∧ u.fld Page.tmc TMC.IND_STATUS_CODE = 7 ∧ u.ents = s.ents ∧
            (s.powered Page.tmc = true → u.raised Page.tmc TMC.S_NODE_QUOTA = true)) ∧
        (s.nodeNamed i = false → nodeValid w = false ∨ s.nodesOf (nodeParcel w) < s.pclFld (nodeParcel w) PCL.RES_QUOTA_NODES →
          ∃ u, exec (.tmcIndWrite r data) s = .next u ∧ u.fld Page.tmc TMC.IND_STATUS_CODE = 0 ∧
            u.nodeWord i 0 = keep 0xFFFFFFFFC000 w ∧ u.nodeWord i 1 = keep 0xFFFFFFFFF800 (d.getD 1 0) ∧
            ∀ j, j ≠ i → j < 65536 → u.nodeWord j 0 = s.nodeWord j 0)) ∧
      (∀ lp node, tgt = 1 → i < 4096 → lp = Word.bits w 37 10 → node = Word.bits (d.getD 1 0) 32 16 → lp < 768 →
        shapeRate (d.getD 3 0) ≤ 1600000 →
        (s.nodeServes node lp = false → ∃ u, exec (.tmcIndWrite r data) s = .next u ∧ u.ents = s.ents ∧
          (s.powered (Page.tmw lp) = true → u.raised (Page.tmw lp) TMW.S_CFG_REFUSED = true)) ∧
        (s.nodeServes node lp = true → (s.queue (12288 + i)).busy = false → nodeParcel (s.nodeWord node 0) ≠ 0 →
          ∃ u, exec (.tmcIndWrite r data) s = .next u ∧ u.ents = s.ents ∧ u.fld Page.tmc TMC.IND_STATUS_CODE = 6) ∧
        (s.nodeServes node lp = true → (s.queue (12288 + i)).busy = false → nodeParcel (s.nodeWord node 0) = 0 →
          ∃ u, exec (.tmcIndWrite r data) s = .next u ∧ u.fld Page.tmc TMC.IND_STATUS_CODE = 0 ∧ u.qLp (12288 + i) = lp ∧
            u.qNode (12288 + i) = node ∧ u.qValid (12288 + i) = Word.bit w 47)) ∧
      (∀ m, tgt = 2 → i < 6144 → m = Word.bits w 0 12 →
        (s.qValid (12288 + m) = true → s.qLp (12288 + m) = i / 8 → ∃ u, exec (.tmcIndWrite r data) s = .next u ∧
          u.fld Page.tmc TMC.IND_STATUS_CODE = 0 ∧ Word.bits (u.entWord spMqMap 0 i 0) 0 12 = m) ∧
        (s.qValid (12288 + m) = false ∨ s.qLp (12288 + m) ≠ i / 8 → ∃ u, exec (.tmcIndWrite r data) s = .next u ∧
          u.fld Page.tmc TMC.IND_STATUS_CODE = 6 ∧ u.ents = s.ents)) ∧
      (tgt = 3 → i < 16384 →
        (Word.bits w 7 10 ≤ 768 → Word.bits w 17 17 + Word.bits w 7 10 ≤ 131072 → ∃ u, exec (.tmcIndWrite r data) s = .next u ∧
          u.fld Page.tmc TMC.IND_STATUS_CODE = 0 ∧ u.entWord spGroup 0 i 0 = keep 0xFFFFFFFFFF80 w) ∧
        (768 < Word.bits w 7 10 ∨ 131072 < Word.bits w 17 17 + Word.bits w 7 10 → ∃ u, exec (.tmcIndWrite r data) s = .next u ∧
          u.fld Page.tmc TMC.IND_STATUS_CODE = 6 ∧ u.ents = s.ents)) ∧
      (tgt = 4 → Word.bits w 37 10 < 768 → ∃ u, exec (.tmcIndWrite r data) s = .next u ∧
        u.entWord spMember 0 i 0 = keep 0xFFFFFE000000 w) ∧
      (tgt = 5 → i < 256 → Word.bits w 25 10 < 768 → ∃ u, exec (.tmcIndWrite r data) s = .next u ∧
        u.entWord spMirror 0 i 0 = keep 0xFFFFFFFFFE00 w))) ∧
  (∀ (s : State) (r : Req) (n : Fin 12288) (data w : Word) (node : Nat), s.accepts r (Page.tmw (n / 16)) TMW.Q_CFG (n % 16) false = true →
    w = keep 0xFFFFFFF80000 (mergeHalf r.size (s.qWord n 0) data) → node = Word.bits w 32 16 →
    (s.nodeServes node (n / 16) = true → (s.queue n).busy = false ∨ node = s.qNode n → ∃ u, exec (.qCfgWrite r n data) s = .next u ∧
      u.qWord n 0 = w ∧ ∀ m i, m < 12288 → m ≠ n.val ∨ i ≠ 0 → i < 6 → u.qWord m i = s.qWord m i) ∧
    (s.nodeServes node (n / 16) = false ∨ (s.queue n).busy = true ∧ node ≠ s.qNode n → ∃ u, exec (.qCfgWrite r n data) s = .next u ∧
      u.qWord n 0 = s.qWord n 0 ∧ (s.powered (Page.tmw (n / 16)) = true → u.raised (Page.tmw (n / 16)) TMW.S_CFG_REFUSED = true))) ∧
  (∀ (s : State) (r : Req) (lp : Fin 768) (c : Fin 8) (data w : Word), s.accepts r (Page.tmw lp) TMW.PG_CFG c false = true →
    w = keep 0x3FFFFFFFFFF (mergeHalf r.size (s.reg (Page.tmw lp) TMW.PG_CFG c) data) →
    (Word.bits w 0 21 ≤ Word.bits w 21 21 → ∃ u, exec (.pgCfgWrite r lp c data) s = .next u ∧ u.reg (Page.tmw lp) TMW.PG_CFG c = w ∧
      s.Aside u (fun a => a = slotAddr (Page.tmw lp) TMW.PG_CFG c)) ∧
    (Word.bits w 21 21 < Word.bits w 0 21 → ∃ u, exec (.pgCfgWrite r lp c data) s = .next u ∧
      u.reg (Page.tmw lp) TMW.PG_CFG c = s.reg (Page.tmw lp) TMW.PG_CFG c ∧
      (s.powered (Page.tmw lp) = true → u.raised (Page.tmw lp) TMW.S_CFG_REFUSED = true) ∧ s.Aside u (fun _ => False))) ∧
  ∀ s : State, s.powered Page.tmc = true →
    (∃ u, exec (.tmScrub .clean) s = .next u ∧ s.Aside u (fun _ => False)) ∧
    (∃ u, exec (.tmScrub .fixed) s = .next u ∧ u.raised Page.tmc TMC.S_SCRUB_FIXED = true ∧
      u.reg Page.tmc TMC.C_SCRUB_FIXED = BitVec.ofNat 48 ((s.reg Page.tmc TMC.C_SCRUB_FIXED).toNat + 1) ∧
      s.Aside u (fun a => a = slotAddr Page.tmc TMC.C_SCRUB_FIXED 0)) ∧
    ∃ u, exec (.tmScrub .lost) s = .next u ∧ u.raised Page.tmc TMC.S_TM_MEM_FAIL = true ∧ s.Aside u (fun _ => False)

/-! ## Overflow memory (16_overflow_memory.md) -/

/-- CHUNK_WRITE, OPEN_CHUNK_TIMEOUT, CHUNK_READ_LANDED and HBM_SCRUB complete, and packets for a SPILLING queue (tier 2; R499 to R501, R517
to R519, R531, R532): a packet that spills goes behind the queue's tail; a chunk that lands moves its packets from the head of what lies in
overflow memory behind what is ready to leave, so that the queue keeps its order. The model's readings that it may rest on are its own:
assumption 63. -/
def Obligations.SpillAndRefill : Prop :=
  (∀ (s : State) (id n p lp k size : Nat) (x : Pkt) (q : Queue), x = s.pkt id → x.stage = .admission → s.isFirst x = true → s.tmRuns = true →
    x.kind ≠ 2 → x.fwdKind = 0 → x.fwdIndex = lp → lp < 768 → x.tc < 16 → n = 16 * lp + x.tc → p = x.parcel → p < 4096 →
    nodeParcel (s.nodeWord (s.qNode n) 0) = p ∨ nodeParcel (s.nodeWord (s.qNode n) 0) = 0 → x.desc = false → x.chain = 0 →
    s.flag Page.dtm DTM.LAUNCH_CFG_EN = false → Word.bit (s.qWord n 3) 47 = false → 2 ≤ s.pstate lp →
    0 < s.fld Page.tmc TMC.DESC_STATUS_FREE → q = s.queue n → q.spilling = true → size = recordBytes x → k = s.chunksNeeded n size →
    ((0 < k → s.hbmUse p + k ≤ s.pclFld p PCL.HBM_QUOTA_MAX_CHUNKS ∧ q.chunks.length + k ≤ Word.bits (s.qWord n 5) 0 26) →
      s.stagingRoom size k = true → (∀ c, c ∈ q.chunks → c < s.nextChunk) → q.chunks.Nodup →
      ∃ u, exec (.packetAdmission id none) s = .next u ∧ (u.pkt id).stage = .spilled ∧ (u.queue n).spilling = true ∧
        (u.queue n).ready = q.ready ∧ (u.queue n).refill = q.refill ∧ (u.queue n).chunks.length = q.chunks.length + k ∧
        u.spilledOf (u.queue n) = s.spilledOf q ++ [id] ∧ u.hbmUse p = s.hbmUse p + k ∧ u.chunksFree = s.chunksFree - k ∧
        u.reg (Page.tmw lp) TMW.C_SPILLED x.tc = BitVec.ofNat 48 ((s.reg (Page.tmw lp) TMW.C_SPILLED x.tc).toNat + 1)) ∧
    (0 < k → s.pclFld p PCL.HBM_QUOTA_MAX_CHUNKS < s.hbmUse p + k → ∃ u, exec (.packetAdmission id none) s = .next u ∧
      u.pkt id = dflt.pkt ∧ u.queue n = q ∧ u.slot (parcelCtr p 0x030) = BitVec.ofNat 48 ((s.slot (parcelCtr p 0x030)).toNat + 1)) ∧
    ((0 < k → s.hbmUse p + k ≤ s.pclFld p PCL.HBM_QUOTA_MAX_CHUNKS) →
      (0 < k ∧ Word.bits (s.qWord n 5) 0 26 < q.chunks.length + k) ∨ s.stagingRoom size k = false →
      ∃ u, exec (.packetAdmission id none) s = .next u ∧ u.pkt id = dflt.pkt ∧ u.queue n = q ∧
        u.reg (Page.tmw lp) TMW.C_Q_DROPS x.tc = BitVec.ofNat 48 ((s.reg (Page.tmw lp) TMW.C_Q_DROPS x.tc).toNat + 1))) ∧
  (∀ (s : State) (c : Nat) (x : Chunk), x = s.chunkOf c →
    (s.chunkDue c = true → ∃ u, exec (.chunkWrite c) s = .next u ∧ (u.chunkOf c).written = true ∧ (u.chunkOf c).ends = x.ends ∧
      (∀ d, d ≠ c → u.chunkOf d = s.chunkOf d) ∧ (u.queue x.queue).chunks = (s.queue x.queue).chunks ∧
      (∀ id, id ∈ x.ends → (u.pkt id).chain = 0 ∧ (u.pkt id).desc = false ∧ (u.pkt id).stage = (s.pkt id).stage) ∧
      u.reg Page.ovm OVM.C_CHUNKS_WRITTEN = BitVec.ofNat 48 ((s.reg Page.ovm OVM.C_CHUNKS_WRITTEN).toNat + 1) ∧
      u.writeFill = s.writeFill - 1) ∧
    (s.chunkDue c = false → ∃ u, exec (.chunkWrite c) s = .next u ∧ s.Aside u (fun _ => False))) ∧
  (∀ (s : State) (n : Fin 16384) (c : Nat) (q : Queue), q = s.queue n → (s.chunkOf c).queue = n →
    (q.opened = true → q.chunks.getLast? = some c → (s.chunkOf c).written = false → s.hbmUp = true → (s.chunkOf c).since + 2 ≤ s.time.us →
      ∃ u, exec (.openChunkTimeout n) s = .next u ∧ (u.chunkOf c).written = true ∧ (u.queue n).opened = false ∧
        (u.queue n).chunks = q.chunks) ∧
    (q.opened = false → ∃ u, exec (.openChunkTimeout n) s = .next u ∧ s.Aside u (fun _ => False))) ∧
  (∀ (s : State) (n : Fin 16384) (c unit : Nat) (l : List Nat) (q : Queue) (x : Chunk), q = s.queue n → q.chunks = c :: l → q.asked = true →
    x = s.chunkOf c → q.chunks.Nodup → s.refillFill < 4096 → x.written = true →
    s.severity Page.ovm OVM.S_PANIC ≠ 3 → s.severity Page.ovm OVM.S_UE ≠ 3 → s.hbmUp = true → x.parcel < 4096 →
    (∃ u, exec (.chunkReadLanded n .clean unit) s = .next u ∧ (u.queue n).chunks = l ∧ (u.queue n).ready = q.ready ++ x.ends ∧
      (u.queue n).ready ++ u.spilledOf (u.queue n) = q.ready ++ s.spilledOf q ∧ ((u.queue n).spilling = true ↔ l ≠ []) ∧
      (∀ id, id ∈ x.ends → (u.pkt id).stage = .refill) ∧ u.hbmUse x.parcel = s.hbmUse x.parcel - 1 ∧
      u.reg Page.ovm OVM.C_CHUNKS_READ = BitVec.ofNat 48 ((s.reg Page.ovm OVM.C_CHUNKS_READ).toNat + 1)) ∧
    (∀ id, id ∈ x.ends → ∃ u, exec (.chunkReadLanded n (.bytes id) unit) s = .next u ∧ (u.queue n).ready = q.ready ++ x.ends ∧
      (u.pkt id).tagBad = true ∧ u.reg Page.ovm OVM.C_UE = BitVec.ofNat 48 ((s.reg Page.ovm OVM.C_UE).toNat + 1)) ∧
    (∀ kept, s.powered Page.ovm = true → x.begins = false → ∃ u, exec (.chunkReadLanded n (.header kept) unit) s = .next u ∧
      u.raised Page.ovm OVM.S_UE = true) ∧
    (l ≠ [] → s.powered Page.ovm = true → ∃ u, exec (.chunkReadLanded n .chain unit) s = .next u ∧ (u.queue n).chunks = [] ∧
      (u.queue n).spilling = false ∧ (u.queue n).epoch = (q.epoch + 1) % 2 ^ 16 ∧ (u.queue n).ready = q.ready ++ x.ends ∧
      u.raised Page.ovm OVM.S_CHAIN_LOST = true)) ∧
  (∀ (s : State) (n : Fin 16384) (found : ChunkFound) (unit : Nat), (s.queue n).asked = false ∨ 4096 ≤ s.refillFill →
    s.isHalted Page.ovm = false → ∃ u, exec (.chunkReadLanded n found unit) s = .next u ∧ s.Aside u (fun _ => False)) ∧
  ∀ s : State, s.hbmUp = true →
    (∃ u, exec (.hbmScrub [] false) s = .next u ∧ u.queues = s.queues ∧ (∀ e, e ∈ u.hbmChunks → u.staleChunk e.1 = false) ∧
      (∀ c, s.staleChunk c = false → u.chunkOf c = s.chunkOf c) ∧
      u.reg Page.ovm OVM.C_SCRUB_PASSES = BitVec.ofNat 48 ((s.reg Page.ovm OVM.C_SCRUB_PASSES).toNat + 1) ∧
      u.reg Page.ovm OVM.C_RECLAIMED = BitVec.ofNat 48 ((s.reg Page.ovm OVM.C_RECLAIMED).toNat +
        ((s.hbmChunks.map (·.1)).filter s.staleChunk).length)) ∧
    (s.powered Page.ovm = true → ∃ u, exec (.hbmScrub [] true) s = .next u ∧ u.raised Page.ovm OVM.S_SCRUB_LATE = true) ∧
    ∀ f : HbmFound, f.fixed = true → ∃ u, exec (.hbmScrub [f] false) s = .next u ∧
      u.reg Page.ovm OVM.C_CE_FIXED = BitVec.ofNat 48 ((s.reg Page.ovm OVM.C_CE_FIXED).toNat + 1)

/-- STACK_TRAINED, LAYOUT_APPLY, REFRESH_DUE, STACK_TEMP_SAMPLE, RES_APPLY, RELOCATION_DONE, STACK_INTERFACE_LOSS, WRITE_BURST and
HBM_ROW_SELFTEST complete (tier 2; R511, R513, R514, R523, R524, R527, R528, R530, R533 to R535): effective reservations never exceed the
budget, and no class is cut before those that go before it have nothing left. The model's readings that it may rest on are its own:
assumption 64. -/
def Obligations.Reservations : Prop :=
  (∀ (a b c d e bud : Nat) (v : List Nat), v = effective [a, b, c, d, e] bud → v.length = 5 ∧
    (a + b + c + d + e ≤ bud → v = [a, b, c, d, e]) ∧ v.foldl (· + ·) 0 ≤ bud ∧
    v.getD 0 0 ≤ a ∧ v.getD 1 0 ≤ b ∧ v.getD 2 0 ≤ c ∧ v.getD 3 0 ≤ d ∧ v.getD 4 0 ≤ e ∧
    (v.getD 2 0 < c → v.getD 3 0 = 0 ∧ v.getD 4 0 = 0) ∧ (v.getD 0 0 < a → v.getD 2 0 = 0 ∧ v.getD 3 0 = 0 ∧ v.getD 4 0 = 0) ∧
    (v.getD 1 0 < b → v.getD 0 0 = 0 ∧ v.getD 2 0 = 0 ∧ v.getD 3 0 = 0 ∧ v.getD 4 0 = 0)) ∧
  (∀ (s : State) (r : Req) (data : Word) (l : List Nat), s.accepts r Page.ovm OVM.RES_CMD 0 true = true → Word.bit data 0 = true →
    l = (List.range 5).map (fun i => s.fld Page.ovm OVM.RES_RESERVED i) →
    (l.foldl (· + ·) 0 ≤ s.budget → ∃ u, exec (.resApply r data) s = .next u ∧ u.reserved = l ∧
      u.flag Page.ovm OVM.RES_STATUS_RES_ERR = false ∧ ∀ i, i < 5 → u.fld Page.ovm OVM.RES_EFFECTIVE i = s.fld Page.ovm OVM.RES_RESERVED i) ∧
    (s.budget < l.foldl (· + ·) 0 → ∃ u, exec (.resApply r data) s = .next u ∧ u.reserved = s.reserved ∧
      u.flag Page.ovm OVM.RES_STATUS_RES_ERR = true ∧ (s.powered Page.ovm = true → u.raised Page.ovm OVM.S_RES_REFUSED = true) ∧
      ∀ i, i < 5 → u.fld Page.ovm OVM.RES_EFFECTIVE i = s.fld Page.ovm OVM.RES_EFFECTIVE i)) ∧
  (∀ (s : State) (r : Req) (data : Word) (t f d : Nat), s.accepts r Page.ovm OVM.LAYOUT_CMD 0 true = true → Word.bit data 0 = true →
    t = s.fld Page.ovm OVM.LAYOUT_TBL_UNITS → f = s.fld Page.ovm OVM.LAYOUT_FLOW_UNITS → d = s.fld Page.ovm OVM.LAYOUT_DUMP_UNITS →
    (s.layoutReason = 0 → ∃ u, exec (.layoutApply r data) s = .next u ∧ u.tblUnits = t ∧ u.flowUnits = f ∧ u.dumpUnits = d ∧
      t ≤ 64 ∧ f ≤ 64 ∧ d ≤ 64 ∧ u.flag Page.ovm OVM.LAYOUT_STATUS_REFUSED = false ∧
      ((∀ h, h < 4 → s.stackRetired h = 0) → u.fld Page.ovm OVM.LAYOUT_STATUS_CHUNKS * 128 + (t * 3 + f + d) * (256 + 18) * 16384 = 96 * 2 ^ 26) ∧
      u.fld Page.ovm OVM.CHUNKS_FREE_FREE = u.fld Page.ovm OVM.LAYOUT_STATUS_CHUNKS) ∧
    (s.layoutReason ≠ 0 → ∃ u, exec (.layoutApply r data) s = .next u ∧ u.tblUnits = s.tblUnits ∧ u.flowUnits = s.flowUnits ∧
      u.dumpUnits = s.dumpUnits ∧ u.flag Page.ovm OVM.LAYOUT_STATUS_REFUSED = true ∧
      u.fld Page.ovm OVM.LAYOUT_STATUS_REASON = s.layoutReason ∧
      (s.powered Page.ovm = true → u.raised Page.ovm OVM.S_LAYOUT_REFUSED = true))) ∧
  (∀ (s : State) (h : Fin 4), (s.domainUp (24 + h) = true → ∃ u, exec (.stackTrained h) s = .next u ∧
      u.flag Page.ovm OVM.STACK_STATUS_TRAINED h = true ∧
      ((∀ i, i < 4 → s.domainUp (24 + i) = true ∧ (i ≠ h.val → s.flag Page.ovm OVM.STACK_STATUS_TRAINED i = true)) →
        s.fld Page.ovm TB.PAGE_STATE_STATE = 1 → (s.pg Page.ovm).heldH = 0 → u.fld Page.ovm TB.PAGE_STATE_STATE = 2)) ∧
    (s.domainUp (24 + h) = false → ∃ u, exec (.stackTrained h) s = .next u ∧ s.Aside u (fun _ => False)) ∧
    (∀ temp : Int, s.domainUp (24 + h) = true → s.flag Page.ovm OVM.STACK_STATUS_TRAINED h = true → s.powered Page.ovm = true →
      (s.thermThresh * 256 < temp → ∃ u, exec (.stackTempSample h temp) s = .next u ∧ u.flag Page.ovm OVM.STACK_STATUS_HOT h = true ∧
        u.fld Page.ovm OVM.STACK_STATUS_TEMP h = unsigned 16 temp ∧
        (s.flag Page.ovm OVM.STACK_STATUS_HOT h = false → u.raised Page.ovm OVM.S_STACK_HOT = true ∧
          u.fld Page.ovm OVM.RES_STATUS_BUDGET = u.budget)) ∧
      (temp ≤ (s.thermThresh - 5) * 256 → ∃ u, exec (.stackTempSample h temp) s = .next u ∧
        u.flag Page.ovm OVM.STACK_STATUS_HOT h = false) ∧
      ((s.thermThresh - 5) * 256 < temp → temp ≤ s.thermThresh * 256 → ∃ u, exec (.stackTempSample h temp) s = .next u ∧
        u.flag Page.ovm OVM.STACK_STATUS_HOT h = s.flag Page.ovm OVM.STACK_STATUS_HOT h)) ∧
    (s.flag Page.ovm OVM.STACK_STATUS_TRAINED h = true → s.powered Page.ovm = true → ∃ u, exec (.stackInterfaceLoss h) s = .next u ∧
      u.flag Page.ovm OVM.STACK_STATUS_TRAINED h = false ∧ u.raised Page.ovm OVM.S_HBM_LOST = true ∧
      ∀ n, (u.queue n).spilling = false ∧ ((s.queue n).spilling = true → (u.queue n).chunks = [] ∧ (u.queue n).ready = (s.queue n).ready)) ∧
    (∃ u, exec (.relocationDone h) s = .next u ∧ u.relocating = s.relocating.set h false ∧
      u.flag Page.ovm OVM.STACK_STATUS_RELOCATING h = false)) ∧
  (∀ (s : State) (pc : Fin 256) (bank k n : Nat), bank < 256 → k = pc * 256 + bank → n = s.postponed.get k 0 →
    (∃ u, exec (.refreshDue pc bank false) s = .next u ∧ u.postponed.get k 0 = 0) ∧
    (n < 8 → ∃ u, exec (.refreshDue pc bank true) s = .next u ∧ u.postponed.get k 0 = n + 1) ∧
    (8 ≤ n → ∃ u, exec (.refreshDue pc bank true) s = .next u ∧ u.postponed = s.postponed ∧
      u.reg Page.ovm OVM.C_REFRESH_FORCED = BitVec.ofNat 48 ((s.reg Page.ovm OVM.C_REFRESH_FORCED).toNat + 1))) ∧
  ∀ (s : State) (pc : Fin 256),
    (∀ held, s.pcRetired pc = false → ∃ u, exec (.writeBurst pc held) s = .next u ∧
      u.reg Page.ovm OVM.C_HAZARD_WAITS = BitVec.ofNat 48 ((s.reg Page.ovm OVM.C_HAZARD_WAITS).toNat + held) ∧
      s.Aside u (fun a => a = slotAddr Page.ovm OVM.C_HAZARD_WAITS 0)) ∧
    (∀ readable, s.isHalted Page.ovm = false → ∃ u, exec (.hbmRowSelftest pc true readable) s = .next u ∧ s.Aside u (fun _ => False)) ∧
    (∀ readable all, all = s.stackRetired 0 + s.stackRetired 1 + s.stackRetired 2 + s.stackRetired 3 → s.pcRetired pc = false →
      s.powered Page.ovm = true →
      (s.stackRetired (pc / 64) < 8 → all < 16 → ∃ u, exec (.hbmRowSelftest pc false readable) s = .next u ∧ u.pcRetired pc = true ∧
        (∀ q : Fin 256, q ≠ pc → u.pcRetired q = s.pcRetired q) ∧ u.stackRetired (pc / 64) = s.stackRetired (pc / 64) + 1 ∧
        u.raised Page.ovm OVM.S_PC_RETIRED = true ∧ u.fld Page.ovm OVM.RES_STATUS_BUDGET = u.budget ∧
        u.reg Page.ovm OVM.C_RETIREMENTS = BitVec.ofNat 48 ((s.reg Page.ovm OVM.C_RETIREMENTS).toNat + 1)) ∧
      (8 ≤ s.stackRetired (pc / 64) ∨ 16 ≤ all → ∃ u, exec (.hbmRowSelftest pc false readable) s = .next u ∧
        (∀ q : Fin 256, u.pcRetired q = s.pcRetired q) ∧ u.raised Page.ovm OVM.S_HBM_LOST = true))

/-! ## The datums (17_datum.md) -/

/-- W_SET, DATUM_STEP, DATUM_ARM, DATUM_ADJ_WRITE, DATUM_RATE_WRITE, DATUM_ENABLE and DATUM_CHANGE_EFFECT complete (tier 2; R541 to
R544): a change is only recorded when it reaches the page, with the instant R544 gives it, and moves a datum when that instant has come.
Whatever changes come due, none but the one set of W moves W. The model's readings that it may rest on are its own: assumption 65. -/
def Obligations.DatumChanges : Prop :=
  (∀ (s : State) (r : Req) (data : Word) (ns v last : Nat), s.accepts r Page.dtm DTM.W_CMD 0 true = true → Word.bit data 0 = true →
    ns = s.fld Page.dtm DTM.W_SET_NS_NS → v = datumOf (s.fld Page.dtm DTM.W_SET_SEC_SECONDS) ns (s.fld Page.dtm DTM.W_SET_NS_FRAC) →
    last = datumOf (s.fld Page.dtm DTM.W_LAST_SEC_SECONDS) (s.fld Page.dtm DTM.W_LAST_NS_NS) (s.fld Page.dtm DTM.W_LAST_NS_FRAC) →
    (Word.bits data 1 2 = 0 → s.datums.used = false → ns < 1000000000 → last ≤ v →
      s.flag Page.dtm DTM.DTM_STATUS_W_SET = false → ∃ u, exec (.wSet r data) s = .next u ∧ u.datums.used = true ∧
      u.datums.changes = s.datums.changes ++ [(true, s.time.us + 2, .set v)] ∧ u.time = s.time) ∧
    (s.datums.used = true ∨ Word.bits data 1 2 = 3 ∨ Word.bits data 1 2 = 0 ∧ (1000000000 ≤ ns ∨ v < last) ∨
        Word.bits data 1 2 = 1 ∧ s.dOn false = false ∨ Word.bits data 1 2 = 2 ∧ s.dOn true = false →
      ∃ u, exec (.wSet r data) s = .next u ∧ u.datums = s.datums ∧
        (s.powered Page.dtm = true → u.raised Page.dtm DTM.S_W_SET_REFUSED = true) ∧ s.Aside u (fun _ => False))) ∧
  (∀ (s : State) (r : Req) (b : Bool) (data : Word) (i ns frac sec : Nat), i = dIx b → s.accepts r Page.dtm DTM.D_CMD i true = true →
    ns = s.fld Page.dtm DTM.STEP_NS_NS i → frac = s.fld Page.dtm DTM.STEP_NS_FRAC i → sec = s.fld Page.dtm DTM.STEP_SEC_SECONDS i →
    s.powered Page.dtm = true →
    (Word.bit data 0 = true → s.flag Page.dtm DTM.D_STATUS_ARMED i = true ∨ Word.bit data 1 = true → ns < 1000000000 →
      ∃ u k e, exec (.datumStep r b data) s = .next u ∧ u.flag Page.dtm DTM.D_STATUS_ARMED i = false ∧
        u.flag Page.dtm DTM.D_STATUS_STEPPED i = true ∧ u.raised Page.dtm DTM.S_STEPPED = true ∧ u.time = s.time ∧
        u.datums.changes = s.datums.changes ++ [(k, e)] ∧
        (Word.bit data 2 = true → e.2 = .put b (datumOf sec ns frac)) ∧
        (Word.bit data 2 = false → e.2 = .step b (signed 48 sec * ((1000000000 * nsUnits : Nat) : Int) + ((datumOf 0 ns frac : Nat) : Int))) ∧
        (k = false → s.time.w + 2 * usUnits ≤ e.1 * usUnits ∧ e.1 * usUnits < s.time.w + 3 * usUnits) ∧
        u.slot (slotAddr Page.dtm (if b then DTM.C_STEPS_B else DTM.C_STEPS_A) 0) =
          BitVec.ofNat 48 ((s.slot (slotAddr Page.dtm (if b then DTM.C_STEPS_B else DTM.C_STEPS_A) 0)).toNat + 1)) ∧
    (Word.bit data 0 = true → Word.bit data 1 = false → s.flag Page.dtm DTM.D_STATUS_ARMED i = false ∨ 1000000000 ≤ ns →
      ∃ u, exec (.datumStep r b data) s = .next u ∧ u.datums = s.datums ∧ u.raised Page.dtm DTM.S_STEP_REFUSED = true ∧
        s.Aside u (fun _ => False)) ∧
    (Word.bit data 0 = false → Word.bit data 1 = true → ∃ u, exec (.datumArm r b data) s = .next u ∧ u.datums = s.datums ∧
      u.flag Page.dtm DTM.D_STATUS_ARMED i = true ∧ u.flag Page.dtm DTM.D_STATUS_STEPPED i = false ∧
      u.raised Page.dtm DTM.S_REARM = true ∧
      u.slot (slotAddr Page.dtm (if b then DTM.C_REARMS_B else DTM.C_REARMS_A) 0) =
        BitVec.ofNat 48 ((s.slot (slotAddr Page.dtm (if b then DTM.C_REARMS_B else DTM.C_REARMS_A) 0)).toNat + 1))) ∧
  (∀ (s : State) (r : Req) (b : Bool) (data w : Word) (i : Nat), i = dIx b →
    (s.accepts r Page.dtm DTM.D_ADJ i false = true → w = mergeHalf r.size (s.reg Page.dtm DTM.D_ADJ i) data →
      ∃ u k n, exec (.datumAdjWrite r b data) s = .next u ∧ u.reg Page.dtm DTM.D_ADJ i = w ∧ u.time = s.time ∧
        u.datums.changes = s.datums.changes ++
          [(k, n, .adjust b (signed 40 (Word.bits w 0 40) * 2 ^ 40) (Nat.min 200 (Nat.max 1 (Word.bits w 40 8))))]) ∧
    (s.accepts r Page.dtm DTM.D_RATE i false = true → w = mergeHalf r.size (s.reg Page.dtm DTM.D_RATE i) data →
      ∃ u k n, exec (.datumRateWrite r b data) s = .next u ∧ u.fld Page.dtm DTM.D_RATE_RATE i = Word.bits w 0 40 ∧ u.time = s.time ∧
        u.datums.changes = s.datums.changes ++ [(k, n, .rate b (signed 40 (Word.bits w 0 40)))]) ∧
    (s.accepts r Page.dtm DTM.D_CTL i false = true → w = mergeHalf r.size (s.reg Page.dtm DTM.D_CTL i) data →
      ∃ u, exec (.datumEnable r b data) s = .next u ∧
        u.dEnabled b = Word.bit w 0 ∧ u.dEnabled (!b) = s.dEnabled (!b) ∧ u.dVal (!b) = s.dVal (!b) ∧ u.time.w = s.time.w ∧
        (Word.bit w 0 = true → s.dEnabled b = false → u.dVal b = 0) ∧
        (Word.bit w 0 = false ∨ s.dEnabled b = true → u.dVal b = s.dVal b))) ∧
  (∀ s : State, ∃ u, exec .datumChangeEffect s = .next u ∧ u.datums.changes = s.datums.changes.filter (fun e => !s.due e) ∧
    ((∀ e, e ∈ s.datums.changes → s.due e = true → ∀ v, e.2.2 ≠ .set v) → u.time.w = s.time.w) ∧
    ((∀ e, e ∈ s.datums.changes → s.due e = false) → s.Aside u (fun _ => False)) ∧ u.time.us = s.time.us) ∧
  ∀ (s : State) (e : Bool × Nat × DatumChange), s.datums.changes = [e] → s.due e = true → ∃ u, exec .datumChangeEffect s = .next u ∧
    (∀ v, e.2.2 = .set v → u.time.w = v ∧ u.flag Page.dtm DTM.DTM_STATUS_W_SET = true) ∧
    (∀ b v, e.2.2 = .put b v → v < datumSpan → u.dVal b = v ∧ u.dVal (!b) = s.dVal (!b)) ∧
    (∀ b (o : Int), e.2.2 = .step b o → 0 ≤ (s.dVal b : Int) + o → (s.dVal b : Int) + o < datumSpan →
      (u.dVal b : Int) = (s.dVal b : Int) + o ∧ u.dVal (!b) = s.dVal (!b) ∧ u.fld Page.dtm DTM.D_STATUS_ADJ_LEFT (dIx b) = 0) ∧
    (∀ g, e.2.2 = .slew g → u.datums.gain = g ∧ u.time = s.time) ∧
    (∀ b x, e.2.2 = .rate b x → (if b then u.datums.rateB else u.datums.rateA) = x ∧ u.time = s.time) ∧
    ∀ b x ppm, e.2.2 = .adjust b x ppm → (if b then u.datums.leftB else u.datums.leftA) = x ∧ u.time = s.time

/-- SLEW_UPDATE, FREQ_SRC_WRITE, FREQ_LOSS, REPLICA_CALIBRATION, TIME_SNAP, PPS_IN_EDGE, PPS_MISSING and PPS_OUT_EDGE complete (tier 2;
R540, R545 to R547, R552 to R554): an update steers W by rate alone, never by more than SLEW_MAX from the rate of the datum it follows. The
model's readings that it may rest on are its own: assumption 66. The model's readings that it may rest on are its own: assumption 66. -/
def Obligations.SlewAndPulses : Prop :=
  (∀ (s : State) (lim : Int), lim = (Nat.min 100 (Nat.max 1 (s.fld Page.dtm DTM.W_CTL_SLEW_MAX)) : Nat) * 2 ^ 56 / 1000 →
    (s.flag Page.dtm DTM.DTM_STATUS_W_SET = false → ∃ u, exec .slewUpdate s = .next u ∧ s.Aside u (fun _ => False)) ∧
    (s.flag Page.dtm DTM.DTM_STATUS_W_SET = true → s.followed = none → ∃ u k, exec .slewUpdate s = .next u ∧ u.time = s.time ∧
      u.datums.gain = s.datums.gain ∧ u.datums.changes = s.datums.changes ++ [(false, k, .slew 0)] ∧
      u.flag Page.dtm DTM.DTM_STATUS_FOLLOW_LOCK = false ∧ u.flag Page.dtm DTM.DTM_STATUS_AT_LIMIT = false) ∧
    (∀ b, s.flag Page.dtm DTM.DTM_STATUS_W_SET = true → s.followed = some b → s.dOn b = true →
      ∃ u k g, exec .slewUpdate s = .next u ∧ u.time = s.time ∧ u.datums.gain = s.datums.gain ∧
        u.datums.changes = s.datums.changes ++ [(false, k, .slew g)] ∧ s.dGain b - lim ≤ g ∧ g ≤ s.dGain b + lim ∧
        (s.time.w ≤ s.dVal b → s.dGain b ≤ g) ∧ (s.dVal b ≤ s.time.w → g ≤ s.dGain b) ∧
        u.flag Page.dtm DTM.DTM_STATUS_HOLDOVER = false ∧
        (u.flag Page.dtm DTM.DTM_STATUS_AT_LIMIT = true ↔ g = s.dGain b + lim ∨ g = s.dGain b - lim) ∧
        (2 * (Nat.max 1 (s.fld Page.dtm DTM.W_CTL_LOCK_NS) * nsUnits) < ((s.dVal b : Int) - s.time.w).natAbs →
          u.flag Page.dtm DTM.DTM_STATUS_FOLLOW_LOCK = false)) ∧
    (∀ b, s.flag Page.dtm DTM.DTM_STATUS_W_SET = true → s.followed = some b → s.dOn b = false →
      ∃ u, exec .slewUpdate s = .next u ∧ u.datums = s.datums ∧ u.time = s.time ∧ u.flag Page.dtm DTM.DTM_STATUS_HOLDOVER = true ∧
        (s.flag Page.dtm DTM.DTM_STATUS_HOLDOVER = false → s.powered Page.dtm = true → u.raised Page.dtm DTM.S_FOLLOW_LOST = true))) ∧
  (∀ (s : State) (r : Req) (data : Word), s.accepts r Page.dtm DTM.DTM_CTL 0 false = true → r.size ≠ .hi → s.powered Page.dtm = true →
    (∃ u, exec (.freqSrcWrite r data true) s = .next u ∧ u.flag Page.dtm DTM.DTM_CTL_FREQ_SRC = Word.bit data 0 ∧ u.time = s.time) ∧
    (Word.bit data 0 = true → ∃ u, exec (.freqSrcWrite r data false) s = .next u ∧ u.flag Page.dtm DTM.DTM_CTL_FREQ_SRC = false ∧
      u.raised Page.dtm DTM.S_FREQ_LOST = true)) ∧
  (∀ s : State, s.powered Page.dtm = true →
    (s.flag Page.dtm DTM.DTM_CTL_FREQ_SRC = true → ∃ u, exec .freqLoss s = .next u ∧ u.flag Page.dtm DTM.DTM_CTL_FREQ_SRC = false ∧
      u.raised Page.dtm DTM.S_FREQ_LOST = true ∧ u.time = s.time ∧ u.datums = s.datums ∧
      u.reg Page.dtm DTM.C_FREQ_LOSSES = BitVec.ofNat 48 ((s.reg Page.dtm DTM.C_FREQ_LOSSES).toNat + 1)) ∧
    (s.flag Page.dtm DTM.DTM_CTL_FREQ_SRC = false → ∃ u, exec .freqLoss s = .next u ∧ u.time = s.time ∧
      u.flag Page.dtm DTM.DTM_STATUS_FREQ_PRESENT = false ∧ s.Aside u (fun a => a = slotAddr Page.dtm DTM.DTM_STATUS 0)) ∧
    ∀ l : List Nat, l.length ≤ 64 →
      ((∀ e, e ∈ l → e ≤ 128) → ∃ u, exec (.replicaCalibration l) s = .next u ∧ u.flag Page.dtm DTM.CAL_STATUS_FAIL = false ∧
        (∀ e, e ∈ l → e ≤ u.fld Page.dtm DTM.CAL_STATUS_WORST)) ∧
      ((∃ e ∈ l, 128 < e) → ∃ u, exec (.replicaCalibration l) s = .next u ∧ u.flag Page.dtm DTM.CAL_STATUS_FAIL = true ∧
        u.raised Page.dtm DTM.S_CAL_FAIL = true ∧ 128 < l.getD (u.fld Page.dtm DTM.CAL_STATUS_ISLAND) 0 ∧
        u.reg Page.dtm DTM.C_CAL_FAILS =
          BitVec.ofNat 48 ((s.reg Page.dtm DTM.C_CAL_FAILS).toNat + (l.filter (fun e => decide (128 < e))).length))) ∧
  (∀ (s : State) (r : Req) (data : Word), s.accepts r Page.dtm DTM.TIME_SNAP 0 true = true → Word.bit data 0 = true →
    ∃ u, exec (.timeSnap r data) s = .next u ∧ u.time = s.time ∧
      (s.wOn = true → u.fld Page.dtm DTM.SNAP_W_SEC_SECONDS = datumSec s.time.w % 2 ^ 48 ∧
        Word.bits (u.reg Page.dtm DTM.SNAP_W_NS) 16 30 = datumNs s.time.w ∧ Word.bits (u.reg Page.dtm DTM.SNAP_W_NS) 0 16 = datumFrac s.time.w) ∧
      (s.wOn = false → u.reg Page.dtm DTM.SNAP_W_SEC = 0 ∧ u.reg Page.dtm DTM.SNAP_W_NS = 0) ∧
      (s.dOn false = false → u.reg Page.dtm DTM.SNAP_A_SEC = 0 ∧ u.reg Page.dtm DTM.SNAP_A_NS = 0) ∧
      (s.dOn true = true → Word.bits (u.reg Page.dtm DTM.SNAP_B_NS) 16 30 = datumNs s.time.b)) ∧
  ∀ (s : State) (i : Fin 2), s.powered Page.dtm = true →
    (s.ppsInEn i = true → ∃ u, exec (.ppsInEdge i) s = .next u ∧ u.flag Page.dtm DTM.CAP_W_NS_VALID i = true ∧
      u.flag Page.dtm DTM.CAP_W_NS_OVERRUN i = (s.flag Page.dtm DTM.CAP_W_NS_OVERRUN i || s.flag Page.dtm DTM.CAP_W_NS_VALID i) ∧
      u.reg Page.dtm DTM.CAP_W_SEC i = BitVec.ofNat 48 (datumSec (s.selected 0)) ∧
      u.reg Page.dtm DTM.CAP_D_SEC i = BitVec.ofNat 48 (datumSec (s.selected (s.ppsInSel i))) ∧ u.time = s.time ∧
      u.raised Page.dtm (if i.val = 0 then DTM.S_PPS_IN0 else DTM.S_PPS_IN1) = true) ∧
    (s.ppsInEn i = false → (∃ u, exec (.ppsInEdge i) s = .next u ∧ s.Aside u (fun _ => False)) ∧
      ∃ u, exec (.ppsMissing i) s = .next u ∧ s.Aside u (fun _ => False)) ∧
    (∀ t, s.ppsInEn i = true → s.datums.edges.length = 2 → s.datums.edges[i.val]? = some (t, 0) → t + 1500000 ≤ s.time.us →
      ∃ u, exec (.ppsMissing i) s = .next u ∧ u.raised Page.dtm DTM.S_PPS_MISSING = true ∧ u.datums.edges[i.val]? = some (t, 1)) ∧
    (∀ t n, s.ppsInEn i = true → s.datums.edges.length = 2 → s.datums.edges[i.val]? = some (t, n + 1) →
      t + 1500000 + (n + 1) * 1000000 ≤ s.time.us → ∃ u, exec (.ppsMissing i) s = .next u ∧ u.datums.edges[i.val]? = some (t, n + 2) ∧
        u.slot (slotAddr Page.dtm (if i.val = 0 then DTM.C_PPS_MISSED0 else DTM.C_PPS_MISSED1) 0) =
          BitVec.ofNat 48 ((s.slot (slotAddr Page.dtm (if i.val = 0 then DTM.C_PPS_MISSED0 else DTM.C_PPS_MISSED1) 0)).toNat + 1)) ∧
    (∀ sel v, sel = (if i.val = 0 then 0 else s.fld Page.dtm DTM.PPS_OUT_CTL_SEL1) →
      v = s.selected sel + s.fld Page.dtm DTM.PPS_OUT_CTL_ADV_NS * nsUnits →
      (s.flag Page.dtm (if i.val = 0 then DTM.PPS_OUT_CTL_EN0 else DTM.PPS_OUT_CTL_EN1) = true → s.selectedOn sel = true →
        v % (1000000000 * nsUnits) < usUnits → s.datums.rose.getD i.val 0 ≠ s.time.us + 1 →
        ∃ u w, exec (.ppsOutEdge i) s = .next u ∧ u.out = .pps i w :: s.out ∧ 1 ≤ w ∧ w ≤ 500000 ∧ u.time = s.time) ∧
      (s.selectedOn sel = false → ∃ u, exec (.ppsOutEdge i) s = .next u ∧ u.out = s.out ∧ s.Aside u (fun _ => False)))

/-! ## Telemetry (18_telemetry_and_counters.md) -/

/-- METER_WINDOW_CLOSE, METER_CFG_WRITE, SVC_IND_READ, SVC_IND_WRITE, WRAP_ADDR_WRITE, WRAP_MAP_CLEAR and STAKE_CFG_WRITE complete
(tier 2; R561 to R563, R565 to R567, R569 to R571, R580, R600): counters wrap modulo 2^48 and leave a sticky wrap bit, a survey counter
counts exactly the events that pass its filters, and the staking LFSR never stands at 0. The model's readings that it may rest on are its
own: assumptions 62, 68. -/
def Obligations.CountersAndMeters : Prop :=
  (∀ (s : State) (a n : Nat), ¬ wrapShown a →
    (s.countSlot a n).slot a = BitVec.ofNat 48 ((s.slot a).toNat + n) ∧
    (s.countSlot a n).wrapOf a = (s.wrapOf a || decide (2 ^ 48 ≤ (s.slot a).toNat + n))) ∧
  (∀ (s : State) (i ev n : Nat) (a : EvAttr), i < 4096 → Tab.sorted s.ents = true →
    (s.survey ev a n).slot (surveyCtr i) =
      if surveyHit (s.ent spSurvey 0 i) ev a then BitVec.ofNat 48 ((s.slot (surveyCtr i)).toNat + n) else s.slot (surveyCtr i)) ∧
  (∀ (s : State) (m : Fin 1536) (x : Meter), x = s.meters.get m dflt.meter → s.works Page.tel = true → s.atWindow = true →
    x.shut ≠ s.time.us + 1 → ∃ u, exec (.meterWindowClose m) s = .next u ∧
      (x.whole = true → (u.meters.get m dflt.meter).last = x.now ∧ (u.meters.get m dflt.meter).peak = Nat.max x.peak x.now ∧
        (u.meters.get m dflt.meter).valid = true) ∧
      (x.whole = false → (u.meters.get m dflt.meter).last = x.last ∧ (u.meters.get m dflt.meter).peak = x.peak ∧
        (u.meters.get m dflt.meter).valid = x.valid) ∧
      (u.meters.get m dflt.meter).now = 0 ∧ (u.meters.get m dflt.meter).whole = true ∧
      (∀ k, k ≠ m.val → u.meters.get k dflt.meter = s.meters.get k dflt.meter) ∧
      ({ s with meters := u.meters } : State).Aside u (fun _ => False)) ∧
  (∀ (s : State) (r : Req) (data : Word), s.accepts r Page.tel TEL.METER_CFG 0 false = true →
    ∃ u, exec (.meterCfgWrite r data) s = .next u ∧
      u.reg Page.tel TEL.METER_CFG = BitVec.ofNat 48 ((mergeHalf r.size (s.reg Page.tel TEL.METER_CFG) data).toNat % 2 ^ 13) ∧
      (∀ k, u.meters.get k dflt.meter = dflt.meter) ∧
      ({ s with meters := u.meters } : State).Aside u (fun a => a = slotAddr Page.tel TEL.METER_CFG 0)) ∧
  (∀ (s : State) (r : Req) (data : Word) (i p : Nat), s.accepts r Page.svc SVC.IND_CMD 0 true = true →
    s.flag Page.svc SVC.IND_STATUS_BUSY = false → i = Word.bits data 0 12 → p = Word.bits (s.reg Page.svc SVC.IND_DATA 0) 35 12 →
    (Word.bit data 47 = false → ∃ u, exec (.svcIndRead r data) s = .next u ∧
      (∀ j, j < 4 → u.reg Page.svc SVC.IND_DATA j = s.entWord spSurvey 0 i j) ∧ u.flag Page.svc SVC.IND_STATUS_ERROR = false ∧
      s.Aside u (fun a => a = slotAddr Page.svc SVC.IND_STATUS 0 ∨ ∃ j, j < 4 ∧ a = slotAddr Page.svc SVC.IND_DATA j)) ∧
    (Word.bit data 47 = true → Word.bits (s.reg Page.svc SVC.IND_DATA 0) 29 6 < 26 →
      (Word.bit (s.reg Page.svc SVC.IND_DATA 0) 47 = false ∨ s.surveysOf p i + 1 ≤ s.pclFld p PCL.RES_QUOTA_COUNTERS) →
      ∃ u, exec (.svcIndWrite r data) s = .next u ∧ u.flag Page.svc SVC.IND_STATUS_ERROR = false ∧
        u.entWord spSurvey 0 i 0 = keep 0xFFFFFFFFFFE0 (s.reg Page.svc SVC.IND_DATA 0) ∧
        u.entWord spSurvey 0 i 1 = keep 0xFFFFFFFF8000 (s.reg Page.svc SVC.IND_DATA 1) ∧
        u.entWord spSurvey 0 i 2 = s.reg Page.svc SVC.IND_DATA 2 ∧ u.entWord spSurvey 0 i 3 = s.reg Page.svc SVC.IND_DATA 3 ∧
        (Word.bits (s.reg Page.svc SVC.IND_DATA 0) 29 6 ≠ 17 → u.slot (surveyCtr i) = 0 ∧ u.wrapOf (surveyCtr i) = false) ∧
        (∀ k, k ≠ i → k < 4096 → ∀ j, u.entWord spSurvey 0 k j = s.entWord spSurvey 0 k j)) ∧
    (Word.bit data 47 = true → 26 ≤ Word.bits (s.reg Page.svc SVC.IND_DATA 0) 29 6 → ∃ u, exec (.svcIndWrite r data) s = .next u ∧
      u.flag Page.svc SVC.IND_STATUS_ERROR = true ∧ u.fld Page.svc SVC.IND_STATUS_CODE = 6 ∧ u.ents = s.ents) ∧
    (Word.bit data 47 = true → Word.bits (s.reg Page.svc SVC.IND_DATA 0) 29 6 < 26 →
      Word.bit (s.reg Page.svc SVC.IND_DATA 0) 47 = true → s.pclFld p PCL.RES_QUOTA_COUNTERS < s.surveysOf p i + 1 →
      ∃ u, exec (.svcIndWrite r data) s = .next u ∧ u.flag Page.svc SVC.IND_STATUS_ERROR = true ∧
        u.fld Page.svc SVC.IND_STATUS_CODE = 7 ∧ u.ents = s.ents)) ∧
  (∀ (s : State) (r : Req) (data : Word), s.accepts r Page.svc SVC.WRAP_ADDR 0 false = true →
    ∃ u, exec (.wrapAddrWrite r data) s = .next u ∧
      u.reg Page.svc SVC.WRAP_ADDR = mergeHalf r.size (s.reg Page.svc SVC.WRAP_ADDR) data ∧
      ∀ j, j < 48 → Word.bit (u.reg Page.svc SVC.WRAP_MAP) j = u.wrapOf (u.wrapSlot j)) ∧
  (∀ (s : State) (r : Req) (data w : Word), s.accepts r Page.svc SVC.WRAP_MAP 0 false = true → w = mergeHalf r.size 0 data →
    (∀ e ∈ s.ents, e.1 / 2 ^ 32 = spSurvey * 2 ^ 16 → surveyHit e.2 17 { fn := some r.fn.val, addr := some (slotAddr Page.svc SVC.WRAP_MAP 0) } = false) →
    ∃ u, exec (.wrapMapClear r data) s = .next u ∧
      (∀ j, j < 48 → Word.bit w j = true → u.wrapOf (s.wrapSlot j) = false) ∧
      (∀ a, (∀ j, j < 48 → Word.bit w j = true → s.counterAt (s.wrapSlot j) ≠ s.counterAt a) → u.wrapOf a = s.wrapOf a) ∧
      ((∀ j, j < 48 → Word.bit (s.reg Page.svc SVC.WRAP_MAP) j = s.wrapOf (s.wrapSlot j)) →
        ∀ j, j < 48 → Word.bit (u.reg Page.svc SVC.WRAP_MAP) j = u.wrapOf (s.wrapSlot j)) ∧
      s.Aside u (fun _ => False)) ∧
  (∀ (s : State) (r : Req) (t : Fin 25) (data new : Word), s.accepts r (Page.trc t) TRC.STAKE_CFG 0 false = true →
    new = mergeHalf r.size (s.reg (Page.trc t) TRC.STAKE_CFG) data → ∃ u, exec (.stakeCfgWrite r t data) s = .next u ∧
      u.reg (Page.trc t) TRC.STAKE_CFG = BitVec.ofNat 48 (new.toNat % 2 ^ 37) ∧
      u.lfsr t = (if Word.bits new 5 31 = 0 then 1 else Word.bits new 5 31) ∧
      (∀ k, k ≠ t.val → u.lfsrs.get k 0 = s.lfsrs.get k 0) ∧
      ({ s with lfsrs := u.lfsrs } : State).Aside u (fun a => a = slotAddr (Page.trc t) TRC.STAKE_CFG 0)) ∧
  (∀ v, 0 < v → v < 2 ^ 31 → 0 < lfsrNext v ∧ lfsrNext v < 2 ^ 31) ∧
  ∀ (s : State) (t id v : Nat), t < 25 → s.flag (Page.trc t) TRC.STAKE_CFG_EN = true → s.works (Page.trc t) = true →
    v = lfsrNext (s.lfsr t) →
    (s.stakeSelect t id).lfsrs.get t 0 = v ∧
    (v % 2 ^ stakeK (s.fld (Page.trc t) TRC.STAKE_CFG_K) ≠ 0 → (s.stakeSelect t id).pkts = s.pkts) ∧
    (v % 2 ^ stakeK (s.fld (Page.trc t) TRC.STAKE_CFG_K) = 0 →
      ((∀ u, s.takeStakeToken (s.pkt id).phvParcel = some u →
          ((s.stakeSelect t id).pkt id).stake = some (t * 2 ^ 27 + s.stakes.get t 0) ∧
          (s.stakeSelect t id).stakes.get t 0 = (s.stakes.get t 0 + 1) % 2 ^ 27) ∧
        (s.takeStakeToken (s.pkt id).phvParcel = none → (s.stakeSelect t id).pkts = s.pkts ∧
          (s.stakeSelect t id).reg (Page.trc t) TRC.C_STAKE_SKIPS =
            BitVec.ofNat 48 ((s.reg (Page.trc t) TRC.C_STAKE_SKIPS).toNat + 1))))

/-- FLOW_WRITEBACK, FLOW_SWEEP, EXPORT_WRITE, XCONS_WRITE, DUMP_DUE, DUMP_NOW, DUMP_COMPLETE and DMP_CFG_WRITE complete (tier 2; R577,
R578, R586, R587, R589 to R594): where an evicted record goes, which records a sweep leaves, what a record does to each export ring of its
stream, and what a dump latches. The instant of a write-back and of a sweep, and that a dump's blocks are written as it completes, are the
model's choices. The model's readings that it may rest on are its own: assumptions 69, 70, 71, 72. -/
def Obligations.FlowsAndDumps : Prop :=
  (∀ (s : State) (f : Flow) (q : List Flow) (k : Nat), s.flowBack = f :: q → s.works Page.tel = true → k = s.flowSlot f.key →
    (s.flowBacked = true → (s.flowStore.get k dflt.flow).valid = false → ∃ u, exec .flowWriteback s = .next u ∧
      u.flowStore.get k dflt.flow = f ∧ u.flowBack = q ∧ u.flows = s.flows ∧
      ∀ j, j ≠ k → u.flowStore.get j dflt.flow = s.flowStore.get j dflt.flow) ∧
    (s.flowBacked = true → (s.flowStore.get k dflt.flow).valid = true → (s.flowStore.get k dflt.flow).key = f.key →
      ∃ u, exec .flowWriteback s = .next u ∧ u.flowBack = q ∧
        (u.flowStore.get k dflt.flow).pkts = ((s.flowStore.get k dflt.flow).pkts + f.pkts) % 2 ^ 48 ∧
        (u.flowStore.get k dflt.flow).byts = ((s.flowStore.get k dflt.flow).byts + f.byts) % 2 ^ 48 ∧
        (u.flowStore.get k dflt.flow).first = Nat.min (s.flowStore.get k dflt.flow).first f.first ∧
        (u.flowStore.get k dflt.flow).last = Nat.max (s.flowStore.get k dflt.flow).last f.last ∧
        (u.flowStore.get k dflt.flow).travs = Nat.lor (s.flowStore.get k dflt.flow).travs f.travs) ∧
    (s.flowBacked = false → s.works Page.dmp = true → (∀ e ∈ s.flows, e.2.key ≠ f.key) → (∀ e ∈ s.flowStore, e.2.key ≠ f.key) →
      (∀ g ∈ q, g.key ≠ f.key) → ∃ u, exec .flowWriteback s = .next u ∧ u.exports = s.exports ++ [(0, flowBytes f 4)] ∧
        u.flowBack = q ∧ u.flowStore = s.flowStore)) ∧
  (∀ (s : State) (poisoned : List Nat), s.works Page.tel = true → s.wOn = true → ∃ u, exec (.flowSweep poisoned) s = .next u ∧
    (∀ e ∈ u.flows, e ∈ s.flows ∧ s.sweepFlags e.2 = none) ∧
    (s.hbmUp = true → ∀ e ∈ u.flowStore, e ∈ s.flowStore ∧ s.sweepFlags e.2 = none) ∧
    (∀ e ∈ s.flows, (∀ g ∈ s.flows, g.2.key = e.2.key → s.sweepFlags g.2 = none) →
      (∀ g ∈ s.flowStore, g.2.key = e.2.key → s.sweepFlags g.2 = none) → e ∈ u.flows) ∧ u.pkts = s.pkts ∧ u.time = s.time) ∧
  (∀ (s : State) (poisoned : List Nat), s.wOn = false → ∃ u, exec (.flowSweep poisoned) s = .next u ∧ s.Aside u (fun _ => False)) ∧
  (∀ (s : State) (e : Nat × List Byte) (q : List (Nat × List Byte)), s.works Page.dmp = true → s.exports = e :: q →
    ∃ u, exec (.exportWrite none) s = .next u ∧ u.exports = q ∧ u.traces = s.traces ∧
      ∀ (r n : Nat), r < 8 → s.xringOn r = true → s.xringReady r = true → s.fld Page.dmp DMP.XCFG_STREAM r = e.1 →
        s.fld Page.dmp DMP.XCFG_SIZE r ≤ 9 → s.xphase.length = 8 → n = s.xringNext r (s.fld Page.dmp DMP.XPROD_INDEX r) →
        (s.xringFull r = false ∨ s.flag Page.dmp DMP.XCFG_OVERWRITE r = true →
          u.fld Page.dmp DMP.XPROD_INDEX r = n ∧ u.raised Page.dmp DMP.S_XRING_DATA = true ∧
          u.reg Page.dmp DMP.RECORDS r = BitVec.ofNat 48 ((s.reg Page.dmp DMP.RECORDS r).toNat + 1) ∧
          u.reg Page.dmp DMP.XLOST r = s.reg Page.dmp DMP.XLOST r ∧
          u.xphase.getD r true = (s.xphase.getD r true != decide (n = 0)) ∧
          u.fld Page.dmp DMP.XCONS_INDEX r = (if s.xringFull r then s.xringNext r (s.fld Page.dmp DMP.XCONS_INDEX r)
            else s.fld Page.dmp DMP.XCONS_INDEX r)) ∧
        (s.xringFull r = true → s.flag Page.dmp DMP.XCFG_OVERWRITE r = false →
          u.reg Page.dmp DMP.XPROD r = s.reg Page.dmp DMP.XPROD r ∧ u.reg Page.dmp DMP.RECORDS r = s.reg Page.dmp DMP.RECORDS r ∧
          u.reg Page.dmp DMP.XLOST r = BitVec.ofNat 48 ((s.reg Page.dmp DMP.XLOST r).toNat + 1))) ∧
  (∀ (s : State) (t : Fin 25) (e : List Byte) (q : List (List Byte)), s.works Page.dmp = true → s.traces.get t [] = e :: q →
    ∃ u, exec (.exportWrite (some t)) s = .next u ∧ u.traces.get t [] = q ∧ u.exports = s.exports ∧
      u.fld (Page.trc t) TRC.TRC_STATUS_FIFO = q.length % 2 ^ 13 ∧
      ∀ k, k ≠ t.val → u.traces.get k [] = s.traces.get k []) ∧
  (∀ (s : State) (r : Req) (i : Fin 8) (data : Word), s.accepts r Page.dmp DMP.XCONS i false = true →
    ∃ u, exec (.xconsWrite r i data) s = .next u ∧
      u.reg Page.dmp DMP.XCONS i = BitVec.ofNat 48 ((mergeHalf r.size (s.reg Page.dmp DMP.XCONS i) data).toNat % 2 ^ 15) ∧
      s.Aside u (fun a => a = slotAddr Page.dmp DMP.XCONS i)) ∧
  (∀ (s : State) (r : Req) (data : Word) (c : Instr) (at_ : Nat) (n : Nat), n = s.fld Page.dmp DMP.DMP_CFG_SECTIONS →
    (c = .dumpNow r data ∧ s.accepts r Page.dmp DMP.DMP_CMD 0 true = true ∧ Word.bit data 0 = true ∧ at_ = s.wNow ∨
      c = .dumpDue ∧ s.works Page.dmp = true ∧ s.flag Page.dmp DMP.DMP_CFG_EN = true ∧ s.dumpDueNow = true ∧ s.dumpAt ≠ s.time.us + 1 ∧
        at_ = s.wNow - s.wNow % (s.dumpPeriod * usUnits)) →
    (s.dump = none → s.flag Page.dmp DMP.DMP_CFG_DEST = false → ∃ u d, exec c s = .next u ∧ u.dump = some d ∧
      d.seq = (s.reg Page.dmp DMP.DMP_SEQ).toNat ∧ d.time = at_ ∧ d.wValid = s.wOn ∧ d.sections = n ∧ d.hbm = false ∧
      u.reg Page.dmp DMP.DMP_SEQ = BitVec.ofNat 48 ((s.reg Page.dmp DMP.DMP_SEQ).toNat + 1) ∧
      u.flag Page.dmp DMP.DMP_STATUS_BUSY = true ∧ u.pkts = s.pkts ∧ u.flows = s.flows ∧
      (∀ b i a, b ∈ sectionsOf n → i < sectionSlots.getD b 0 → sectionCtr b i = some a →
        d.latched.get (b * 2 ^ 18 + i) 0 = (s.slot (s.counterAt a)).toNat + 2 ^ 63 * b2n (s.wrapOf a)) ∧
      (c = .dumpDue → s.flag Page.dmp DMP.DMP_CFG_CLEAR_WRAP = true → ∀ b i a, b ∈ sectionsOf n → i < sectionSlots.getD b 0 →
        sectionCtr b i = some a → u.wrapOf a = false) ∧
      (Nat.bitAt n 2 = false → u.meters = s.meters) ∧
      (Nat.bitAt n 2 = true → Tab.sorted s.meters = true → ∀ m, (u.meters.get m dflt.meter).last = (s.meters.get m dflt.meter).last ∧
        ((s.meters.get m dflt.meter).shut ≠ s.time.us + 1 → (u.meters.get m dflt.meter).peak = 0))) ∧
    (s.dump.isSome = true ∨ s.flag Page.dmp DMP.DMP_CFG_DEST = true ∧ (s.hbmUp = false ∨ s.dumpUnits = 0) →
      ∃ u, exec c s = .next u ∧ u.dump = s.dump ∧ u.meters = s.meters ∧
      u.reg Page.dmp DMP.DMP_SEQ = BitVec.ofNat 48 ((s.reg Page.dmp DMP.DMP_SEQ).toNat + 1) ∧
      (s.powered Page.dmp = true → u.raised Page.dmp DMP.S_DUMP_SKIPPED = true) ∧
      u.reg Page.dmp DMP.C_DUMPS_SKIPPED = BitVec.ofNat 48 ((s.reg Page.dmp DMP.C_DUMPS_SKIPPED).toNat + 1))) ∧
  (∀ (s : State) (d : Dump), s.dump = some d → (∀ r ∈ d.rings, r < 8) → s.works Page.dmp = true →
    (d.hbm = false ∨ s.hbmUp = true ∧ s.dumpUnits ≠ 0 → ∃ u, exec .dumpComplete s = .next u ∧ u.dump = none ∧
      u.flag Page.dmp DMP.DMP_STATUS_BUSY = false ∧ u.fld Page.dmp DMP.DMP_STATUS_BLOCKS = (dumpBlocks d.sections).length ∧
      u.reg Page.dmp DMP.C_DUMPS_TAKEN = BitVec.ofNat 48 ((s.reg Page.dmp DMP.C_DUMPS_TAKEN).toNat + 1) ∧
      u.reg Page.dmp DMP.C_BLOCKS_WRITTEN =
        BitVec.ofNat 48 ((s.reg Page.dmp DMP.C_BLOCKS_WRITTEN).toNat + (dumpBlocks d.sections).length) ∧
      (d.hbm = true → s.dumpUnits ≤ 128 → s.fld Page.dmp DMP.DMP_STATUS_HBM_NEXT < s.dumpUnits * 16384 →
        u.fld Page.dmp DMP.DMP_STATUS_HBM_NEXT =
          (s.fld Page.dmp DMP.DMP_STATUS_HBM_NEXT + (dumpBlocks d.sections).length) % (s.dumpUnits * 16384)) ∧
      (d.hbm = false → u.hbmBytes = s.hbmBytes)) ∧
    (d.hbm = true → s.hbmUp = false → ∃ u, exec .dumpComplete s = .next u ∧ u.dump = none ∧
      u.flag Page.dmp DMP.DMP_STATUS_BUSY = false ∧ u.reg Page.dmp DMP.C_DUMPS_TAKEN = s.reg Page.dmp DMP.C_DUMPS_TAKEN)) ∧
  (∀ (d : Dump) (n total : Nat) (b : Nat × Nat × Nat), (d.block n total b).length = 4096) ∧
  ∀ (s : State) (r : Req) (data new : Word), s.accepts r Page.dmp DMP.DMP_CFG 0 false = true →
    new = keep 0xFFC0 (mergeHalf r.size (s.reg Page.dmp DMP.DMP_CFG) data) →
    (Word.bit new 15 = true → Word.bit new 14 = true → s.dumpUnits = 0 → ∃ u, exec (.dmpCfgWrite r data) s = .next u ∧
      (s.powered Page.dmp = true → u.raised Page.dmp DMP.S_DUMP_REFUSED = true) ∧ s.Aside u (fun _ => False)) ∧
    (Word.bit new 15 = false ∨ Word.bit new 14 = false ∨ s.dumpUnits ≠ 0 → ∃ u, exec (.dmpCfgWrite r data) s = .next u ∧
      u.reg Page.dmp DMP.DMP_CFG = new ∧
      ({ s with dmpSince := u.dmpSince } : State).Aside u (fun a => a = slotAddr Page.dmp DMP.DMP_CFG 0))

/-! ## Closure (19_closure.md) -/

/-- SELFTEST_RUN and SELFTEST_COMPLETE complete (tier 2; R601, R604, R607, R608, R610, R611, R615): a test starts, ends at once or is
left alone, and its end clears RUN and sets RESULT. An occurrence of a source sets its bit, its cause and, at DEGRADE or HALT, its held bit;
HALT stops the block with ENABLE cleared; one that finds its bit set makes no log entry. The model's readings that it may rest on are its
own: assumptions 19, 20, 21. -/
def Obligations.FaultsAndTests : Prop :=
  (∀ (s : State) (r : Req) (page : Nat) (data w : Word) (k : Kind) (n : Nat), Page.kind page = some (k, n) → hasSelftest k = true →
    s.accepts r page TB.SELFTEST 0 false = true → w = mergeHalf r.size 0 data →
    (Word.bit w 0 = true → s.flag page TB.SELFTEST_RUN = true → ∃ u, exec (.selftestRun r page data) s = .next u ∧
      s.Aside u (fun _ => False)) ∧
    (Word.bit w 0 = true → s.flag page TB.SELFTEST_RUN = false → r.size ≠ .hi →
      ∀ good, good = (testGiven k (Word.bits data 8 8) && (match laneOfPage k n with | some l => s.laneTestable l | none => true)) →
      ∃ u, exec (.selftestRun r page data) s = .next u ∧ u.fld page TB.SELFTEST_SELECT = Word.bits data 8 8 ∧
        u.flag page TB.SELFTEST_RUN = good ∧ u.fld page TB.SELFTEST_RESULT = (if good then 0 else 3) ∧
        u.fld page TB.SELFTEST_DETAIL = 0 ∧ s.Aside u (fun a => a = slotAddr page TB.SELFTEST 0)) ∧
    (Word.bit w 0 = false → r.size = .w64 → ∃ u, exec (.selftestRun r page data) s = .next u ∧
      u.fld page TB.SELFTEST_SELECT = Word.bits data 8 8 ∧ u.flag page TB.SELFTEST_RUN = s.flag page TB.SELFTEST_RUN ∧
      u.fld page TB.SELFTEST_RESULT = s.fld page TB.SELFTEST_RESULT ∧ s.Aside u (fun a => a = slotAddr page TB.SELFTEST 0))) ∧
  (∀ (s : State) (page : Nat) (met : TestEnd) (detail : BitVec 32) (k : Kind) (n : Nat), Page.kind page = some (k, n) →
    s.flag page TB.SELFTEST_RUN = true →
    (laneOfPage k n = none → ∃ u, exec (.selftestComplete page met detail) s = .next u ∧ u.flag page TB.SELFTEST_RUN = false ∧
      u.fld page TB.SELFTEST_RESULT = (match met with | .passed => 1 | .failed => 2 | .ended => 3) ∧
      (k ≠ .ovm → u.fld page TB.SELFTEST_DETAIL = detail.toNat) ∧ u.fld page TB.SELFTEST_SELECT = s.fld page TB.SELFTEST_SELECT ∧
      s.Aside u (fun a => a = slotAddr page TB.SELFTEST 0)) ∧
    (∀ l, laneOfPage k n = some l → met = .failed → (s.lane l).testFails = 0 →
      ∃ u, exec (.selftestComplete page met detail) s = .next u ∧ u.flag page TB.SELFTEST_RUN = true ∧ (u.lane l).testFails = 1 ∧
        ∀ j, j ≠ l → u.lane j = s.lane j) ∧
    (∀ l, laneOfPage k n = some l → met = .failed → (s.lane l).testFails ≠ 0 →
      ∃ u, exec (.selftestComplete page met detail) s = .next u ∧ u.flag page TB.SELFTEST_RUN = false ∧
        u.fld page TB.SELFTEST_RESULT = 2 ∧ (u.lane l).testOk = false ∧ Word.bit (u.reg page TB.FAULT_CAUSE) LN.S_SPARED_ENTRY = false ∧
        ∀ j, j ≠ l → u.lane j = s.lane j) ∧
    (∀ l, laneOfPage k n = some l → met = .passed → s.fld page TB.SELFTEST_SELECT = 1 →
      ∃ u, exec (.selftestComplete page met detail) s = .next u ∧ u.flag page TB.SELFTEST_RUN = false ∧
        u.fld page TB.SELFTEST_RESULT = 1 ∧ (u.lane l).testOk = true ∧ (u.lane l).testFails = 0 ∧
        Word.bit (u.reg page TB.FAULT_CAUSE) LN.S_SPARED_ENTRY = false ∧ ∀ j, j ≠ l → u.lane j = s.lane j)) ∧
  ∀ (s : State) (p src : Nat), src < 48 →
    Word.bit ((s.record p src).reg p TB.FAULT_CAUSE) src = true ∧ (s.record p src).raised p src = true ∧
    (∀ j, j ≠ src → (s.record p src).raised p j = s.raised p j) ∧
    (s.reg p TB.EVENT_STATUS = 0 →
      (s.record p src).reg p TB.EVENT_FIRST = eventRecord src (s.severity p src) s.stamp32) ∧
    (s.reg p TB.EVENT_STATUS ≠ 0 → (s.record p src).reg p TB.EVENT_FIRST = s.reg p TB.EVENT_FIRST) ∧
    (s.raised p src = true → ((s.record p src).pg p).log = (s.pg p).log) ∧
    (s.raised p src = false → (s.pg p).log.length < 16 →
      ((s.record p src).pg p).log = (s.pg p).log ++ [eventRecord src (s.severity p src) s.stamp32]) ∧
    (s.raised p src = false → 16 ≤ (s.pg p).log.length → ((s.record p src).pg p).log = (s.pg p).log ∧
      (s.record p src).flag p TB.PAGE_STATE_LOST = true) ∧
    (s.severity p src < 2 → (s.record p src).fld p TB.PAGE_STATE_STATE = s.fld p TB.PAGE_STATE_STATE ∧
      ((s.record p src).pg p).heldD = (s.pg p).heldD ∧ ((s.record p src).pg p).heldH = (s.pg p).heldH) ∧
    (s.severity p src = 2 → Word.bit ((s.record p src).pg p).heldD src = true ∧
      (s.record p src).fld p TB.PAGE_STATE_STATE = (if s.fld p TB.PAGE_STATE_STATE = 3 then 4 else s.fld p TB.PAGE_STATE_STATE)) ∧
    (s.severity p src = 3 → Word.bit ((s.record p src).pg p).heldH src = true ∧
      (s.fld p TB.PAGE_STATE_STATE ∈ [2, 3, 4, 6] → (s.record p src).isHalted p = true ∧
        (s.record p src).flag p TB.PAGE_STATE_ENABLE = false) ∧
      (s.fld p TB.PAGE_STATE_STATE ∉ [2, 3, 4, 6] → (s.record p src).fld p TB.PAGE_STATE_STATE = s.fld p TB.PAGE_STATE_STATE))

/-! ## Power, reset and life cycle (20_power_reset_lifecycle.md) -/

/-- PWRGOOD_RISE, PWRGOOD_FALL, REFERENCE_VALID, DOMAIN_BRINGUP_START, BOOT_IMAGE_LOAD, SOFT_RESET, SOFT_RESET_COMPLETE and HOLD_END
complete (tier 2; R628, R629, R637 to R639, R641, R642, R652): power-on reset ends with PWRGOOD and a valid reference and returns every
register to its reset value, but those that its own steps set; a device soft reset leaves the switched domains, the clocks and the links
as they are; the hold begins with each. The model's readings that it may rest on are its own: assumptions 7, 10, 74. -/
def Obligations.ResetsOfTheDevice : Prop :=
  (∀ (s : State) (refs : Fin 32) (pcie : Fin 4) (boot : Boot), s.aon.pwrgood = false →
    (refs.val ≠ 0 → ∃ u, exec (.pwrgoodRise refs pcie boot) s = .next u ∧ u.aon.por = false ∧ u.aon.pwrgood = true ∧
      u.aon.holdEnd = s.time.us + 1000000 ∧ u.flag Page.dev DEV.DEV_STATUS_HOLD = true ∧ u.fld Page.clk CLK.CLK_STATUS_REF_OK = refs ∧
      u.fld Page.dev DEV.RESET_CAUSE_CAUSE = (if s.aon.byTrip && boot.aonStayed then 2 else 0) ∧
      u.pkts = [] ∧ u.queues = [] ∧ u.flash = s.flash ∧ u.fns = [] ∧ u.time.w = 0 ∧
      ∀ a, Plain a → a ∉ [slotAddr Page.dev DEV.LIFE_STATE 0, slotAddr Page.dev DEV.DEV_STATUS 0, slotAddr Page.dev DEV.RESET_CAUSE 0,
          slotAddr Page.dev DEV.DEVICE_ID_LO 0, slotAddr Page.dev DEV.DEVICE_ID_HI 0, slotAddr Page.dev DEV.OTP_SEC 0,
          slotAddr Page.clk CLK.CLK_STATUS 0, slotAddr Page.fls FLS.FLS_STATUS 0] →
        u.slot a = regReset a) ∧
    (refs.val = 0 → ∃ u, exec (.pwrgoodRise refs pcie boot) s = .next u ∧ u.aon.por = true ∧ u.aon.pwrgood = true ∧
      (s.aon.flashOp = none → u.flash = s.flash))) ∧
  (∀ s : State, ∃ u, exec .pwrgoodFall s = .next u ∧ u.aon.por = true ∧ u.aon.pwrgood = false ∧ u.otp = s.otp ∧ u.pkts = [] ∧
    (∀ l, l < 768 → u.lstate l = 0) ∧ (∀ n, n < 36 → u.lmEn n = false) ∧
    (∀ h, h < 2 → u.portUp h = false) ∧ (s.aon.flashOp = none → u.flash = s.flash)) ∧
  (∀ (s : State) (ref : Fin 5) (boot : Boot),
    (s.aon.por = true → s.aon.pwrgood = true → s.aon.tripped = false → ∃ u, exec (.referenceValid ref boot) s = .next u ∧
      u.aon.por = false ∧ u.fld Page.clk CLK.CLK_STATUS_REF_OK = 2 ^ ref.val ∧ u.fld Page.clk CLK.CLK_STATUS_REF_IN_USE = ref.val ∧
      u.aon.holdEnd = s.time.us + 1000000 ∧ u.pkts = []) ∧
    (s.aon.por = false → ∃ u, exec (.referenceValid ref boot) s = .next u ∧ u.refOk ref = true ∧
      (∀ i, i < 5 → i ≠ ref.val → u.refOk i = s.refOk i) ∧ s.Aside u (fun a => a = slotAddr Page.clk CLK.CLK_STATUS 0)) ∧
    (s.aon.por = true → s.aon.pwrgood = false ∨ s.aon.tripped = true → ∃ u, exec (.referenceValid ref boot) s = .next u ∧
      s.Aside u (fun _ => False))) ∧
  (∀ s : State, ∃ u, exec .domainBringupStart s = .next u ∧ ({ s with aon := u.aon } : State).Aside u (fun _ => False) ∧
    (s.aon.por = false → s.aon.started = false → u.aon.started = true ∧
      u.aon.queue = s.aon.queue ++ ((List.range 30).filter s.domainOn).map (fun d => (d, true))) ∧
    (s.aon.por = true ∨ s.aon.started = true → u.aon = s.aon)) ∧
  (∀ s : State, (s.aon.por = false → s.aon.started = true → s.aon.loadDue = true →
      (∀ d, d < 24 → s.domainOn d = false ∨ s.domainUp d = true) → ∃ u, exec .bootImageLoad s = .next u ∧ u.aon.loadDue = false ∧
        u.flag (Page.lsq 0) LSQ.IMG_STATUS_BUSY = true ∧ u.loadQueue = s.copyOrder (s.fld (Page.lsq 0) LSQ.IMG_CTL_SLOT)) ∧
    (∀ d, d < 24 → s.domainOn d = true → s.domainUp d = false → ∃ u, exec .bootImageLoad s = .next u ∧ s.Aside u (fun _ => False))) ∧
  (∀ (s : State) (r : Req) (data : Word) (x : Restart), s.accepts r Page.dev DEV.DEV_RESET 0 true = true →
    (Word.bits data 32 16 ≠ 0x5A5A → ∃ u, exec (.softReset r data x) s = .next u ∧ u.raised Page.dev TB.S_ACCESS_SIZE = true ∧
      s.Aside u (fun _ => False)) ∧
    (Word.bits data 32 16 = 0x5A5A → Word.bit data 0 = false → ∃ u, exec (.softReset r data x) s = .next u ∧
      s.Aside u (fun _ => False)) ∧
    (Word.bits data 32 16 = 0x5A5A → Word.bit data 0 = true → s.lifeBusy = false → ∃ u, exec (.softReset r data x) s = .next u ∧
      u.flag Page.dev DEV.DEV_STATUS_SOFT_BUSY = true ∧ u.flag Page.dev DEV.DEV_STATUS_HOLD = true ∧
      u.aon.holdEnd = s.time.us + 1000000 ∧ u.fld Page.dev DEV.RESET_CAUSE_CAUSE = 1 ∧ u.pkts = [] ∧ u.queues = [] ∧ u.ents = [] ∧
      u.otp = s.otp ∧ u.flag (Page.lsq 0) LSQ.IMG_STATUS_BUSY = true ∧
      u.reg Page.dev DEV.LIFE_STATE = s.reg Page.dev DEV.LIFE_STATE ∧ u.reg Page.pwr PWR.PWR_CTL = s.reg Page.pwr PWR.PWR_CTL ∧
      u.reg Page.pwr PWR.PWR_STATUS = s.reg Page.pwr PWR.PWR_STATUS ∧ u.reg Page.clk CLK.CLK_CTL = s.reg Page.clk CLK.CLK_CTL ∧
      u.reg Page.dmp DMP.DMP_SEQ = s.reg Page.dmp DMP.DMP_SEQ ∧ u.reg Page.dtm DTM.W_LAST_SEC = 0 ∧
      ∀ h, h < 2 → u.reg (Page.hif h) HIF.LINK_STATUS = s.reg (Page.hif h) HIF.LINK_STATUS)) ∧
  (∀ s : State, ∃ u, exec .softResetComplete s = .next u ∧ s.Aside u (fun a => a = slotAddr Page.dev DEV.DEV_STATUS 0) ∧
    (s.flag (Page.lsq 0) LSQ.IMG_STATUS_BUSY = false → u.flag Page.dev DEV.DEV_STATUS_SOFT_BUSY = false) ∧
    (s.flag (Page.lsq 0) LSQ.IMG_STATUS_BUSY = true →
      u.flag Page.dev DEV.DEV_STATUS_SOFT_BUSY = s.flag Page.dev DEV.DEV_STATUS_SOFT_BUSY)) ∧
  ∀ s : State, (s.flag Page.dev DEV.DEV_STATUS_HOLD = true → s.aon.por = false → s.aon.holdEnd ≤ s.time.us →
      ∃ u, exec .holdEnd s = .next u ∧ u.flag Page.dev DEV.DEV_STATUS_HOLD = false ∧ u.fld Page.dev DEV.DEV_STATUS_HOLD_LEFT = 0 ∧
        u.raised Page.dev DEV.S_HOLD_DONE = true) ∧
    (s.flag Page.dev DEV.DEV_STATUS_HOLD = false ∨ s.aon.por = true ∨ s.time.us < s.aon.holdEnd →
      ∃ u, exec .holdEnd s = .next u ∧ s.Aside u (fun _ => False))

/-- PWR_CTL_WRITE, DOMAIN_SWITCH_ON, DOMAIN_POWER_GOOD, DOMAIN_POWER_TIMEOUT, DOMAIN_SWITCH_OFF, REF_LOSS, REF_SWITCH_DONE, CLK_CTL_WRITE,
ISLAND_CLK_LOSS and PCIE_REF_LOSS complete (tier 2; R609, R631 to R636): transitions wait in ascending order and run one at a time, a
switch-off is judged as it is carried out, and what the references do. The model's readings that it may rest on are its own: assumptions 73,
74. -/
def Obligations.DomainsAndClocks : Prop :=
  (∀ (s : State) (r : Req) (data : Word) (old new : Nat), s.accepts r Page.pwr PWR.PWR_CTL 0 false = true →
    old = s.fld Page.pwr PWR.PWR_CTL_ON → new = Word.bits (mergeHalf r.size (s.reg Page.pwr PWR.PWR_CTL) data) 0 30 →
    ∃ u, exec (.pwrCtlWrite r data) s = .next u ∧ u.fld Page.pwr PWR.PWR_CTL_ON = new ∧
      u.aon.queue = s.aon.queue ++
        ((List.range 30).filter (fun d => Nat.bitAt old d != Nat.bitAt new d)).map (fun d => (d, Nat.bitAt new d)) ∧
      (∀ d, u.domainUp d = s.domainUp d) ∧ ({ s with aon := u.aon } : State).Aside u (fun a => a = slotAddr Page.pwr PWR.PWR_CTL 0)) ∧
  (∀ (s : State) (d : Nat) (q : List (Nat × Bool)), s.aon.queue = (d, true) :: q → s.aon.run = none → d < 30 →
    ∃ u, exec .domainSwitchOn s = .next u ∧ ({ s with aon := u.aon } : State).Aside u (fun a => a = slotAddr Page.pwr PWR.PWR_STATUS 0) ∧
      (∀ k, u.domainUp k = s.domainUp k) ∧
      (s.domainUp d = true → u.aon.queue = q ∧ u.aon.run = none) ∧
      (s.domainUp d = false → (s.aon.lastOn = 0 ∨ s.aon.lastOn - 1 + 5000 ≤ s.time.us) →
        u.aon.queue = q ∧ u.aon.run = some (d, s.time.us) ∧ u.aon.lastOn = s.time.us + 1 ∧
        u.flag Page.pwr PWR.PWR_STATUS_BUSY = true ∧ u.fld Page.pwr PWR.PWR_STATUS_DOMAIN = d) ∧
      (s.domainUp d = false → s.aon.lastOn ≠ 0 → s.time.us < s.aon.lastOn - 1 + 5000 → u.aon = s.aon)) ∧
  (∀ (s : State) (d at_ : Nat), s.aon.run = some (d, at_) → d < 30 →
    (∃ u, exec .domainPowerGood s = .next u ∧ u.domainUp d = true ∧ (∀ k, k ≠ d → u.domainUp k = s.domainUp k) ∧ u.aon.run = none ∧
      u.aon.queue = s.aon.queue ∧ u.raised Page.pwr PWR.S_DOMAIN_CHANGE = true ∧ u.flag Page.pwr PWR.PWR_STATUS_BUSY = false) ∧
    ∃ u, exec .domainPowerTimeout s = .next u ∧ u.domainOn d = false ∧ (∀ k, k ≠ d → u.domainOn k = s.domainOn k) ∧
      (∀ k, u.domainUp k = s.domainUp k) ∧ u.aon.run = none ∧ u.raised Page.pwr PWR.S_DOMAIN_FAIL = true ∧
      ({ s with aon := u.aon } : State).Aside u (fun a => a = slotAddr Page.pwr PWR.PWR_CTL 0 ∨ a = slotAddr Page.pwr PWR.PWR_STATUS 0)) ∧
  (∀ (s : State) (d : Nat) (wearOk : Bool) (q : List (Nat × Bool)), s.aon.queue = (d, false) :: q → s.aon.run = none → d < 30 →
    (d = 28 ∧ (s.role 24 = roleStandingIn ∨ s.role 24 = roleClearing) ∨
      24 ≤ d ∧ d < 28 ∧ (s.fld Page.ovm TB.PAGE_STATE_STATE = 3 ∨ s.fld Page.ovm TB.PAGE_STATE_STATE = 4) →
      ∃ u, exec (.domainSwitchOff wearOk) s = .next u ∧ u.domainOn d = true ∧ u.aon.queue = q ∧ (∀ k, u.domainUp k = s.domainUp k) ∧
        u.flag Page.pwr PWR.PWR_REFUSED_VALID = true ∧ u.raised Page.pwr PWR.S_DOMAIN_REFUSED = true ∧
        u.fld Page.pwr PWR.PWR_REFUSED_DOMAIN =
          (if s.flag Page.pwr PWR.PWR_REFUSED_VALID then s.fld Page.pwr PWR.PWR_REFUSED_DOMAIN else d) ∧
        ({ s with aon := u.aon } : State).Aside u (fun a => a = slotAddr Page.pwr PWR.PWR_CTL 0 ∨ a = slotAddr Page.pwr PWR.PWR_REFUSED 0)) ∧
    (s.refuseOff d = false → ∃ u, exec (.domainSwitchOff wearOk) s = .next u ∧ u.domainUp d = false ∧
      (∀ k, k ≠ d → u.domainUp k = s.domainUp k) ∧ u.aon.queue = q ∧ u.raised Page.pwr PWR.S_DOMAIN_CHANGE = true ∧
      (s.domainUp d = true → ∀ p, Page.domain p = some d →
        u.reg p TB.EVENT_STATUS = 0 ∧ u.reg p TB.EVENT_FIRST = 0 ∧ u.pg p = dflt.page ∧
        u.reg p TB.PAGE_OWNER = s.reg p TB.PAGE_OWNER ∧ u.reg p TB.SCRATCH = s.reg p TB.SCRATCH))) ∧
  (∀ (s : State) (ref : Fin 5), ∃ u, exec (.refLoss ref) s = .next u ∧ u.refOk ref = false ∧
    (∀ i, i < 5 → i ≠ ref.val → u.refOk i = s.refOk i) ∧ s.Aside u (fun a => a = slotAddr Page.clk CLK.CLK_STATUS 0) ∧
    (s.refInUse = ref.val → u.refInUse = 7 ∧ u.raised Page.clk CLK.S_REF_LOST = true) ∧
    (s.refInUse ≠ ref.val → u.refInUse = s.refInUse)) ∧
  (∀ s : State, ∃ u, exec .refSwitchDone s = .next u ∧
    s.Aside u (fun a => a = slotAddr Page.clk CLK.CLK_STATUS 0 ∨ a = slotAddr Page.clk CLK.REF_SWITCHES 0) ∧
    (∀ i, s.refInUse = 7 → s.flag Page.clk CLK.CLK_CTL_AUTO = true → i < 5 → s.refOk i = true → (∀ j, j < i → s.refOk j = false) →
      u.refInUse = i ∧ u.raised Page.clk CLK.S_REF_SWITCH = true ∧
      u.reg Page.clk CLK.REF_SWITCHES = BitVec.ofNat 48 ((s.reg Page.clk CLK.REF_SWITCHES).toNat + 1)) ∧
    (s.refInUse ≠ 7 ∨ s.flag Page.clk CLK.CLK_CTL_AUTO = false ∨ (∀ i, i < 5 → s.refOk i = false) → u.refInUse = s.refInUse)) ∧
  (∀ (s : State) (r : Req) (data v : Word) (sel : Nat), s.accepts r Page.clk CLK.CLK_CTL 0 false = true →
    v = mergeHalf r.size (s.reg Page.clk CLK.CLK_CTL) data → sel = (if Word.bits v 0 3 ≤ 4 then Word.bits v 0 3 else 0) →
    ∃ u, exec (.clkCtlWrite r data) s = .next u ∧ u.reg Page.clk CLK.CLK_CTL = BitVec.ofNat 48 (v.toNat % 16) ∧
      (s.refOk sel = true → u.refInUse = sel) ∧ (s.refOk sel = false → u.refInUse = s.refInUse) ∧
      s.Aside u (fun a => a = slotAddr Page.clk CLK.CLK_CTL 0 ∨ a = slotAddr Page.clk CLK.CLK_STATUS 0 ∨
        a = slotAddr Page.clk CLK.REF_SWITCHES 0)) ∧
  (∀ (s : State) (i : Fin 64), ∃ u, exec (.islandClkLoss i) s = .next u ∧ u.raised Page.clk CLK.S_ISLAND_CLK_LOST = true ∧
    u.flag Page.clk CLK.CLK_STATUS_LOST_VALID = true ∧ u.fld Page.clk CLK.CLK_STATUS_LOST_ISLAND = i.val ∧
    (∀ p, Page.island p = i.val → u.clocked p = false) ∧ (∀ p, Page.island p ≠ i.val → u.clocked p = s.clocked p)) ∧
  ∀ (s : State) (h : Fin 2), ∃ u, exec (.pcieRefLoss h) s = .next u ∧ u.raised Page.clk CLK.S_PCIE_REF_LOST = true ∧
    Nat.bitAt (u.fld Page.clk CLK.CLK_STATUS_PCIE_OK) h = false ∧ s.Aside u (fun a => a = slotAddr Page.clk CLK.CLK_STATUS 0)

/-- LIFE_ARM, LIFE_TRANSITION_REQUEST, LIFE_ARM_EXPIRY, LIFE_TRANSITION_DONE, OTP_REVOKE, OTP_RAISE_SVN and IDENTITY_KEY_READY complete
(tier 2; R649 to R654): what a request is refused for, what each step of a transition leaves in the OTP, and what power-on reset makes of
the slots. The model's readings that it may rest on are its own: assumption 76. -/
def Obligations.LifeCycle : Prop :=
  (∀ (s : State) (r : Req) (data : Word), s.accepts r Page.dev DEV.LIFE_CMD 0 true = true → s.lifeBusy = false → Word.bit data 3 = true →
    ∃ u, exec (.lifeArm r data) s = .next u ∧ u.aon.armed = some (s.time.us + 1000000) ∧
      ({ s with aon := u.aon } : State).Aside u (fun _ => False)) ∧
  (∀ (s : State) (r : Req) (data : Word) (intentOk : Bool), s.accepts r Page.dev DEV.LIFE_CMD 0 true = true → s.lifeBusy = true →
    ∃ u, exec (.lifeTransitionRequest r data intentOk) s = .next u ∧ u.lifeBusy = true ∧ u.otp = s.otp ∧
      u.fld Page.dev DEV.LIFE_STATE_REASON = 1 ∧ u.flag Page.dev DEV.LIFE_STATE_ERROR = true ∧
      u.raised Page.dev DEV.S_LIFE_REFUSED = true) ∧
  (∀ (s : State) (r : Req) (data : Word) (ok : Bool) (st dest i : Nat), s.accepts r Page.dev DEV.LIFE_CMD 0 true = true →
    s.lifeBusy = false → Word.bit data 3 = false → dest = Word.bits data 0 3 → st = s.fld Page.dev DEV.LIFE_STATE_STATE →
    i = nextSlot s.otp.slots →
    (∀ why, (why = 1 ∧ (dest ≠ st + 1 ∨ 4 < dest) ∨ why = 2 ∧ dest = st + 1 ∧ st < 2 ∨
        why = 3 ∧ dest = st + 1 ∧ 2 ≤ st ∧ st < 4 ∧ s.lifeArmed = false ∨
        why = 4 ∧ dest = st + 1 ∧ 2 ≤ st ∧ st < 4 ∧ s.lifeArmed = true ∧ 8 ≤ i) →
      ∃ u, exec (.lifeTransitionRequest r data ok) s = .next u ∧ u.fld Page.dev DEV.LIFE_STATE_REASON = why ∧ u.otp = s.otp ∧
        u.flag Page.dev DEV.LIFE_STATE_ERROR = true ∧ u.raised Page.dev DEV.S_LIFE_REFUSED = true ∧ u.lifeBusy = false ∧
        u.fld Page.dev DEV.LIFE_STATE_STATE = st) ∧
    (dest = st + 1 → 2 ≤ st → st < 4 → s.lifeArmed = true → i < 8 → s.otp.slots.length = 8 →
      (ok = true → ∃ u, exec (.lifeTransitionRequest r data ok) s = .next u ∧ u.lifeBusy = true ∧
        u.otp.slots = s.otp.slots.set i (intentWord st, 0) ∧ u.flag Page.dev DEV.LIFE_STATE_ERROR = false ∧
        u.fld Page.dev DEV.LIFE_STATE_REASON = 0 ∧ u.fld Page.dev DEV.LIFE_STATE_STATE = st ∧ u.aon.armed = none ∧
        ({ s with aon := u.aon, otp := u.otp } : State).Aside u (fun a => a = slotAddr Page.dev DEV.LIFE_STATE 0)) ∧
      (ok = false → ∃ u w, exec (.lifeTransitionRequest r data ok) s = .next u ∧ u.lifeBusy = false ∧
        u.otp.slots = s.otp.slots.set i (w, 0) ∧ Machine.intentOk st w = false ∧ Nat.land w (intentWord st) = w ∧
        u.fld Page.dev DEV.LIFE_STATE_REASON = 5 ∧ u.fld Page.dev DEV.LIFE_STATE_STATE = st ∧
        u.raised Page.dev DEV.S_OTP_ERROR = true))) ∧
  (∀ s : State, ∃ u, exec .lifeArmExpiry s = .next u ∧ ({ s with aon := u.aon } : State).Aside u (fun _ => False) ∧
    (∀ t, s.aon.armed = some t → s.time.us < t → u.aon.armed = some t) ∧ (∀ t, s.aon.armed = some t → t ≤ s.time.us → u.aon.armed = none)) ∧
  (∀ (s : State) (st i : Nat), s.lifeBusy = true → st = s.fld Page.dev DEV.LIFE_STATE_STATE → st ≤ 3 → i + 1 = nextSlot s.otp.slots →
    (∃ u, exec (.lifeTransitionDone .done) s = .next u ∧ u.lifeBusy = false ∧ u.fld Page.dev DEV.LIFE_STATE_STATE = st + 1 ∧
      u.otp.slots = s.otp.slots.set i (intentWord st, 2 ^ 64 - 1) ∧ u.flag Page.dev DEV.LIFE_STATE_INTENT_PENDING = false ∧
      (st = 3 → u.otp.keyDestroyed = true ∧ u.flag Page.dev DEV.LIFE_STATE_KEY_READY = false ∧ u.staging = {} ∧
        (∀ e ∈ u.assocs, e.2.key = 0) ∧ ∀ e ∈ u.channels, e.2.valid = false) ∧
      (st = 2 → u.otp.keyDestroyed = s.otp.keyDestroyed ∧ u.otp.keyEnabled = s.otp.keyEnabled ∧ u.assocs = s.assocs)) ∧
    ∀ met, met = .actionFails ∨ met = .commitFails → ∃ u, exec (.lifeTransitionDone met) s = .next u ∧ u.lifeBusy = false ∧
      u.fld Page.dev DEV.LIFE_STATE_STATE = st ∧ u.flag Page.dev DEV.LIFE_STATE_INTENT_PENDING = true ∧ u.otp.slots = s.otp.slots ∧
      u.fld Page.dev DEV.LIFE_STATE_REASON = 5 ∧ u.raised Page.dev DEV.S_OTP_ERROR = true) ∧
  (∀ (s : State) (refs : Fin 32) (pcie : Fin 4) (boot : Boot) (st i : Nat), s.aon.pwrgood = false → refs.val ≠ 0 →
    (st, i) = readSlots s.otp.slots → st ≤ 3 → ∃ u, exec (.pwrgoodRise refs pcie boot) s = .next u ∧
      ((∀ k, i ≤ k → slotUsed (s.otp.slots.getD k (0, 0)) = false) →
        u.fld Page.dev DEV.LIFE_STATE_STATE = st ∧ u.flag Page.dev DEV.LIFE_STATE_INTENT_PENDING = false ∧ u.otp = s.otp) ∧
      (boot.otpOk = true → i < s.otp.slots.length → Machine.intentOk st (s.otp.slots.getD i (0, 0)).1 = true →
        u.fld Page.dev DEV.LIFE_STATE_STATE = st + 1 ∧ u.raised Page.dev DEV.S_LIFE_RECOVERED = true ∧
        u.otp.slots = s.otp.slots.set i ((s.otp.slots.getD i (0, 0)).1, 2 ^ 64 - 1) ∧ (st = 3 → u.otp.keyDestroyed = true)) ∧
      (slotUsed (s.otp.slots.getD i (0, 0)) = true → (∀ k, i ≤ k → Machine.intentOk st (s.otp.slots.getD k (0, 0)).1 = false) →
        u.fld Page.dev DEV.LIFE_STATE_STATE = st ∧ u.flag Page.dev DEV.LIFE_STATE_INTENT_PENDING = true ∧
        u.raised Page.dev DEV.S_LIFE_INTENT_PENDING = true ∧ u.otp = s.otp)) ∧
  (∀ (s : State) (r : Req) (data : Word) (ok : Bool) (c : Instr) (st arg op code : Nat), s.accepts r Page.dev DEV.OTP_CMD 0 true = true →
    st = s.fld Page.dev DEV.LIFE_STATE_STATE → op = Word.bits data 46 2 → arg = Word.bits data 0 7 →
    (c = .otpRevoke r data ok ∧ op = 1 ∧ arg ≤ 3 ∨ c = .otpRaiseSvn r data ok ∧ op = 2) →
    code = (if st ≠ 2 ∧ st ≠ 3 then 4
      else if op = 1 then
        (if s.activeImage.any (fun im => im.key == arg) = true ∨ setBitN (s.fld Page.dev DEV.OTP_SEC_REVOKED) arg true = 15 then 2 else 0)
      else if arg ≤ s.fld Page.dev DEV.OTP_SEC_MIN_SVN ∨ 64 < arg ∨ s.activeImage.all (fun im => decide (im.svn < arg)) = true then 3 else 0) →
    (code ≠ 0 → ∃ u, exec c s = .next u ∧ u.fld Page.dev DEV.OTP_STATUS_CODE = code ∧ u.flag Page.dev DEV.OTP_STATUS_ERROR = true ∧
      u.flag Page.dev DEV.OTP_STATUS_DONE = true ∧ s.Aside u (fun a => a = slotAddr Page.dev DEV.OTP_STATUS 0)) ∧
    (code = 0 → ok = false → ∃ u, exec c s = .next u ∧ u.fld Page.dev DEV.OTP_STATUS_CODE = 5 ∧
      u.raised Page.dev DEV.S_OTP_ERROR = true ∧ s.Aside u (fun a => a = slotAddr Page.dev DEV.OTP_STATUS 0)) ∧
    (code = 0 → ok = true → ∃ u, exec c s = .next u ∧ u.fld Page.dev DEV.OTP_STATUS_CODE = 0 ∧
      u.flag Page.dev DEV.OTP_STATUS_ERROR = false ∧ u.flag Page.dev DEV.OTP_STATUS_DONE = true ∧
      (op = 1 → Nat.bitAt (u.fld Page.dev DEV.OTP_SEC_REVOKED) arg = true ∧
        ∀ k, k < 4 → k ≠ arg → Nat.bitAt (u.fld Page.dev DEV.OTP_SEC_REVOKED) k = Nat.bitAt (s.fld Page.dev DEV.OTP_SEC_REVOKED) k) ∧
      (op = 2 → u.fld Page.dev DEV.OTP_SEC_MIN_SVN = arg) ∧
      s.Aside u (fun a => a = slotAddr Page.dev DEV.OTP_STATUS 0 ∨ a = slotAddr Page.dev DEV.OTP_SEC 0))) ∧
  ∀ s : State, ∃ u, exec .identityKeyReady s = .next u ∧ s.Aside u (fun a => a = slotAddr Page.dev DEV.LIFE_STATE 0) ∧
    (s.aon.por = false → s.otp.keyEnabled = true → s.otp.keyDestroyed = false → u.flag Page.dev DEV.LIFE_STATE_KEY_READY = true) ∧
    (s.otp.keyEnabled = false ∨ s.otp.keyDestroyed = true →
      u.flag Page.dev DEV.LIFE_STATE_KEY_READY = s.flag Page.dev DEV.LIFE_STATE_KEY_READY)

/-- FLS_READ, FLS_PROGRAM, FLS_ERASE_4K, FLASH_OP_COMPLETE, REPORT_GENERATE and REPORT_DONE complete (tier 2; R647, R655, R656): a program
only turns ones into zeros, an erase sets its sector to ones, a refused command leaves the flash as it was, and a report of 272 bytes
replaces the previous one as it is done. The model's readings that it may rest on are its own: assumptions 75, 76. -/
def Obligations.FlashAndReport : Prop :=
  (∀ (s : State) (r : Req) (data : Word) (op d len a : Nat) (met : FlashEnd) (c : Instr), s.accepts r Page.fls FLS.FLS_CMD 0 true = true →
    op = Word.bits data 45 3 → d = Word.bits data 44 1 → len = Word.bits data 38 6 → a = Word.bits data 0 32 →
    (c = .flsRead r data met ∧ op = 1 ∨ c = .flsProgram r data ∧ op = 2 ∨ c = .flsErase4k r data ∧ op = 3) →
    (s.flag Page.fls FLS.FLS_CMD_STATUS_BUSY = true → ∃ u, exec c s = .next u ∧ u.fld Page.fls FLS.FLS_CMD_STATUS_CODE = 1 ∧
      s.Aside u (fun b => b = slotAddr Page.fls FLS.FLS_CMD_STATUS 0)) ∧
    (s.flag Page.fls FLS.FLS_CMD_STATUS_BUSY = false → s.flsCode op d len a ≠ 0 → ∃ u, exec c s = .next u ∧
      u.fld Page.fls FLS.FLS_CMD_STATUS_CODE = s.flsCode op d len a ∧ u.flag Page.fls FLS.FLS_CMD_STATUS_ERROR = true ∧
      u.flag Page.fls FLS.FLS_CMD_STATUS_DONE = true ∧ (s.flsCode op d len a = 3 → u.raised Page.fls FLS.S_PROTECT_REFUSED = true) ∧
      s.Aside u (fun b => b = slotAddr Page.fls FLS.FLS_CMD_STATUS 0)) ∧
    (s.flag Page.fls FLS.FLS_CMD_STATUS_BUSY = false → s.flsCode op d len a = 0 →
      (op = 1 → met = .done → ∃ u, exec c s = .next u ∧ u.flsBytes len = s.flashRead d a len ∧
        u.flag Page.fls FLS.FLS_CMD_STATUS_DONE = true ∧ u.flag Page.fls FLS.FLS_CMD_STATUS_ERROR = false ∧
        s.Aside u (fun b => b = slotAddr Page.fls FLS.FLS_CMD_STATUS 0 ∨ ∃ i, i < 8 ∧ b = slotAddr Page.fls FLS.FLS_DATA i)) ∧
      (op = 1 → met ≠ .done → ∃ u, exec c s = .next u ∧ u.fld Page.fls FLS.FLS_CMD_STATUS_CODE = (if met = .error then 5 else 6) ∧
        u.raised Page.fls FLS.S_FLASH_ERROR = true ∧
        u.reg Page.fls FLS.FLS_ERRORS = BitVec.ofNat 48 ((s.reg Page.fls FLS.FLS_ERRORS).toNat + 1) ∧ u.flash = s.flash) ∧
      (op ≠ 1 → ∃ u, exec c s = .next u ∧ u.aon.flashOp = some (op == 2, d, a, s.flsBytes len) ∧ u.flash = s.flash ∧
        u.flag Page.fls FLS.FLS_CMD_STATUS_BUSY = true ∧ u.fld Page.fls FLS.FLS_STATUS_HOLDER = 3 ∧
        ({ s with aon := u.aon } : State).Aside u (fun b => b = slotAddr Page.fls FLS.FLS_CMD_STATUS 0 ∨
          b = slotAddr Page.fls FLS.FLS_STATUS 0)))) ∧
  (∀ (s : State) (op d len a : Nat), op = 2 ∨ op = 3 → (op = 2 → 0 < len ∧ len ≤ 48) → s.flashStatus d = 1 → 2 ^ 23 ≤ s.flashSize d →
    (0x40000 ≤ a → a < 0x64000 → s.flag Page.fls FLS.FLS_PROTECT_CAL_HOST = false → s.flsCode op d len a = 3) ∧
    (a < 0x40000 → s.flag Page.fls FLS.FLS_PROTECT_IMG_WP = true → s.flsCode op d len a = 3)) ∧
  (∀ (s : State) (d a : Nat) (l : List Byte) (met : FlashEnd), s.aon.flashOp = some (true, d, a, l) →
    ∃ u, exec (.flashOpComplete met) s = .next u ∧ u.aon.flashOp = none ∧ u.flag Page.fls FLS.FLS_CMD_STATUS_BUSY = false ∧
      u.flag Page.fls FLS.FLS_CMD_STATUS_DONE = true ∧ u.flag Page.fls FLS.FLS_CMD_STATUS_ERROR = (met != .done) ∧
      (∀ k, k < flashKey d a ∨ flashKey d a + l.length ≤ k → u.flash.get k dflt.flash = s.flash.get k dflt.flash) ∧
      (∀ i, i < l.length → u.flash.get (flashKey d a + i) dflt.flash &&& s.flash.get (flashKey d a + i) dflt.flash =
          u.flash.get (flashKey d a + i) dflt.flash ∧
        (met = .done → u.flash.get (flashKey d a + i) dflt.flash = s.flash.get (flashKey d a + i) dflt.flash &&& l.getD i 0))) ∧
  (∀ (s : State) (d a : Nat) (l : List Byte) (met : FlashEnd), s.aon.flashOp = some (false, d, a, l) →
    ∃ u, exec (.flashOpComplete met) s = .next u ∧ u.aon.flashOp = none ∧
      (∀ k, k < flashKey d (a / 4096 * 4096) ∨ flashKey d (a / 4096 * 4096) + 4096 ≤ k →
        u.flash.get k dflt.flash = s.flash.get k dflt.flash) ∧
      (met = .done → ∀ i, i < 4096 → u.flash.get (flashKey d (a / 4096 * 4096) + i) dflt.flash = 0xFF) ∧
      (met ≠ .done → u.raised Page.fls FLS.S_FLASH_ERROR = true)) ∧
  (∀ (s : State) (r : Req) (data : Word), s.accepts r Page.dev DEV.REPORT_CMD 0 true = true → Word.bit data 0 = true →
    (s.flag Page.dev DEV.REPORT_STATUS_BUSY = false → ∃ u, exec (.reportGenerate r data) s = .next u ∧
      u.aon.pending = some (s.reportBody (s.aon.reports + 1)) ∧ u.aon.report = s.aon.report ∧
      u.flag Page.dev DEV.REPORT_STATUS_BUSY = true ∧ u.flag Page.dev DEV.REPORT_STATUS_DONE = false ∧
      ({ s with aon := u.aon } : State).Aside u (fun a => a = slotAddr Page.dev DEV.REPORT_STATUS 0)) ∧
    (s.flag Page.dev DEV.REPORT_STATUS_BUSY = true → ∃ u, exec (.reportGenerate r data) s = .next u ∧ s.Aside u (fun _ => False))) ∧
  (∀ (s : State) (body : List Byte), s.aon.pending = some body → ∃ u, exec .reportDone s = .next u ∧ u.aon.pending = none ∧
    u.aon.report.take body.length = body ∧ u.aon.report.length = body.length + 96 ∧ u.aon.reports = s.aon.reports + 1 ∧
    u.flag Page.dev DEV.REPORT_STATUS_DONE = true ∧ u.flag Page.dev DEV.REPORT_STATUS_BUSY = false ∧
    u.flag Page.dev DEV.REPORT_STATUS_SIGNED = s.flag Page.dev DEV.LIFE_STATE_KEY_READY ∧
    (s.flag Page.dev DEV.LIFE_STATE_KEY_READY = false → u.aon.report.drop body.length = zeros 96) ∧
    ({ s with aon := u.aon } : State).Aside u (fun a => a = slotAddr Page.dev DEV.REPORT_STATUS 0)) ∧
  ∀ (s : State) (n : Nat), (s.reportBody n).length = 176

/-! ## Package (22_package_and_electrical.md) -/

/-- THERMAL_SAMPLE, THERMTRIP and GPIO_EDGE complete (tier 2; R161, R679, R680, R682, R684): what the sensors read after a sample, which
sources it sets, when the device trips, and which edges are seen. What MAX_T shows from 128 °C up is open (assumption 47). The model's
readings that it may rest on are its own: assumptions 47, 77. -/
def Obligations.SensorsAndPins : Prop :=
  (∀ (s : State) (sensors : List (Option Int)) (engines : List Int), s.aon.por = false →
    ∃ u, exec (.thermalSample sensors engines) s = .next u ∧
      (∀ j, j < 48 → s.sensorOn j = true → ∀ t, sensors.getD j none = some t → -15360 ≤ t → t ≤ 51200 → u.sensor j = some t) ∧
      (∀ j, j < 48 → (s.sensorOn j = false ∨ sensors.getD j none = none ∨
        ∃ t, sensors.getD j none = some t ∧ (t < -15360 ∨ 51200 < t)) →
        u.sensor j = none ∧ u.fld Page.thm (sensorFld j) (j / 3) = 0x8000) ∧
      (∀ j, j < 48 → s.sensorOn j = true → u.sensor j = none →
        u.flag Page.thm THM.THM_STATUS_SENSOR_FAILED = true ∧
        (j ∉ s.aon.failed → u.raised Page.thm THM.S_SENSOR_FAIL = true)) ∧
      (∀ j t, j < 48 → u.sensor j = some t → t ≤ 32767 → (∀ i x, i < 48 → u.sensor i = some x → x ≤ t) →
        u.fld Page.thm THM.THM_STATUS_MAX_T = unsigned 16 t) ∧
      (∀ flag src v, (flag = THM.THM_STATUS_WARN ∧ src = THM.S_TEMP_WARN ∧ v = s.fld Page.thm THM.THM_CFG_WARN_T ∨
          flag = THM.THM_STATUS_HOT ∧ src = THM.S_TEMP_HOT ∧ v = s.fld Page.thm THM.THM_CFG_HOT_T) →
        (∀ j t, j < 48 → u.sensor j = some t → 256 * ((Nat.min v 150 : Nat) : Int) ≤ t → u.flag Page.thm flag = true ∧
          (Word.bit (s.reg Page.thm TB.FAULT_CAUSE) src = false → u.raised Page.thm src = true)) ∧
        ((∀ j t, j < 48 → u.sensor j = some t → t < 256 * ((Nat.min v 150 : Nat) : Int)) → u.flag Page.thm flag = false) ∧
        ((∀ j t, j < 48 → u.sensor j = some t → t < 256 * ((Nat.min v 150 : Nat) : Int) - 1280) →
          Word.bit (u.reg Page.thm TB.FAULT_CAUSE) src = false)) ∧
      (∀ k t, k < 18 → engines[k]? = some t → s.domainUp k = true → u.engTemp k = t ∧
        (145 * 256 < t → Word.bit (s.reg (Page.oen k) TB.FAULT_CAUSE) OEN.S_ENGINE_HOT = false →
          u.raised (Page.oen k) OEN.S_ENGINE_HOT = true)) ∧
      (∀ k, k < 18 → s.domainUp k = false → u.engTemp k = s.engTemp k) ∧
      ({ s with sensorT := u.sensorT, engineT := u.engineT, draws := u.draws, aon := u.aon } : State).Aside u (fun a =>
        a = slotAddr Page.thm THM.THM_STATUS 0 ∨ (∃ i, i < 16 ∧ a = slotAddr Page.thm THM.THM_SENSOR i) ∨
        ∃ k, k < 18 ∧ a = slotAddr (Page.oen k) OEN.OEN_STATUS 0)) ∧
  (∀ (s : State) (sensors : List (Option Int)) (engines : List Int), s.aon.por = true →
    ∃ u, exec (.thermalSample sensors engines) s = .next u ∧ s.Aside u (fun _ => False)) ∧
  (∀ (s : State) (trip : Prop), (trip ↔ (∃ j t, j < 48 ∧ s.sensor j = some t ∧ 158 * 256 ≤ t) ∨
      (∃ k, k < 18 ∧ s.domainUp k = true ∧ 158 * 256 ≤ s.engTemp k) ∨
      ∃ h, h < 4 ∧ s.flag Page.ovm OVM.STACK_STATUS_TRAINED h = true ∧ 115 * 256 ≤ signed 16 (s.fld Page.ovm OVM.STACK_STATUS_TEMP h)) →
    (trip → s.aon.por = false → ∃ u, exec .thermtrip s = .next u ∧ u.aon.por = true ∧ u.aon.tripped = true ∧ u.aon.tap = opIdcode ∧
      (∀ n, n < 36 → u.lmEn n = false) ∧ (∀ l, l < 768 → u.lstate l = 0) ∧ (∀ h, h < 2 → u.portUp h = false) ∧ u.pkts = [] ∧
      u.otp = s.otp) ∧
    (¬ trip ∨ s.aon.por = true → ∃ u, exec .thermtrip s = .next u ∧ s.Aside u (fun _ => False))) ∧
  ∀ (s : State) (pin : Fin 16) (high : Bool), s.aon.por = false →
    (Word.bit (s.reg Page.thm THM.GPIO_IN) pin = high → ∃ u, exec (.gpioEdge pin high) s = .next u ∧ s.Aside u (fun _ => False)) ∧
    (Word.bit (s.reg Page.thm THM.GPIO_IN) pin = !high → ∃ u, exec (.gpioEdge pin high) s = .next u ∧
      (∀ j, j < 16 → Word.bit (u.reg Page.thm THM.GPIO_IN) j = if j = pin.val then high else Word.bit (s.reg Page.thm THM.GPIO_IN) j) ∧
      (∀ j, j < 48 → Word.bit (u.reg Page.thm THM.GPIO_EDGE) j =
        (Word.bit (s.reg Page.thm THM.GPIO_EDGE) j ||
          (j == pin.val && Word.bit (s.reg Page.thm THM.GPIO_EDGE_EN) (if high then j else j + 16)))) ∧
      (Word.bit (s.reg Page.thm THM.GPIO_EDGE_EN) (if high then pin.val else pin.val + 16) = true →
        Word.bit (s.reg Page.thm THM.GPIO_EDGE) pin = false → u.raised Page.thm THM.S_GPIO_EDGE = true) ∧
      s.Aside u (fun a => a = slotAddr Page.thm THM.GPIO_IN 0 ∨ a = slotAddr Page.thm THM.GPIO_EDGE 0))

/-- EXTEST, CLAMP, HIGHZ, EXTEST_PULSE, EXTEST_TRAIN, IDCODE, SAMPLE_PRELOAD, BYPASS, FACTORY_INSTRUCTION, TAP_TEST_EXIT and TAP_RESET
complete (tier 2; R685 to R688): an instruction that stops all traffic darkens every lane and takes the host links down, and leaving it is
a device soft reset. The model's readings that it may rest on are its own: assumption 77. -/
def Obligations.TestAccess : Prop :=
  (∀ (s : State) (c : Instr) (op : Nat) (wearOk : Bool),
    (c = .extest wearOk ∧ op = 0x00 ∨ c = .clamp wearOk ∧ op = 0x04 ∨ c = .highz wearOk ∧ op = 0x05 ∨ c = .extestPulse wearOk ∧ op = 0x09 ∨
      c = .extestTrain wearOk ∧ op = 0x0A) →
    (s.aon.pwrgood = true → s.scanStops = false → s.aon.por = false → ∃ u, exec c s = .next u ∧ u.aon.tap = op ∧ u.scanStops = true ∧
      (∀ l, l < 768 → u.lstate l = 0) ∧ (∀ n, n < 36 → u.lmEn n = false) ∧ (∀ h, h < 2 → u.portUp h = false) ∧ u.otp = s.otp) ∧
    (s.aon.pwrgood = false ∨ s.scanStops = true ∨ s.aon.por = true → ∃ u, exec c s = .next u ∧
      ({ s with aon := { s.aon with tap := op } } : State).Aside u (fun _ => False))) ∧
  ∀ (s : State) (c : Instr) (op : Nat) (x : Restart),
    (c = .idcode x ∧ op = 0x01 ∨ c = .samplePreload x ∧ op = 0x02 ∨ c = .tapTestExit x ∧ op = 0xFF ∨ c = .tapReset x ∧ op = 0x01 ∨
      (∃ b : BitVec 8, c = .factoryInstruction b x ∧ op = b.toNat ∧ 0x80 ≤ op ∧ op ≤ 0xFE) ∨
      ∃ b : BitVec 8, c = .bypass b x ∧ op = b.toNat ∧ op ≠ 0x01 ∧ op ≠ 0x02 ∧
        (s.aon.pwrgood = false ∨ op ∉ [0x00, 0x04, 0x05, 0x09, 0x0A]) ∧
        (op < 0x80 ∨ op = 0xFF ∨ s.fld Page.dev DEV.LIFE_STATE_STATE ∉ [0, 1, 4])) →
    (s.scanStops = false ∨ s.aon.por = true → ∃ u, exec c s = .next u ∧
      ({ s with aon := { s.aon with tap := op } } : State).Aside u (fun _ => False)) ∧
    (s.scanStops = true → s.aon.por = false → s.lifeBusy = false → ∃ u, exec c s = .next u ∧ u.aon.tap = op ∧
      u.flag Page.dev DEV.DEV_STATUS_SOFT_BUSY = true ∧ u.flag Page.dev DEV.DEV_STATUS_HOLD = true ∧
      u.fld Page.dev DEV.RESET_CAUSE_CAUSE = 1 ∧ u.pkts = [] ∧ u.queues = [] ∧ u.otp = s.otp ∧
      ∀ h, h < 2 → u.reg (Page.hif h) HIF.LINK_STATUS = s.reg (Page.hif h) HIF.LINK_STATUS)
end

