-- ==== Sys2Proof/Laws/State.lean ====
section
/-!
SUPPORT. Sys2Proof/Laws/State.lean: what each basic update of the state leaves as it was, field by field.
-/
namespace Sys2Proof.Machine
variable (s : State) (p : Page) (f : Fld) (x i a : Nat) (v : Word) (b : Bool) (g : PageX) (o : Output)

@[simp] theorem State.setSlot_pages : (s.setSlot a v).pages = s.pages := rfl
@[simp] theorem State.setSlot_wraps : (s.setSlot a v).wraps = s.wraps := rfl
@[simp] theorem State.setSlot_msix : (s.setSlot a v).msix = s.msix := rfl
@[simp] theorem State.setSlot_fns : (s.setSlot a v).fns = s.fns := rfl
@[simp] theorem State.setSlot_hosts : (s.setSlot a v).hosts = s.hosts := rfl
@[simp] theorem State.setSlot_time : (s.setSlot a v).time = s.time := rfl
@[simp] theorem State.setSlot_out : (s.setSlot a v).out = s.out := rfl
@[simp] theorem State.setSlot_draws : (s.setSlot a v).draws = s.draws := rfl
@[simp] theorem State.setSlot_pending : (s.setSlot a v).pending = s.pending := rfl
@[simp] theorem State.setSlot_pkts : (s.setSlot a v).pkts = s.pkts := rfl
@[simp] theorem State.setSlot_nextPkt : (s.setSlot a v).nextPkt = s.nextPkt := rfl
@[simp] theorem State.setSlot_ringMsg : (s.setSlot a v).ringMsg = s.ringMsg := rfl
@[simp] theorem State.setSlot_txParts : (s.setSlot a v).txParts = s.txParts := rfl
@[simp] theorem State.setSlot_errHeld : (s.setSlot a v).errHeld = s.errHeld := rfl
@[simp] theorem State.setSlot_profiles : (s.setSlot a v).profiles = s.profiles := rfl
@[simp] theorem State.setSlot_bindings : (s.setSlot a v).bindings = s.bindings := rfl
@[simp] theorem State.setSlot_easements : (s.setSlot a v).easements = s.easements := rfl
@[simp] theorem State.setSlot_windows : (s.setSlot a v).windows = s.windows := rfl
@[simp] theorem State.setSlot_buckets : (s.setSlot a v).buckets = s.buckets := rfl
@[simp] theorem State.setSlot_entryCount : (s.setSlot a v).entryCount = s.entryCount := rfl
@[simp] theorem State.setSlot_bays : (s.setSlot a v).bays = s.bays := rfl
@[simp] theorem State.setSlot_feeds : (s.setSlot a v).feeds = s.feeds := rfl
@[simp] theorem State.setSlot_cals : (s.setSlot a v).cals = s.cals := rfl
@[simp] theorem State.setSlot_flash : (s.setSlot a v).flash = s.flash := rfl
@[simp] theorem State.setSlot_lanes : (s.setSlot a v).lanes = s.lanes := rfl
@[simp] theorem State.setSlot_ports : (s.setSlot a v).ports = s.ports := rfl
@[simp] theorem State.setSlot_slotWaits : (s.setSlot a v).slotWaits = s.slotWaits := rfl
@[simp] theorem State.setSlot_slotsUsed : (s.setSlot a v).slotsUsed = s.slotsUsed := rfl
@[simp] theorem State.setSlot_threads : (s.setSlot a v).threads = s.threads := rfl
@[simp] theorem State.setSlot_eventFlags : (s.setSlot a v).eventFlags = s.eventFlags := rfl
@[simp] theorem State.setSlot_bank0 : (s.setSlot a v).bank0 = s.bank0 := rfl
@[simp] theorem State.setSlot_bank1 : (s.setSlot a v).bank1 = s.bank1 := rfl
@[simp] theorem State.setSlot_stores : (s.setSlot a v).stores = s.stores := rfl
@[simp] theorem State.setSlot_stalledAt : (s.setSlot a v).stalledAt = s.stalledAt := rfl
@[simp] theorem State.setSlot_loadQueue : (s.setSlot a v).loadQueue = s.loadQueue := rfl
@[simp] theorem State.setSlot_laneRegs : (s.setSlot a v).laneRegs = s.laneRegs := rfl
@[simp] theorem State.setSlot_tsFifo : (s.setSlot a v).tsFifo = s.tsFifo := rfl
@[simp] theorem State.setSlot_channels : (s.setSlot a v).channels = s.channels := rfl
@[simp] theorem State.setSlot_assocs : (s.setSlot a v).assocs = s.assocs := rfl
@[simp] theorem State.setSlot_staging : (s.setSlot a v).staging = s.staging := rfl
@[simp] theorem State.setSlot_pnEvents : (s.setSlot a v).pnEvents = s.pnEvents := rfl
@[simp] theorem State.setSlot_retire : (s.setSlot a v).retire = s.retire := rfl
@[simp] theorem State.setSlot_ents : (s.setSlot a v).ents = s.ents := rfl
@[simp] theorem State.setSlot_tables : (s.setSlot a v).tables = s.tables := rfl
@[simp] theorem State.setSlot_hbmBodies : (s.setSlot a v).hbmBodies = s.hbmBodies := rfl
@[simp] theorem State.setSlot_hbmHits : (s.setSlot a v).hbmHits = s.hbmHits := rfl
@[simp] theorem State.setSlot_cache : (s.setSlot a v).cache = s.cache := rfl
@[simp] theorem State.setSlot_fills : (s.setSlot a v).fills = s.fills := rfl
@[simp] theorem State.setSlot_writeBacks : (s.setSlot a v).writeBacks = s.writeBacks := rfl
@[simp] theorem State.setSlot_learnQ : (s.setSlot a v).learnQ = s.learnQ := rfl
@[simp] theorem State.setSlot_notes : (s.setSlot a v).notes = s.notes := rfl
@[simp] theorem State.setSlot_rowsUsed : (s.setSlot a v).rowsUsed = s.rowsUsed := rfl
@[simp] theorem State.setSlot_seEnts : (s.setSlot a v).seEnts = s.seEnts := rfl
@[simp] theorem State.setSlot_tbcWait : (s.setSlot a v).tbcWait = s.tbcWait := rfl
@[simp] theorem State.setSlot_lfsrs : (s.setSlot a v).lfsrs = s.lfsrs := rfl
@[simp] theorem State.setSlot_stakes : (s.setSlot a v).stakes = s.stakes := rfl
@[simp] theorem State.setSlot_credits : (s.setSlot a v).credits = s.credits := rfl
@[simp] theorem State.setSlot_restores : (s.setSlot a v).restores = s.restores := rfl
@[simp] theorem State.setSlot_present : (s.setSlot a v).present = s.present := rfl
@[simp] theorem State.setSlot_carve : (s.setSlot a v).carve = s.carve := rfl
@[simp] theorem State.setSlot_alloc : (s.setSlot a v).alloc = s.alloc := rfl
@[simp] theorem State.setSlot_refFree : (s.setSlot a v).refFree = s.refFree := rfl
@[simp] theorem State.setSlot_retired : (s.setSlot a v).retired = s.retired := rfl
@[simp] theorem State.setSlot_quarantine : (s.setSlot a v).quarantine = s.quarantine := rfl
@[simp] theorem State.setSlot_chains : (s.setSlot a v).chains = s.chains := rfl
@[simp] theorem State.setSlot_nextChain : (s.setSlot a v).nextChain = s.nextChain := rfl
@[simp] theorem State.setSlot_psets : (s.setSlot a v).psets = s.psets := rfl
@[simp] theorem State.setSlot_islandTurn : (s.setSlot a v).islandTurn = s.islandTurn := rfl
@[simp] theorem State.setSlot_hostCopies : (s.setSlot a v).hostCopies = s.hostCopies := rfl
@[simp] theorem State.setSlot_rowFixed : (s.setSlot a v).rowFixed = s.rowFixed := rfl
@[simp] theorem State.setSlot_queues : (s.setSlot a v).queues = s.queues := rfl
@[simp] theorem State.setSlot_sched : (s.setSlot a v).sched = s.sched := rfl
@[simp] theorem State.setSlot_turns : (s.setSlot a v).turns = s.turns := rfl
@[simp] theorem State.setSlot_replQ : (s.setSlot a v).replQ = s.replQ := rfl
@[simp] theorem State.setSlot_holdEnds : (s.setSlot a v).holdEnds = s.holdEnds := rfl
@[simp] theorem State.setSlot_hbmChunks : (s.setSlot a v).hbmChunks = s.hbmChunks := rfl
@[simp] theorem State.setSlot_nextChunk : (s.setSlot a v).nextChunk = s.nextChunk := rfl
@[simp] theorem State.setSlot_pcTurn : (s.setSlot a v).pcTurn = s.pcTurn := rfl
@[simp] theorem State.setSlot_tblUnits : (s.setSlot a v).tblUnits = s.tblUnits := rfl
@[simp] theorem State.setSlot_flowUnits : (s.setSlot a v).flowUnits = s.flowUnits := rfl
@[simp] theorem State.setSlot_dumpUnits : (s.setSlot a v).dumpUnits = s.dumpUnits := rfl
@[simp] theorem State.setSlot_reserved : (s.setSlot a v).reserved = s.reserved := rfl
@[simp] theorem State.setSlot_relocating : (s.setSlot a v).relocating = s.relocating := rfl
@[simp] theorem State.setSlot_hbmBytes : (s.setSlot a v).hbmBytes = s.hbmBytes := rfl
@[simp] theorem State.setSlot_postponed : (s.setSlot a v).postponed = s.postponed := rfl
@[simp] theorem State.setSlot_wrTokens : (s.setSlot a v).wrTokens = s.wrTokens := rfl
@[simp] theorem State.setSlot_datums : (s.setSlot a v).datums = s.datums := rfl
@[simp] theorem State.setSlot_flows : (s.setSlot a v).flows = s.flows := rfl
@[simp] theorem State.setSlot_flowStore : (s.setSlot a v).flowStore = s.flowStore := rfl
@[simp] theorem State.setSlot_flowBack : (s.setSlot a v).flowBack = s.flowBack := rfl
@[simp] theorem State.setSlot_traces : (s.setSlot a v).traces = s.traces := rfl
@[simp] theorem State.setSlot_exports : (s.setSlot a v).exports = s.exports := rfl
@[simp] theorem State.setSlot_meters : (s.setSlot a v).meters = s.meters := rfl
@[simp] theorem State.setSlot_surveySlot : (s.setSlot a v).surveySlot = s.surveySlot := rfl
@[simp] theorem State.setSlot_dump : (s.setSlot a v).dump = s.dump := rfl
@[simp] theorem State.setSlot_xphase : (s.setSlot a v).xphase = s.xphase := rfl
@[simp] theorem State.setSlot_xcut : (s.setSlot a v).xcut = s.xcut := rfl
@[simp] theorem State.setSlot_dmpSince : (s.setSlot a v).dmpSince = s.dmpSince := rfl
@[simp] theorem State.setSlot_dumpAt : (s.setSlot a v).dumpAt = s.dumpAt := rfl
@[simp] theorem State.setSlot_otp : (s.setSlot a v).otp = s.otp := rfl
@[simp] theorem State.setSlot_aon : (s.setSlot a v).aon = s.aon := rfl
@[simp] theorem State.setSlot_sensorT : (s.setSlot a v).sensorT = s.sensorT := rfl
@[simp] theorem State.setSlot_engineT : (s.setSlot a v).engineT = s.engineT := rfl

@[simp] theorem State.setReg_pages : (s.setReg p f v i).pages = s.pages := rfl
@[simp] theorem State.setReg_wraps : (s.setReg p f v i).wraps = s.wraps := rfl
@[simp] theorem State.setReg_msix : (s.setReg p f v i).msix = s.msix := rfl
@[simp] theorem State.setReg_fns : (s.setReg p f v i).fns = s.fns := rfl
@[simp] theorem State.setReg_hosts : (s.setReg p f v i).hosts = s.hosts := rfl
@[simp] theorem State.setReg_time : (s.setReg p f v i).time = s.time := rfl
@[simp] theorem State.setReg_out : (s.setReg p f v i).out = s.out := rfl
@[simp] theorem State.setReg_draws : (s.setReg p f v i).draws = s.draws := rfl
@[simp] theorem State.setReg_pending : (s.setReg p f v i).pending = s.pending := rfl
@[simp] theorem State.setReg_pkts : (s.setReg p f v i).pkts = s.pkts := rfl
@[simp] theorem State.setReg_nextPkt : (s.setReg p f v i).nextPkt = s.nextPkt := rfl
@[simp] theorem State.setReg_ringMsg : (s.setReg p f v i).ringMsg = s.ringMsg := rfl
@[simp] theorem State.setReg_txParts : (s.setReg p f v i).txParts = s.txParts := rfl
@[simp] theorem State.setReg_errHeld : (s.setReg p f v i).errHeld = s.errHeld := rfl
@[simp] theorem State.setReg_profiles : (s.setReg p f v i).profiles = s.profiles := rfl
@[simp] theorem State.setReg_bindings : (s.setReg p f v i).bindings = s.bindings := rfl
@[simp] theorem State.setReg_easements : (s.setReg p f v i).easements = s.easements := rfl
@[simp] theorem State.setReg_windows : (s.setReg p f v i).windows = s.windows := rfl
@[simp] theorem State.setReg_buckets : (s.setReg p f v i).buckets = s.buckets := rfl
@[simp] theorem State.setReg_entryCount : (s.setReg p f v i).entryCount = s.entryCount := rfl
@[simp] theorem State.setReg_bays : (s.setReg p f v i).bays = s.bays := rfl
@[simp] theorem State.setReg_feeds : (s.setReg p f v i).feeds = s.feeds := rfl
@[simp] theorem State.setReg_cals : (s.setReg p f v i).cals = s.cals := rfl
@[simp] theorem State.setReg_flash : (s.setReg p f v i).flash = s.flash := rfl
@[simp] theorem State.setReg_lanes : (s.setReg p f v i).lanes = s.lanes := rfl
@[simp] theorem State.setReg_ports : (s.setReg p f v i).ports = s.ports := rfl
@[simp] theorem State.setReg_slotWaits : (s.setReg p f v i).slotWaits = s.slotWaits := rfl
@[simp] theorem State.setReg_slotsUsed : (s.setReg p f v i).slotsUsed = s.slotsUsed := rfl
@[simp] theorem State.setReg_threads : (s.setReg p f v i).threads = s.threads := rfl
@[simp] theorem State.setReg_eventFlags : (s.setReg p f v i).eventFlags = s.eventFlags := rfl
@[simp] theorem State.setReg_bank0 : (s.setReg p f v i).bank0 = s.bank0 := rfl
@[simp] theorem State.setReg_bank1 : (s.setReg p f v i).bank1 = s.bank1 := rfl
@[simp] theorem State.setReg_stores : (s.setReg p f v i).stores = s.stores := rfl
@[simp] theorem State.setReg_stalledAt : (s.setReg p f v i).stalledAt = s.stalledAt := rfl
@[simp] theorem State.setReg_loadQueue : (s.setReg p f v i).loadQueue = s.loadQueue := rfl
@[simp] theorem State.setReg_laneRegs : (s.setReg p f v i).laneRegs = s.laneRegs := rfl
@[simp] theorem State.setReg_tsFifo : (s.setReg p f v i).tsFifo = s.tsFifo := rfl
@[simp] theorem State.setReg_channels : (s.setReg p f v i).channels = s.channels := rfl
@[simp] theorem State.setReg_assocs : (s.setReg p f v i).assocs = s.assocs := rfl
@[simp] theorem State.setReg_staging : (s.setReg p f v i).staging = s.staging := rfl
@[simp] theorem State.setReg_pnEvents : (s.setReg p f v i).pnEvents = s.pnEvents := rfl
@[simp] theorem State.setReg_retire : (s.setReg p f v i).retire = s.retire := rfl
@[simp] theorem State.setReg_ents : (s.setReg p f v i).ents = s.ents := rfl
@[simp] theorem State.setReg_tables : (s.setReg p f v i).tables = s.tables := rfl
@[simp] theorem State.setReg_hbmBodies : (s.setReg p f v i).hbmBodies = s.hbmBodies := rfl
@[simp] theorem State.setReg_hbmHits : (s.setReg p f v i).hbmHits = s.hbmHits := rfl
@[simp] theorem State.setReg_cache : (s.setReg p f v i).cache = s.cache := rfl
@[simp] theorem State.setReg_fills : (s.setReg p f v i).fills = s.fills := rfl
@[simp] theorem State.setReg_writeBacks : (s.setReg p f v i).writeBacks = s.writeBacks := rfl
@[simp] theorem State.setReg_learnQ : (s.setReg p f v i).learnQ = s.learnQ := rfl
@[simp] theorem State.setReg_notes : (s.setReg p f v i).notes = s.notes := rfl
@[simp] theorem State.setReg_rowsUsed : (s.setReg p f v i).rowsUsed = s.rowsUsed := rfl
@[simp] theorem State.setReg_seEnts : (s.setReg p f v i).seEnts = s.seEnts := rfl
@[simp] theorem State.setReg_tbcWait : (s.setReg p f v i).tbcWait = s.tbcWait := rfl
@[simp] theorem State.setReg_lfsrs : (s.setReg p f v i).lfsrs = s.lfsrs := rfl
@[simp] theorem State.setReg_stakes : (s.setReg p f v i).stakes = s.stakes := rfl
@[simp] theorem State.setReg_credits : (s.setReg p f v i).credits = s.credits := rfl
@[simp] theorem State.setReg_restores : (s.setReg p f v i).restores = s.restores := rfl
@[simp] theorem State.setReg_present : (s.setReg p f v i).present = s.present := rfl
@[simp] theorem State.setReg_carve : (s.setReg p f v i).carve = s.carve := rfl
@[simp] theorem State.setReg_alloc : (s.setReg p f v i).alloc = s.alloc := rfl
@[simp] theorem State.setReg_refFree : (s.setReg p f v i).refFree = s.refFree := rfl
@[simp] theorem State.setReg_retired : (s.setReg p f v i).retired = s.retired := rfl
@[simp] theorem State.setReg_quarantine : (s.setReg p f v i).quarantine = s.quarantine := rfl
@[simp] theorem State.setReg_chains : (s.setReg p f v i).chains = s.chains := rfl
@[simp] theorem State.setReg_nextChain : (s.setReg p f v i).nextChain = s.nextChain := rfl
@[simp] theorem State.setReg_psets : (s.setReg p f v i).psets = s.psets := rfl
@[simp] theorem State.setReg_islandTurn : (s.setReg p f v i).islandTurn = s.islandTurn := rfl
@[simp] theorem State.setReg_hostCopies : (s.setReg p f v i).hostCopies = s.hostCopies := rfl
@[simp] theorem State.setReg_rowFixed : (s.setReg p f v i).rowFixed = s.rowFixed := rfl
@[simp] theorem State.setReg_queues : (s.setReg p f v i).queues = s.queues := rfl
@[simp] theorem State.setReg_sched : (s.setReg p f v i).sched = s.sched := rfl
@[simp] theorem State.setReg_turns : (s.setReg p f v i).turns = s.turns := rfl
@[simp] theorem State.setReg_replQ : (s.setReg p f v i).replQ = s.replQ := rfl
@[simp] theorem State.setReg_holdEnds : (s.setReg p f v i).holdEnds = s.holdEnds := rfl
@[simp] theorem State.setReg_hbmChunks : (s.setReg p f v i).hbmChunks = s.hbmChunks := rfl
@[simp] theorem State.setReg_nextChunk : (s.setReg p f v i).nextChunk = s.nextChunk := rfl
@[simp] theorem State.setReg_pcTurn : (s.setReg p f v i).pcTurn = s.pcTurn := rfl
@[simp] theorem State.setReg_tblUnits : (s.setReg p f v i).tblUnits = s.tblUnits := rfl
@[simp] theorem State.setReg_flowUnits : (s.setReg p f v i).flowUnits = s.flowUnits := rfl
@[simp] theorem State.setReg_dumpUnits : (s.setReg p f v i).dumpUnits = s.dumpUnits := rfl
@[simp] theorem State.setReg_reserved : (s.setReg p f v i).reserved = s.reserved := rfl
@[simp] theorem State.setReg_relocating : (s.setReg p f v i).relocating = s.relocating := rfl
@[simp] theorem State.setReg_hbmBytes : (s.setReg p f v i).hbmBytes = s.hbmBytes := rfl
@[simp] theorem State.setReg_postponed : (s.setReg p f v i).postponed = s.postponed := rfl
@[simp] theorem State.setReg_wrTokens : (s.setReg p f v i).wrTokens = s.wrTokens := rfl
@[simp] theorem State.setReg_datums : (s.setReg p f v i).datums = s.datums := rfl
@[simp] theorem State.setReg_flows : (s.setReg p f v i).flows = s.flows := rfl
@[simp] theorem State.setReg_flowStore : (s.setReg p f v i).flowStore = s.flowStore := rfl
@[simp] theorem State.setReg_flowBack : (s.setReg p f v i).flowBack = s.flowBack := rfl
@[simp] theorem State.setReg_traces : (s.setReg p f v i).traces = s.traces := rfl
@[simp] theorem State.setReg_exports : (s.setReg p f v i).exports = s.exports := rfl
@[simp] theorem State.setReg_meters : (s.setReg p f v i).meters = s.meters := rfl
@[simp] theorem State.setReg_surveySlot : (s.setReg p f v i).surveySlot = s.surveySlot := rfl
@[simp] theorem State.setReg_dump : (s.setReg p f v i).dump = s.dump := rfl
@[simp] theorem State.setReg_xphase : (s.setReg p f v i).xphase = s.xphase := rfl
@[simp] theorem State.setReg_xcut : (s.setReg p f v i).xcut = s.xcut := rfl
@[simp] theorem State.setReg_dmpSince : (s.setReg p f v i).dmpSince = s.dmpSince := rfl
@[simp] theorem State.setReg_dumpAt : (s.setReg p f v i).dumpAt = s.dumpAt := rfl
@[simp] theorem State.setReg_otp : (s.setReg p f v i).otp = s.otp := rfl
@[simp] theorem State.setReg_aon : (s.setReg p f v i).aon = s.aon := rfl
@[simp] theorem State.setReg_sensorT : (s.setReg p f v i).sensorT = s.sensorT := rfl
@[simp] theorem State.setReg_engineT : (s.setReg p f v i).engineT = s.engineT := rfl

@[simp] theorem State.setFld_pages : (s.setFld p f x i).pages = s.pages := rfl
@[simp] theorem State.setFld_wraps : (s.setFld p f x i).wraps = s.wraps := rfl
@[simp] theorem State.setFld_msix : (s.setFld p f x i).msix = s.msix := rfl
@[simp] theorem State.setFld_fns : (s.setFld p f x i).fns = s.fns := rfl
@[simp] theorem State.setFld_hosts : (s.setFld p f x i).hosts = s.hosts := rfl
@[simp] theorem State.setFld_time : (s.setFld p f x i).time = s.time := rfl
@[simp] theorem State.setFld_out : (s.setFld p f x i).out = s.out := rfl
@[simp] theorem State.setFld_draws : (s.setFld p f x i).draws = s.draws := rfl
@[simp] theorem State.setFld_pending : (s.setFld p f x i).pending = s.pending := rfl
@[simp] theorem State.setFld_pkts : (s.setFld p f x i).pkts = s.pkts := rfl
@[simp] theorem State.setFld_nextPkt : (s.setFld p f x i).nextPkt = s.nextPkt := rfl
@[simp] theorem State.setFld_ringMsg : (s.setFld p f x i).ringMsg = s.ringMsg := rfl
@[simp] theorem State.setFld_txParts : (s.setFld p f x i).txParts = s.txParts := rfl
@[simp] theorem State.setFld_errHeld : (s.setFld p f x i).errHeld = s.errHeld := rfl
@[simp] theorem State.setFld_profiles : (s.setFld p f x i).profiles = s.profiles := rfl
@[simp] theorem State.setFld_bindings : (s.setFld p f x i).bindings = s.bindings := rfl
@[simp] theorem State.setFld_easements : (s.setFld p f x i).easements = s.easements := rfl
@[simp] theorem State.setFld_windows : (s.setFld p f x i).windows = s.windows := rfl
@[simp] theorem State.setFld_buckets : (s.setFld p f x i).buckets = s.buckets := rfl
@[simp] theorem State.setFld_entryCount : (s.setFld p f x i).entryCount = s.entryCount := rfl
@[simp] theorem State.setFld_bays : (s.setFld p f x i).bays = s.bays := rfl
@[simp] theorem State.setFld_feeds : (s.setFld p f x i).feeds = s.feeds := rfl
@[simp] theorem State.setFld_cals : (s.setFld p f x i).cals = s.cals := rfl
@[simp] theorem State.setFld_flash : (s.setFld p f x i).flash = s.flash := rfl
@[simp] theorem State.setFld_lanes : (s.setFld p f x i).lanes = s.lanes := rfl
@[simp] theorem State.setFld_ports : (s.setFld p f x i).ports = s.ports := rfl
@[simp] theorem State.setFld_slotWaits : (s.setFld p f x i).slotWaits = s.slotWaits := rfl
@[simp] theorem State.setFld_slotsUsed : (s.setFld p f x i).slotsUsed = s.slotsUsed := rfl
@[simp] theorem State.setFld_threads : (s.setFld p f x i).threads = s.threads := rfl
@[simp] theorem State.setFld_eventFlags : (s.setFld p f x i).eventFlags = s.eventFlags := rfl
@[simp] theorem State.setFld_bank0 : (s.setFld p f x i).bank0 = s.bank0 := rfl
@[simp] theorem State.setFld_bank1 : (s.setFld p f x i).bank1 = s.bank1 := rfl
@[simp] theorem State.setFld_stores : (s.setFld p f x i).stores = s.stores := rfl
@[simp] theorem State.setFld_stalledAt : (s.setFld p f x i).stalledAt = s.stalledAt := rfl
@[simp] theorem State.setFld_loadQueue : (s.setFld p f x i).loadQueue = s.loadQueue := rfl
@[simp] theorem State.setFld_laneRegs : (s.setFld p f x i).laneRegs = s.laneRegs := rfl
@[simp] theorem State.setFld_tsFifo : (s.setFld p f x i).tsFifo = s.tsFifo := rfl
@[simp] theorem State.setFld_channels : (s.setFld p f x i).channels = s.channels := rfl
@[simp] theorem State.setFld_assocs : (s.setFld p f x i).assocs = s.assocs := rfl
@[simp] theorem State.setFld_staging : (s.setFld p f x i).staging = s.staging := rfl
@[simp] theorem State.setFld_pnEvents : (s.setFld p f x i).pnEvents = s.pnEvents := rfl
@[simp] theorem State.setFld_retire : (s.setFld p f x i).retire = s.retire := rfl
@[simp] theorem State.setFld_ents : (s.setFld p f x i).ents = s.ents := rfl
@[simp] theorem State.setFld_tables : (s.setFld p f x i).tables = s.tables := rfl
@[simp] theorem State.setFld_hbmBodies : (s.setFld p f x i).hbmBodies = s.hbmBodies := rfl
@[simp] theorem State.setFld_hbmHits : (s.setFld p f x i).hbmHits = s.hbmHits := rfl
@[simp] theorem State.setFld_cache : (s.setFld p f x i).cache = s.cache := rfl
@[simp] theorem State.setFld_fills : (s.setFld p f x i).fills = s.fills := rfl
@[simp] theorem State.setFld_writeBacks : (s.setFld p f x i).writeBacks = s.writeBacks := rfl
@[simp] theorem State.setFld_learnQ : (s.setFld p f x i).learnQ = s.learnQ := rfl
@[simp] theorem State.setFld_notes : (s.setFld p f x i).notes = s.notes := rfl
@[simp] theorem State.setFld_rowsUsed : (s.setFld p f x i).rowsUsed = s.rowsUsed := rfl
@[simp] theorem State.setFld_seEnts : (s.setFld p f x i).seEnts = s.seEnts := rfl
@[simp] theorem State.setFld_tbcWait : (s.setFld p f x i).tbcWait = s.tbcWait := rfl
@[simp] theorem State.setFld_lfsrs : (s.setFld p f x i).lfsrs = s.lfsrs := rfl
@[simp] theorem State.setFld_stakes : (s.setFld p f x i).stakes = s.stakes := rfl
@[simp] theorem State.setFld_credits : (s.setFld p f x i).credits = s.credits := rfl
@[simp] theorem State.setFld_restores : (s.setFld p f x i).restores = s.restores := rfl
@[simp] theorem State.setFld_present : (s.setFld p f x i).present = s.present := rfl
@[simp] theorem State.setFld_carve : (s.setFld p f x i).carve = s.carve := rfl
@[simp] theorem State.setFld_alloc : (s.setFld p f x i).alloc = s.alloc := rfl
@[simp] theorem State.setFld_refFree : (s.setFld p f x i).refFree = s.refFree := rfl
@[simp] theorem State.setFld_retired : (s.setFld p f x i).retired = s.retired := rfl
@[simp] theorem State.setFld_quarantine : (s.setFld p f x i).quarantine = s.quarantine := rfl
@[simp] theorem State.setFld_chains : (s.setFld p f x i).chains = s.chains := rfl
@[simp] theorem State.setFld_nextChain : (s.setFld p f x i).nextChain = s.nextChain := rfl
@[simp] theorem State.setFld_psets : (s.setFld p f x i).psets = s.psets := rfl
@[simp] theorem State.setFld_islandTurn : (s.setFld p f x i).islandTurn = s.islandTurn := rfl
@[simp] theorem State.setFld_hostCopies : (s.setFld p f x i).hostCopies = s.hostCopies := rfl
@[simp] theorem State.setFld_rowFixed : (s.setFld p f x i).rowFixed = s.rowFixed := rfl
@[simp] theorem State.setFld_queues : (s.setFld p f x i).queues = s.queues := rfl
@[simp] theorem State.setFld_sched : (s.setFld p f x i).sched = s.sched := rfl
@[simp] theorem State.setFld_turns : (s.setFld p f x i).turns = s.turns := rfl
@[simp] theorem State.setFld_replQ : (s.setFld p f x i).replQ = s.replQ := rfl
@[simp] theorem State.setFld_holdEnds : (s.setFld p f x i).holdEnds = s.holdEnds := rfl
@[simp] theorem State.setFld_hbmChunks : (s.setFld p f x i).hbmChunks = s.hbmChunks := rfl
@[simp] theorem State.setFld_nextChunk : (s.setFld p f x i).nextChunk = s.nextChunk := rfl
@[simp] theorem State.setFld_pcTurn : (s.setFld p f x i).pcTurn = s.pcTurn := rfl
@[simp] theorem State.setFld_tblUnits : (s.setFld p f x i).tblUnits = s.tblUnits := rfl
@[simp] theorem State.setFld_flowUnits : (s.setFld p f x i).flowUnits = s.flowUnits := rfl
@[simp] theorem State.setFld_dumpUnits : (s.setFld p f x i).dumpUnits = s.dumpUnits := rfl
@[simp] theorem State.setFld_reserved : (s.setFld p f x i).reserved = s.reserved := rfl
@[simp] theorem State.setFld_relocating : (s.setFld p f x i).relocating = s.relocating := rfl
@[simp] theorem State.setFld_hbmBytes : (s.setFld p f x i).hbmBytes = s.hbmBytes := rfl
@[simp] theorem State.setFld_postponed : (s.setFld p f x i).postponed = s.postponed := rfl
@[simp] theorem State.setFld_wrTokens : (s.setFld p f x i).wrTokens = s.wrTokens := rfl
@[simp] theorem State.setFld_datums : (s.setFld p f x i).datums = s.datums := rfl
@[simp] theorem State.setFld_flows : (s.setFld p f x i).flows = s.flows := rfl
@[simp] theorem State.setFld_flowStore : (s.setFld p f x i).flowStore = s.flowStore := rfl
@[simp] theorem State.setFld_flowBack : (s.setFld p f x i).flowBack = s.flowBack := rfl
@[simp] theorem State.setFld_traces : (s.setFld p f x i).traces = s.traces := rfl
@[simp] theorem State.setFld_exports : (s.setFld p f x i).exports = s.exports := rfl
@[simp] theorem State.setFld_meters : (s.setFld p f x i).meters = s.meters := rfl
@[simp] theorem State.setFld_surveySlot : (s.setFld p f x i).surveySlot = s.surveySlot := rfl
@[simp] theorem State.setFld_dump : (s.setFld p f x i).dump = s.dump := rfl
@[simp] theorem State.setFld_xphase : (s.setFld p f x i).xphase = s.xphase := rfl
@[simp] theorem State.setFld_xcut : (s.setFld p f x i).xcut = s.xcut := rfl
@[simp] theorem State.setFld_dmpSince : (s.setFld p f x i).dmpSince = s.dmpSince := rfl
@[simp] theorem State.setFld_dumpAt : (s.setFld p f x i).dumpAt = s.dumpAt := rfl
@[simp] theorem State.setFld_otp : (s.setFld p f x i).otp = s.otp := rfl
@[simp] theorem State.setFld_aon : (s.setFld p f x i).aon = s.aon := rfl
@[simp] theorem State.setFld_sensorT : (s.setFld p f x i).sensorT = s.sensorT := rfl
@[simp] theorem State.setFld_engineT : (s.setFld p f x i).engineT = s.engineT := rfl

@[simp] theorem State.setFlag_pages : (s.setFlag p f b i).pages = s.pages := rfl
@[simp] theorem State.setFlag_wraps : (s.setFlag p f b i).wraps = s.wraps := rfl
@[simp] theorem State.setFlag_msix : (s.setFlag p f b i).msix = s.msix := rfl
@[simp] theorem State.setFlag_fns : (s.setFlag p f b i).fns = s.fns := rfl
@[simp] theorem State.setFlag_hosts : (s.setFlag p f b i).hosts = s.hosts := rfl
@[simp] theorem State.setFlag_time : (s.setFlag p f b i).time = s.time := rfl
@[simp] theorem State.setFlag_out : (s.setFlag p f b i).out = s.out := rfl
@[simp] theorem State.setFlag_draws : (s.setFlag p f b i).draws = s.draws := rfl
@[simp] theorem State.setFlag_pending : (s.setFlag p f b i).pending = s.pending := rfl
@[simp] theorem State.setFlag_pkts : (s.setFlag p f b i).pkts = s.pkts := rfl
@[simp] theorem State.setFlag_nextPkt : (s.setFlag p f b i).nextPkt = s.nextPkt := rfl
@[simp] theorem State.setFlag_ringMsg : (s.setFlag p f b i).ringMsg = s.ringMsg := rfl
@[simp] theorem State.setFlag_txParts : (s.setFlag p f b i).txParts = s.txParts := rfl
@[simp] theorem State.setFlag_errHeld : (s.setFlag p f b i).errHeld = s.errHeld := rfl
@[simp] theorem State.setFlag_profiles : (s.setFlag p f b i).profiles = s.profiles := rfl
@[simp] theorem State.setFlag_bindings : (s.setFlag p f b i).bindings = s.bindings := rfl
@[simp] theorem State.setFlag_easements : (s.setFlag p f b i).easements = s.easements := rfl
@[simp] theorem State.setFlag_windows : (s.setFlag p f b i).windows = s.windows := rfl
@[simp] theorem State.setFlag_buckets : (s.setFlag p f b i).buckets = s.buckets := rfl
@[simp] theorem State.setFlag_entryCount : (s.setFlag p f b i).entryCount = s.entryCount := rfl
@[simp] theorem State.setFlag_bays : (s.setFlag p f b i).bays = s.bays := rfl
@[simp] theorem State.setFlag_feeds : (s.setFlag p f b i).feeds = s.feeds := rfl
@[simp] theorem State.setFlag_cals : (s.setFlag p f b i).cals = s.cals := rfl
@[simp] theorem State.setFlag_flash : (s.setFlag p f b i).flash = s.flash := rfl
@[simp] theorem State.setFlag_lanes : (s.setFlag p f b i).lanes = s.lanes := rfl
@[simp] theorem State.setFlag_ports : (s.setFlag p f b i).ports = s.ports := rfl
@[simp] theorem State.setFlag_slotWaits : (s.setFlag p f b i).slotWaits = s.slotWaits := rfl
@[simp] theorem State.setFlag_slotsUsed : (s.setFlag p f b i).slotsUsed = s.slotsUsed := rfl
@[simp] theorem State.setFlag_threads : (s.setFlag p f b i).threads = s.threads := rfl
@[simp] theorem State.setFlag_eventFlags : (s.setFlag p f b i).eventFlags = s.eventFlags := rfl
@[simp] theorem State.setFlag_bank0 : (s.setFlag p f b i).bank0 = s.bank0 := rfl
@[simp] theorem State.setFlag_bank1 : (s.setFlag p f b i).bank1 = s.bank1 := rfl
@[simp] theorem State.setFlag_stores : (s.setFlag p f b i).stores = s.stores := rfl
@[simp] theorem State.setFlag_stalledAt : (s.setFlag p f b i).stalledAt = s.stalledAt := rfl
@[simp] theorem State.setFlag_loadQueue : (s.setFlag p f b i).loadQueue = s.loadQueue := rfl
@[simp] theorem State.setFlag_laneRegs : (s.setFlag p f b i).laneRegs = s.laneRegs := rfl
@[simp] theorem State.setFlag_tsFifo : (s.setFlag p f b i).tsFifo = s.tsFifo := rfl
@[simp] theorem State.setFlag_channels : (s.setFlag p f b i).channels = s.channels := rfl
@[simp] theorem State.setFlag_assocs : (s.setFlag p f b i).assocs = s.assocs := rfl
@[simp] theorem State.setFlag_staging : (s.setFlag p f b i).staging = s.staging := rfl
@[simp] theorem State.setFlag_pnEvents : (s.setFlag p f b i).pnEvents = s.pnEvents := rfl
@[simp] theorem State.setFlag_retire : (s.setFlag p f b i).retire = s.retire := rfl
@[simp] theorem State.setFlag_ents : (s.setFlag p f b i).ents = s.ents := rfl
@[simp] theorem State.setFlag_tables : (s.setFlag p f b i).tables = s.tables := rfl
@[simp] theorem State.setFlag_hbmBodies : (s.setFlag p f b i).hbmBodies = s.hbmBodies := rfl
@[simp] theorem State.setFlag_hbmHits : (s.setFlag p f b i).hbmHits = s.hbmHits := rfl
@[simp] theorem State.setFlag_cache : (s.setFlag p f b i).cache = s.cache := rfl
@[simp] theorem State.setFlag_fills : (s.setFlag p f b i).fills = s.fills := rfl
@[simp] theorem State.setFlag_writeBacks : (s.setFlag p f b i).writeBacks = s.writeBacks := rfl
@[simp] theorem State.setFlag_learnQ : (s.setFlag p f b i).learnQ = s.learnQ := rfl
@[simp] theorem State.setFlag_notes : (s.setFlag p f b i).notes = s.notes := rfl
@[simp] theorem State.setFlag_rowsUsed : (s.setFlag p f b i).rowsUsed = s.rowsUsed := rfl
@[simp] theorem State.setFlag_seEnts : (s.setFlag p f b i).seEnts = s.seEnts := rfl
@[simp] theorem State.setFlag_tbcWait : (s.setFlag p f b i).tbcWait = s.tbcWait := rfl
@[simp] theorem State.setFlag_lfsrs : (s.setFlag p f b i).lfsrs = s.lfsrs := rfl
@[simp] theorem State.setFlag_stakes : (s.setFlag p f b i).stakes = s.stakes := rfl
@[simp] theorem State.setFlag_credits : (s.setFlag p f b i).credits = s.credits := rfl
@[simp] theorem State.setFlag_restores : (s.setFlag p f b i).restores = s.restores := rfl
@[simp] theorem State.setFlag_present : (s.setFlag p f b i).present = s.present := rfl
@[simp] theorem State.setFlag_carve : (s.setFlag p f b i).carve = s.carve := rfl
@[simp] theorem State.setFlag_alloc : (s.setFlag p f b i).alloc = s.alloc := rfl
@[simp] theorem State.setFlag_refFree : (s.setFlag p f b i).refFree = s.refFree := rfl
@[simp] theorem State.setFlag_retired : (s.setFlag p f b i).retired = s.retired := rfl
@[simp] theorem State.setFlag_quarantine : (s.setFlag p f b i).quarantine = s.quarantine := rfl
@[simp] theorem State.setFlag_chains : (s.setFlag p f b i).chains = s.chains := rfl
@[simp] theorem State.setFlag_nextChain : (s.setFlag p f b i).nextChain = s.nextChain := rfl
@[simp] theorem State.setFlag_psets : (s.setFlag p f b i).psets = s.psets := rfl
@[simp] theorem State.setFlag_islandTurn : (s.setFlag p f b i).islandTurn = s.islandTurn := rfl
@[simp] theorem State.setFlag_hostCopies : (s.setFlag p f b i).hostCopies = s.hostCopies := rfl
@[simp] theorem State.setFlag_rowFixed : (s.setFlag p f b i).rowFixed = s.rowFixed := rfl
@[simp] theorem State.setFlag_queues : (s.setFlag p f b i).queues = s.queues := rfl
@[simp] theorem State.setFlag_sched : (s.setFlag p f b i).sched = s.sched := rfl
@[simp] theorem State.setFlag_turns : (s.setFlag p f b i).turns = s.turns := rfl
@[simp] theorem State.setFlag_replQ : (s.setFlag p f b i).replQ = s.replQ := rfl
@[simp] theorem State.setFlag_holdEnds : (s.setFlag p f b i).holdEnds = s.holdEnds := rfl
@[simp] theorem State.setFlag_hbmChunks : (s.setFlag p f b i).hbmChunks = s.hbmChunks := rfl
@[simp] theorem State.setFlag_nextChunk : (s.setFlag p f b i).nextChunk = s.nextChunk := rfl
@[simp] theorem State.setFlag_pcTurn : (s.setFlag p f b i).pcTurn = s.pcTurn := rfl
@[simp] theorem State.setFlag_tblUnits : (s.setFlag p f b i).tblUnits = s.tblUnits := rfl
@[simp] theorem State.setFlag_flowUnits : (s.setFlag p f b i).flowUnits = s.flowUnits := rfl
@[simp] theorem State.setFlag_dumpUnits : (s.setFlag p f b i).dumpUnits = s.dumpUnits := rfl
@[simp] theorem State.setFlag_reserved : (s.setFlag p f b i).reserved = s.reserved := rfl
@[simp] theorem State.setFlag_relocating : (s.setFlag p f b i).relocating = s.relocating := rfl
@[simp] theorem State.setFlag_hbmBytes : (s.setFlag p f b i).hbmBytes = s.hbmBytes := rfl
@[simp] theorem State.setFlag_postponed : (s.setFlag p f b i).postponed = s.postponed := rfl
@[simp] theorem State.setFlag_wrTokens : (s.setFlag p f b i).wrTokens = s.wrTokens := rfl
@[simp] theorem State.setFlag_datums : (s.setFlag p f b i).datums = s.datums := rfl
@[simp] theorem State.setFlag_flows : (s.setFlag p f b i).flows = s.flows := rfl
@[simp] theorem State.setFlag_flowStore : (s.setFlag p f b i).flowStore = s.flowStore := rfl
@[simp] theorem State.setFlag_flowBack : (s.setFlag p f b i).flowBack = s.flowBack := rfl
@[simp] theorem State.setFlag_traces : (s.setFlag p f b i).traces = s.traces := rfl
@[simp] theorem State.setFlag_exports : (s.setFlag p f b i).exports = s.exports := rfl
@[simp] theorem State.setFlag_meters : (s.setFlag p f b i).meters = s.meters := rfl
@[simp] theorem State.setFlag_surveySlot : (s.setFlag p f b i).surveySlot = s.surveySlot := rfl
@[simp] theorem State.setFlag_dump : (s.setFlag p f b i).dump = s.dump := rfl
@[simp] theorem State.setFlag_xphase : (s.setFlag p f b i).xphase = s.xphase := rfl
@[simp] theorem State.setFlag_xcut : (s.setFlag p f b i).xcut = s.xcut := rfl
@[simp] theorem State.setFlag_dmpSince : (s.setFlag p f b i).dmpSince = s.dmpSince := rfl
@[simp] theorem State.setFlag_dumpAt : (s.setFlag p f b i).dumpAt = s.dumpAt := rfl
@[simp] theorem State.setFlag_otp : (s.setFlag p f b i).otp = s.otp := rfl
@[simp] theorem State.setFlag_aon : (s.setFlag p f b i).aon = s.aon := rfl
@[simp] theorem State.setFlag_sensorT : (s.setFlag p f b i).sensorT = s.sensorT := rfl
@[simp] theorem State.setFlag_engineT : (s.setFlag p f b i).engineT = s.engineT := rfl

@[simp] theorem State.setPg_regs : (s.setPg p g).regs = s.regs := rfl
@[simp] theorem State.setPg_wraps : (s.setPg p g).wraps = s.wraps := rfl
@[simp] theorem State.setPg_msix : (s.setPg p g).msix = s.msix := rfl
@[simp] theorem State.setPg_fns : (s.setPg p g).fns = s.fns := rfl
@[simp] theorem State.setPg_hosts : (s.setPg p g).hosts = s.hosts := rfl
@[simp] theorem State.setPg_time : (s.setPg p g).time = s.time := rfl
@[simp] theorem State.setPg_out : (s.setPg p g).out = s.out := rfl
@[simp] theorem State.setPg_draws : (s.setPg p g).draws = s.draws := rfl
@[simp] theorem State.setPg_pending : (s.setPg p g).pending = s.pending := rfl
@[simp] theorem State.setPg_pkts : (s.setPg p g).pkts = s.pkts := rfl
@[simp] theorem State.setPg_nextPkt : (s.setPg p g).nextPkt = s.nextPkt := rfl
@[simp] theorem State.setPg_ringMsg : (s.setPg p g).ringMsg = s.ringMsg := rfl
@[simp] theorem State.setPg_txParts : (s.setPg p g).txParts = s.txParts := rfl
@[simp] theorem State.setPg_errHeld : (s.setPg p g).errHeld = s.errHeld := rfl
@[simp] theorem State.setPg_profiles : (s.setPg p g).profiles = s.profiles := rfl
@[simp] theorem State.setPg_bindings : (s.setPg p g).bindings = s.bindings := rfl
@[simp] theorem State.setPg_easements : (s.setPg p g).easements = s.easements := rfl
@[simp] theorem State.setPg_windows : (s.setPg p g).windows = s.windows := rfl
@[simp] theorem State.setPg_buckets : (s.setPg p g).buckets = s.buckets := rfl
@[simp] theorem State.setPg_entryCount : (s.setPg p g).entryCount = s.entryCount := rfl
@[simp] theorem State.setPg_bays : (s.setPg p g).bays = s.bays := rfl
@[simp] theorem State.setPg_feeds : (s.setPg p g).feeds = s.feeds := rfl
@[simp] theorem State.setPg_cals : (s.setPg p g).cals = s.cals := rfl
@[simp] theorem State.setPg_flash : (s.setPg p g).flash = s.flash := rfl
@[simp] theorem State.setPg_lanes : (s.setPg p g).lanes = s.lanes := rfl
@[simp] theorem State.setPg_ports : (s.setPg p g).ports = s.ports := rfl
@[simp] theorem State.setPg_slotWaits : (s.setPg p g).slotWaits = s.slotWaits := rfl
@[simp] theorem State.setPg_slotsUsed : (s.setPg p g).slotsUsed = s.slotsUsed := rfl
@[simp] theorem State.setPg_threads : (s.setPg p g).threads = s.threads := rfl
@[simp] theorem State.setPg_eventFlags : (s.setPg p g).eventFlags = s.eventFlags := rfl
@[simp] theorem State.setPg_bank0 : (s.setPg p g).bank0 = s.bank0 := rfl
@[simp] theorem State.setPg_bank1 : (s.setPg p g).bank1 = s.bank1 := rfl
@[simp] theorem State.setPg_stores : (s.setPg p g).stores = s.stores := rfl
@[simp] theorem State.setPg_stalledAt : (s.setPg p g).stalledAt = s.stalledAt := rfl
@[simp] theorem State.setPg_loadQueue : (s.setPg p g).loadQueue = s.loadQueue := rfl
@[simp] theorem State.setPg_laneRegs : (s.setPg p g).laneRegs = s.laneRegs := rfl
@[simp] theorem State.setPg_tsFifo : (s.setPg p g).tsFifo = s.tsFifo := rfl
@[simp] theorem State.setPg_channels : (s.setPg p g).channels = s.channels := rfl
@[simp] theorem State.setPg_assocs : (s.setPg p g).assocs = s.assocs := rfl
@[simp] theorem State.setPg_staging : (s.setPg p g).staging = s.staging := rfl
@[simp] theorem State.setPg_pnEvents : (s.setPg p g).pnEvents = s.pnEvents := rfl
@[simp] theorem State.setPg_retire : (s.setPg p g).retire = s.retire := rfl
@[simp] theorem State.setPg_ents : (s.setPg p g).ents = s.ents := rfl
@[simp] theorem State.setPg_tables : (s.setPg p g).tables = s.tables := rfl
@[simp] theorem State.setPg_hbmBodies : (s.setPg p g).hbmBodies = s.hbmBodies := rfl
@[simp] theorem State.setPg_hbmHits : (s.setPg p g).hbmHits = s.hbmHits := rfl
@[simp] theorem State.setPg_cache : (s.setPg p g).cache = s.cache := rfl
@[simp] theorem State.setPg_fills : (s.setPg p g).fills = s.fills := rfl
@[simp] theorem State.setPg_writeBacks : (s.setPg p g).writeBacks = s.writeBacks := rfl
@[simp] theorem State.setPg_learnQ : (s.setPg p g).learnQ = s.learnQ := rfl
@[simp] theorem State.setPg_notes : (s.setPg p g).notes = s.notes := rfl
@[simp] theorem State.setPg_rowsUsed : (s.setPg p g).rowsUsed = s.rowsUsed := rfl
@[simp] theorem State.setPg_seEnts : (s.setPg p g).seEnts = s.seEnts := rfl
@[simp] theorem State.setPg_tbcWait : (s.setPg p g).tbcWait = s.tbcWait := rfl
@[simp] theorem State.setPg_lfsrs : (s.setPg p g).lfsrs = s.lfsrs := rfl
@[simp] theorem State.setPg_stakes : (s.setPg p g).stakes = s.stakes := rfl
@[simp] theorem State.setPg_credits : (s.setPg p g).credits = s.credits := rfl
@[simp] theorem State.setPg_restores : (s.setPg p g).restores = s.restores := rfl
@[simp] theorem State.setPg_present : (s.setPg p g).present = s.present := rfl
@[simp] theorem State.setPg_carve : (s.setPg p g).carve = s.carve := rfl
@[simp] theorem State.setPg_alloc : (s.setPg p g).alloc = s.alloc := rfl
@[simp] theorem State.setPg_refFree : (s.setPg p g).refFree = s.refFree := rfl
@[simp] theorem State.setPg_retired : (s.setPg p g).retired = s.retired := rfl
@[simp] theorem State.setPg_quarantine : (s.setPg p g).quarantine = s.quarantine := rfl
@[simp] theorem State.setPg_chains : (s.setPg p g).chains = s.chains := rfl
@[simp] theorem State.setPg_nextChain : (s.setPg p g).nextChain = s.nextChain := rfl
@[simp] theorem State.setPg_psets : (s.setPg p g).psets = s.psets := rfl
@[simp] theorem State.setPg_islandTurn : (s.setPg p g).islandTurn = s.islandTurn := rfl
@[simp] theorem State.setPg_hostCopies : (s.setPg p g).hostCopies = s.hostCopies := rfl
@[simp] theorem State.setPg_rowFixed : (s.setPg p g).rowFixed = s.rowFixed := rfl
@[simp] theorem State.setPg_queues : (s.setPg p g).queues = s.queues := rfl
@[simp] theorem State.setPg_sched : (s.setPg p g).sched = s.sched := rfl
@[simp] theorem State.setPg_turns : (s.setPg p g).turns = s.turns := rfl
@[simp] theorem State.setPg_replQ : (s.setPg p g).replQ = s.replQ := rfl
@[simp] theorem State.setPg_holdEnds : (s.setPg p g).holdEnds = s.holdEnds := rfl
@[simp] theorem State.setPg_hbmChunks : (s.setPg p g).hbmChunks = s.hbmChunks := rfl
@[simp] theorem State.setPg_nextChunk : (s.setPg p g).nextChunk = s.nextChunk := rfl
@[simp] theorem State.setPg_pcTurn : (s.setPg p g).pcTurn = s.pcTurn := rfl
@[simp] theorem State.setPg_tblUnits : (s.setPg p g).tblUnits = s.tblUnits := rfl
@[simp] theorem State.setPg_flowUnits : (s.setPg p g).flowUnits = s.flowUnits := rfl
@[simp] theorem State.setPg_dumpUnits : (s.setPg p g).dumpUnits = s.dumpUnits := rfl
@[simp] theorem State.setPg_reserved : (s.setPg p g).reserved = s.reserved := rfl
@[simp] theorem State.setPg_relocating : (s.setPg p g).relocating = s.relocating := rfl
@[simp] theorem State.setPg_hbmBytes : (s.setPg p g).hbmBytes = s.hbmBytes := rfl
@[simp] theorem State.setPg_postponed : (s.setPg p g).postponed = s.postponed := rfl
@[simp] theorem State.setPg_wrTokens : (s.setPg p g).wrTokens = s.wrTokens := rfl
@[simp] theorem State.setPg_datums : (s.setPg p g).datums = s.datums := rfl
@[simp] theorem State.setPg_flows : (s.setPg p g).flows = s.flows := rfl
@[simp] theorem State.setPg_flowStore : (s.setPg p g).flowStore = s.flowStore := rfl
@[simp] theorem State.setPg_flowBack : (s.setPg p g).flowBack = s.flowBack := rfl
@[simp] theorem State.setPg_traces : (s.setPg p g).traces = s.traces := rfl
@[simp] theorem State.setPg_exports : (s.setPg p g).exports = s.exports := rfl
@[simp] theorem State.setPg_meters : (s.setPg p g).meters = s.meters := rfl
@[simp] theorem State.setPg_surveySlot : (s.setPg p g).surveySlot = s.surveySlot := rfl
@[simp] theorem State.setPg_dump : (s.setPg p g).dump = s.dump := rfl
@[simp] theorem State.setPg_xphase : (s.setPg p g).xphase = s.xphase := rfl
@[simp] theorem State.setPg_xcut : (s.setPg p g).xcut = s.xcut := rfl
@[simp] theorem State.setPg_dmpSince : (s.setPg p g).dmpSince = s.dmpSince := rfl
@[simp] theorem State.setPg_dumpAt : (s.setPg p g).dumpAt = s.dumpAt := rfl
@[simp] theorem State.setPg_otp : (s.setPg p g).otp = s.otp := rfl
@[simp] theorem State.setPg_aon : (s.setPg p g).aon = s.aon := rfl
@[simp] theorem State.setPg_sensorT : (s.setPg p g).sensorT = s.sensorT := rfl
@[simp] theorem State.setPg_engineT : (s.setPg p g).engineT = s.engineT := rfl

@[simp] theorem State.emit_regs : (s.emit o).regs = s.regs := rfl
@[simp] theorem State.emit_pages : (s.emit o).pages = s.pages := rfl
@[simp] theorem State.emit_wraps : (s.emit o).wraps = s.wraps := rfl
@[simp] theorem State.emit_msix : (s.emit o).msix = s.msix := rfl
@[simp] theorem State.emit_fns : (s.emit o).fns = s.fns := rfl
@[simp] theorem State.emit_hosts : (s.emit o).hosts = s.hosts := rfl
@[simp] theorem State.emit_time : (s.emit o).time = s.time := rfl
@[simp] theorem State.emit_draws : (s.emit o).draws = s.draws := rfl
@[simp] theorem State.emit_pending : (s.emit o).pending = s.pending := rfl
@[simp] theorem State.emit_pkts : (s.emit o).pkts = s.pkts := rfl
@[simp] theorem State.emit_nextPkt : (s.emit o).nextPkt = s.nextPkt := rfl
@[simp] theorem State.emit_ringMsg : (s.emit o).ringMsg = s.ringMsg := rfl
@[simp] theorem State.emit_txParts : (s.emit o).txParts = s.txParts := rfl
@[simp] theorem State.emit_errHeld : (s.emit o).errHeld = s.errHeld := rfl
@[simp] theorem State.emit_profiles : (s.emit o).profiles = s.profiles := rfl
@[simp] theorem State.emit_bindings : (s.emit o).bindings = s.bindings := rfl
@[simp] theorem State.emit_easements : (s.emit o).easements = s.easements := rfl
@[simp] theorem State.emit_windows : (s.emit o).windows = s.windows := rfl
@[simp] theorem State.emit_buckets : (s.emit o).buckets = s.buckets := rfl
@[simp] theorem State.emit_entryCount : (s.emit o).entryCount = s.entryCount := rfl
@[simp] theorem State.emit_bays : (s.emit o).bays = s.bays := rfl
@[simp] theorem State.emit_feeds : (s.emit o).feeds = s.feeds := rfl
@[simp] theorem State.emit_cals : (s.emit o).cals = s.cals := rfl
@[simp] theorem State.emit_flash : (s.emit o).flash = s.flash := rfl
@[simp] theorem State.emit_lanes : (s.emit o).lanes = s.lanes := rfl
@[simp] theorem State.emit_ports : (s.emit o).ports = s.ports := rfl
@[simp] theorem State.emit_slotWaits : (s.emit o).slotWaits = s.slotWaits := rfl
@[simp] theorem State.emit_slotsUsed : (s.emit o).slotsUsed = s.slotsUsed := rfl
@[simp] theorem State.emit_threads : (s.emit o).threads = s.threads := rfl
@[simp] theorem State.emit_eventFlags : (s.emit o).eventFlags = s.eventFlags := rfl
@[simp] theorem State.emit_bank0 : (s.emit o).bank0 = s.bank0 := rfl
@[simp] theorem State.emit_bank1 : (s.emit o).bank1 = s.bank1 := rfl
@[simp] theorem State.emit_stores : (s.emit o).stores = s.stores := rfl
@[simp] theorem State.emit_stalledAt : (s.emit o).stalledAt = s.stalledAt := rfl
@[simp] theorem State.emit_loadQueue : (s.emit o).loadQueue = s.loadQueue := rfl
@[simp] theorem State.emit_laneRegs : (s.emit o).laneRegs = s.laneRegs := rfl
@[simp] theorem State.emit_tsFifo : (s.emit o).tsFifo = s.tsFifo := rfl
@[simp] theorem State.emit_channels : (s.emit o).channels = s.channels := rfl
@[simp] theorem State.emit_assocs : (s.emit o).assocs = s.assocs := rfl
@[simp] theorem State.emit_staging : (s.emit o).staging = s.staging := rfl
@[simp] theorem State.emit_pnEvents : (s.emit o).pnEvents = s.pnEvents := rfl
@[simp] theorem State.emit_retire : (s.emit o).retire = s.retire := rfl
@[simp] theorem State.emit_ents : (s.emit o).ents = s.ents := rfl
@[simp] theorem State.emit_tables : (s.emit o).tables = s.tables := rfl
@[simp] theorem State.emit_hbmBodies : (s.emit o).hbmBodies = s.hbmBodies := rfl
@[simp] theorem State.emit_hbmHits : (s.emit o).hbmHits = s.hbmHits := rfl
@[simp] theorem State.emit_cache : (s.emit o).cache = s.cache := rfl
@[simp] theorem State.emit_fills : (s.emit o).fills = s.fills := rfl
@[simp] theorem State.emit_writeBacks : (s.emit o).writeBacks = s.writeBacks := rfl
@[simp] theorem State.emit_learnQ : (s.emit o).learnQ = s.learnQ := rfl
@[simp] theorem State.emit_notes : (s.emit o).notes = s.notes := rfl
@[simp] theorem State.emit_rowsUsed : (s.emit o).rowsUsed = s.rowsUsed := rfl
@[simp] theorem State.emit_seEnts : (s.emit o).seEnts = s.seEnts := rfl
@[simp] theorem State.emit_tbcWait : (s.emit o).tbcWait = s.tbcWait := rfl
@[simp] theorem State.emit_lfsrs : (s.emit o).lfsrs = s.lfsrs := rfl
@[simp] theorem State.emit_stakes : (s.emit o).stakes = s.stakes := rfl
@[simp] theorem State.emit_credits : (s.emit o).credits = s.credits := rfl
@[simp] theorem State.emit_restores : (s.emit o).restores = s.restores := rfl
@[simp] theorem State.emit_present : (s.emit o).present = s.present := rfl
@[simp] theorem State.emit_carve : (s.emit o).carve = s.carve := rfl
@[simp] theorem State.emit_alloc : (s.emit o).alloc = s.alloc := rfl
@[simp] theorem State.emit_refFree : (s.emit o).refFree = s.refFree := rfl
@[simp] theorem State.emit_retired : (s.emit o).retired = s.retired := rfl
@[simp] theorem State.emit_quarantine : (s.emit o).quarantine = s.quarantine := rfl
@[simp] theorem State.emit_chains : (s.emit o).chains = s.chains := rfl
@[simp] theorem State.emit_nextChain : (s.emit o).nextChain = s.nextChain := rfl
@[simp] theorem State.emit_psets : (s.emit o).psets = s.psets := rfl
@[simp] theorem State.emit_islandTurn : (s.emit o).islandTurn = s.islandTurn := rfl
@[simp] theorem State.emit_hostCopies : (s.emit o).hostCopies = s.hostCopies := rfl
@[simp] theorem State.emit_rowFixed : (s.emit o).rowFixed = s.rowFixed := rfl
@[simp] theorem State.emit_queues : (s.emit o).queues = s.queues := rfl
@[simp] theorem State.emit_sched : (s.emit o).sched = s.sched := rfl
@[simp] theorem State.emit_turns : (s.emit o).turns = s.turns := rfl
@[simp] theorem State.emit_replQ : (s.emit o).replQ = s.replQ := rfl
@[simp] theorem State.emit_holdEnds : (s.emit o).holdEnds = s.holdEnds := rfl
@[simp] theorem State.emit_hbmChunks : (s.emit o).hbmChunks = s.hbmChunks := rfl
@[simp] theorem State.emit_nextChunk : (s.emit o).nextChunk = s.nextChunk := rfl
@[simp] theorem State.emit_pcTurn : (s.emit o).pcTurn = s.pcTurn := rfl
@[simp] theorem State.emit_tblUnits : (s.emit o).tblUnits = s.tblUnits := rfl
@[simp] theorem State.emit_flowUnits : (s.emit o).flowUnits = s.flowUnits := rfl
@[simp] theorem State.emit_dumpUnits : (s.emit o).dumpUnits = s.dumpUnits := rfl
@[simp] theorem State.emit_reserved : (s.emit o).reserved = s.reserved := rfl
@[simp] theorem State.emit_relocating : (s.emit o).relocating = s.relocating := rfl
@[simp] theorem State.emit_hbmBytes : (s.emit o).hbmBytes = s.hbmBytes := rfl
@[simp] theorem State.emit_postponed : (s.emit o).postponed = s.postponed := rfl
@[simp] theorem State.emit_wrTokens : (s.emit o).wrTokens = s.wrTokens := rfl
@[simp] theorem State.emit_datums : (s.emit o).datums = s.datums := rfl
@[simp] theorem State.emit_flows : (s.emit o).flows = s.flows := rfl
@[simp] theorem State.emit_flowStore : (s.emit o).flowStore = s.flowStore := rfl
@[simp] theorem State.emit_flowBack : (s.emit o).flowBack = s.flowBack := rfl
@[simp] theorem State.emit_traces : (s.emit o).traces = s.traces := rfl
@[simp] theorem State.emit_exports : (s.emit o).exports = s.exports := rfl
@[simp] theorem State.emit_meters : (s.emit o).meters = s.meters := rfl
@[simp] theorem State.emit_surveySlot : (s.emit o).surveySlot = s.surveySlot := rfl
@[simp] theorem State.emit_dump : (s.emit o).dump = s.dump := rfl
@[simp] theorem State.emit_xphase : (s.emit o).xphase = s.xphase := rfl
@[simp] theorem State.emit_xcut : (s.emit o).xcut = s.xcut := rfl
@[simp] theorem State.emit_dmpSince : (s.emit o).dmpSince = s.dmpSince := rfl
@[simp] theorem State.emit_dumpAt : (s.emit o).dumpAt = s.dumpAt := rfl
@[simp] theorem State.emit_otp : (s.emit o).otp = s.otp := rfl
@[simp] theorem State.emit_aon : (s.emit o).aon = s.aon := rfl
@[simp] theorem State.emit_sensorT : (s.emit o).sensorT = s.sensorT := rfl
@[simp] theorem State.emit_engineT : (s.emit o).engineT = s.engineT := rfl

end Sys2Proof.Machine
end

