-- ==== Sys2Proof/Laws/Tab.lean ====
section
/-!
SUPPORT. Sys2Proof/Laws/Tab.lean: sparse tables. A read after a write gives the value written, a write leaves every other key alone, and
every operation keeps the canonical form.
-/
namespace Sys2Proof.Machine
variable {α : Type}

theorem Tab.get_filter_ne (t : Tab α) (q : Nat → Bool) (k : Nat) (d : α) (h : q k = true) :
    Tab.get (t.filter (fun e => q e.1)) k d = Tab.get t k d := by
  induction t with
  | nil => rfl
  | cons e t ih =>
    obtain ⟨j, v⟩ := e
    by_cases hq : q j = true
    · simp only [List.filter_cons, hq, if_true, Tab.get, ih]
    · have hne : k ≠ j := fun hk => hq (hk ▸ h)
      simp only [List.filter_cons, hq, Tab.get, hne, if_false]
      simpa using ih

theorem Tab.get_filter_out (t : Tab α) (q : Nat → Bool) (k : Nat) (d : α) (h : q k = false) :
    Tab.get (t.filter (fun e => q e.1)) k d = d := by
  induction t with
  | nil => rfl
  | cons e t ih =>
    obtain ⟨j, v⟩ := e
    by_cases hq : q j = true
    · have hne : k ≠ j := fun hk => by rw [hk] at h; simp [h] at hq
      simp only [List.filter_cons, hq, if_true, Tab.get, hne, if_false, ih]
    · simp only [List.filter_cons, hq]
      simpa using ih

@[simp] theorem Tab.get_erase_same (t : Tab α) (k : Nat) (d : α) : (t.erase k).get k d = d :=
  Tab.get_filter_out t (fun j => j != k) k d (by simp)

theorem Tab.get_erase_ne (t : Tab α) (k j : Nat) (d : α) (h : j ≠ k) : (t.erase k).get j d = t.get j d :=
  Tab.get_filter_ne t (fun i => i != k) j d (by simpa using h)

/-- No entry of the table lies at key `k`. -/
def Tab.free (t : Tab α) (k : Nat) : Prop := ∀ e ∈ t, e.1 ≠ k

theorem Tab.free_erase (t : Tab α) (k : Nat) : (Tab.erase t k).free k := by
  intro e he
  simp only [Tab.erase, List.mem_filter] at he
  simpa using he.2

theorem Tab.get_ins_same (t : Tab α) (k : Nat) (v d : α) (h : t.free k) : (t.ins k v).get k d = v := by
  induction t with
  | nil => simp [Tab.ins, Tab.get]
  | cons e t ih =>
    obtain ⟨j, w⟩ := e
    have hj : j ≠ k := h (j, w) (by simp)
    have ht : Tab.free t k := fun e he => h e (by simp [he])
    simp only [Tab.ins]
    split
    · simp [Tab.get]
    · simp [Tab.get, Ne.symm hj, ih ht]

theorem Tab.get_ins_ne (t : Tab α) (k j : Nat) (v d : α) (h : j ≠ k) : (t.ins k v).get j d = t.get j d := by
  induction t with
  | nil => simp [Tab.ins, Tab.get, h]
  | cons e t ih =>
    obtain ⟨i, w⟩ := e
    simp only [Tab.ins]
    split
    · simp [Tab.get, h]
    · simp only [Tab.get, ih]

/-- A read after a write to the same key gives the value written. -/
@[simp] theorem Tab.get_set_same [DecidableEq α] (t : Tab α) (k : Nat) (v d : α) : (t.set k v d).get k d = v := by
  unfold Tab.set
  split
  · rename_i hv
    rw [hv]; exact Tab.get_erase_same t k d
  · exact Tab.get_ins_same _ k v d (Tab.free_erase t k)

/-- A write leaves every other key alone. -/
theorem Tab.get_set_ne [DecidableEq α] (t : Tab α) (k j : Nat) (v d e : α) (h : j ≠ k) : (t.set k v d).get j e = t.get j e := by
  unfold Tab.set
  split
  · exact Tab.get_erase_ne t k j e h
  · rw [Tab.get_ins_ne _ k j v e h, Tab.get_erase_ne t k j e h]

/-- A cleared key reads as its default, and any other as before. -/
theorem Tab.get_clear (t : Tab α) (p : Nat → Bool) (k : Nat) (d : α) : (t.clear p).get k d = if p k then d else t.get k d := by
  split
  · rename_i h; exact Tab.get_filter_out t (fun j => !p j) k d (by simp [h])
  · rename_i h; exact Tab.get_filter_ne t (fun j => !p j) k d (by simpa using h)

/-! ## The canonical form -/

theorem Tab.sorted_iff (t : Tab α) : Tab.sorted t = true ↔ t.Pairwise (fun a b => a.1 < b.1) := by
  induction t with
  | nil => simp [Tab.sorted]
  | cons e t ih =>
    cases t with
    | nil => simp [Tab.sorted]
    | cons f t =>
      simp only [Tab.sorted, Bool.and_eq_true, decide_eq_true_eq, ih, List.pairwise_cons]
      constructor
      · rintro ⟨h1, h2, h3⟩
        refine ⟨?_, h2, h3⟩
        intro x hx
        rcases List.mem_cons.1 hx with rfl | hx
        · exact h1
        · exact Nat.lt_trans h1 (h2 x hx)
      · rintro ⟨h1, h2, h3⟩
        exact ⟨h1 f (by simp), h2, h3⟩

theorem Tab.sorted_filter (t : Tab α) (q : Nat × α → Bool) (h : Tab.sorted t = true) : Tab.sorted (t.filter q) = true := by
  rw [Tab.sorted_iff] at *
  exact h.sublist List.filter_sublist

theorem Tab.mem_ins (t : Tab α) (k : Nat) (v : α) (e : Nat × α) : e ∈ t.ins k v ↔ e = (k, v) ∨ e ∈ t := by
  induction t with
  | nil => simp [Tab.ins]
  | cons f t ih =>
    simp only [Tab.ins]
    split
    · simp
    · simp only [List.mem_cons, ih]; exact or_left_comm

theorem Tab.sorted_ins (t : Tab α) (k : Nat) (v : α) (hf : t.free k) (h : Tab.sorted t = true) : Tab.sorted (t.ins k v) = true := by
  rw [Tab.sorted_iff] at *
  induction t with
  | nil => simp [Tab.ins]
  | cons f t ih =>
    have hne : f.1 ≠ k := hf f (by simp)
    have hft : Tab.free t k := fun e he => hf e (by simp [he])
    simp only [List.pairwise_cons] at h
    simp only [Tab.ins]
    split
    · rename_i hk
      simp only [List.pairwise_cons]
      refine ⟨?_, h⟩
      intro e he
      rcases List.mem_cons.1 he with rfl | he
      · exact hk
      · exact Nat.lt_trans hk (h.1 e he)
    · rename_i hk
      simp only [List.pairwise_cons]
      refine ⟨?_, ih hft h.2⟩
      intro e he
      rcases (Tab.mem_ins t k v e).1 he with rfl | he
      · simp only; omega
      · exact h.1 e he

theorem Tab.wf_def [DecidableEq α] (t : Tab α) (d : Nat → α) :
    t.wf d = true ↔ Tab.sorted t = true ∧ ∀ e ∈ t, e.2 ≠ d e.1 := by
  simp [Tab.wf, List.all_eq_true]

theorem Tab.wf_filter [DecidableEq α] (t : Tab α) (d : Nat → α) (q : Nat × α → Bool) (h : t.wf d = true) :
    Tab.wf (t.filter q) d = true := by
  rw [Tab.wf_def] at *
  exact ⟨Tab.sorted_filter t q h.1, fun e he => h.2 e (List.mem_filter.1 he).1⟩

/-- A write keeps the canonical form. -/
theorem Tab.wf_set [DecidableEq α] (t : Tab α) (d : Nat → α) (k : Nat) (v : α) (h : t.wf d = true) :
    Tab.wf (t.set k v (d k)) d = true := by
  have he : Tab.wf (Tab.erase t k) d = true := Tab.wf_filter t d _ h
  unfold Tab.set
  split
  · exact he
  · rename_i hv
    rw [Tab.wf_def] at *
    refine ⟨Tab.sorted_ins _ k v (Tab.free_erase t k) he.1, ?_⟩
    intro e hm
    rcases (Tab.mem_ins _ k v e).1 hm with rfl | hm
    · exact hv
    · exact he.2 e hm

/-- A clear keeps the canonical form. -/
theorem Tab.wf_clear [DecidableEq α] (t : Tab α) (d : Nat → α) (p : Nat → Bool) (h : t.wf d = true) : Tab.wf (t.clear p) d = true :=
  Tab.wf_filter t d _ h

/-- An empty table is in canonical form. -/
@[simp] theorem Tab.wf_nil [DecidableEq α] (d : Nat → α) : Tab.wf ([] : Tab α) d = true := rfl

end Sys2Proof.Machine
end

