-- ==== Sys2Proof/Laws/Word.lean ====
section
/-!
SUPPORT. Sys2Proof/Laws/Word.lean: bit fields of a word. A field reads back what was put into it, and a field that does not meet it reads
as before.
-/
namespace Sys2Proof.Machine

theorem Word.bits_lt (v : Word) (lo w : Nat) : Word.bits v lo w < 2 ^ w := Nat.mod_lt _ (Nat.two_pow_pos w)

/-- A word is what lies below a field, the field, and what lies above it. -/
theorem Word.split (v : Word) (lo w : Nat) :
    v.toNat = v.toNat % 2 ^ lo + Word.bits v lo w * 2 ^ lo + v.toNat / 2 ^ (lo + w) * 2 ^ (lo + w) := by
  unfold Word.bits
  have h1 := Nat.div_add_mod v.toNat (2 ^ lo)
  have h2 := Nat.div_add_mod (v.toNat / 2 ^ lo) (2 ^ w)
  rw [Nat.div_div_eq_div_mul, ← Nat.pow_add] at h2
  have h3 : v.toNat = (2 ^ w * (v.toNat / 2 ^ (lo + w)) + v.toNat / 2 ^ lo % 2 ^ w) * 2 ^ lo + v.toNat % 2 ^ lo := by
    rw [h2, Nat.mul_comm]; exact h1.symm
  conv => lhs; rw [h3]
  rw [Nat.add_mul, Nat.pow_add, Nat.mul_assoc, Nat.mul_comm (v.toNat / 2 ^ lo % 2 ^ w)]
  have : 2 ^ w * (v.toNat / (2 ^ lo * 2 ^ w) * 2 ^ lo) = v.toNat / (2 ^ lo * 2 ^ w) * (2 ^ lo * 2 ^ w) := by
    rw [Nat.mul_comm (2 ^ lo) (2 ^ w), Nat.mul_left_comm]
  omega

/-- The number that `setBits` stores. -/
theorem Word.toNat_setBits (v : Word) (lo w x : Nat) (h : lo + w ≤ 48) :
    (Word.setBits v lo w x).toNat =
      v.toNat % 2 ^ lo + x % 2 ^ w * 2 ^ lo + v.toNat / 2 ^ (lo + w) * 2 ^ (lo + w) := by
  have hs := Word.split v lo w
  have hlow : v.toNat % 2 ^ lo < 2 ^ lo := Nat.mod_lt _ (Nat.two_pow_pos lo)
  have hx : x % 2 ^ w < 2 ^ w := Nat.mod_lt _ (Nat.two_pow_pos w)
  have hv : v.toNat < 2 ^ 48 := v.isLt
  have hhi : v.toNat / 2 ^ (lo + w) < 2 ^ (48 - (lo + w)) := by
    rw [Nat.div_lt_iff_lt_mul (Nat.two_pow_pos _), ← Nat.pow_add, Nat.sub_add_cancel h]; exact hv
  have hle : x % 2 ^ w * 2 ^ lo + 2 ^ lo ≤ 2 ^ (lo + w) := by
    have : (x % 2 ^ w + 1) * 2 ^ lo ≤ 2 ^ w * 2 ^ lo := Nat.mul_le_mul_right _ hx
    rw [Nat.pow_add, Nat.mul_comm (2 ^ lo)]; rw [Nat.add_mul, Nat.one_mul] at this; exact this
  have htop : v.toNat / 2 ^ (lo + w) * 2 ^ (lo + w) + 2 ^ (lo + w) ≤ 2 ^ 48 := by
    have : (v.toNat / 2 ^ (lo + w) + 1) * 2 ^ (lo + w) ≤ 2 ^ (48 - (lo + w)) * 2 ^ (lo + w) := Nat.mul_le_mul_right _ hhi
    rw [← Nat.pow_add, Nat.sub_add_cancel h, Nat.add_mul, Nat.one_mul] at this; exact this
  have hsub : v.toNat - Word.bits v lo w * 2 ^ lo + x % 2 ^ w * 2 ^ lo =
      v.toNat % 2 ^ lo + x % 2 ^ w * 2 ^ lo + v.toNat / 2 ^ (lo + w) * 2 ^ (lo + w) := by omega
  unfold Word.setBits
  rw [BitVec.toNat_ofNat, hsub, Nat.mod_eq_of_lt]
  omega

theorem Word.bits_of_parts (a b c lo w : Nat) (ha : a < 2 ^ lo) (hb : b < 2 ^ w) :
    (a + b * 2 ^ lo + c * 2 ^ (lo + w)) / 2 ^ lo % 2 ^ w = b := by
  have h : a + b * 2 ^ lo + c * 2 ^ (lo + w) = a + (b + 2 ^ w * c) * 2 ^ lo := by
    rw [Nat.pow_add, Nat.add_mul]
    have : c * (2 ^ lo * 2 ^ w) = 2 ^ w * c * 2 ^ lo := by
      rw [Nat.mul_comm (2 ^ lo), ← Nat.mul_assoc, Nat.mul_comm c]
    omega
  rw [h, Nat.add_mul_div_right _ _ (Nat.two_pow_pos lo), Nat.div_eq_of_lt ha, Nat.zero_add, Nat.add_mul_mod_self_left,
    Nat.mod_eq_of_lt hb]

/-- A field reads back what was put into it. -/
theorem Word.bits_setBits_same (v : Word) (lo w x : Nat) (h : lo + w ≤ 48) : Word.bits (Word.setBits v lo w x) lo w = x % 2 ^ w := by
  unfold Word.bits
  rw [Word.toNat_setBits v lo w x h]
  exact Word.bits_of_parts _ _ _ lo w (Nat.mod_lt _ (Nat.two_pow_pos lo)) (Nat.mod_lt _ (Nat.two_pow_pos w))

/-- What lies below a field stays. -/
theorem Word.mod_setBits (v : Word) (lo w x : Nat) (h : lo + w ≤ 48) : (Word.setBits v lo w x).toNat % 2 ^ lo = v.toNat % 2 ^ lo := by
  rw [Word.toNat_setBits v lo w x h]
  have h1 : v.toNat % 2 ^ lo + x % 2 ^ w * 2 ^ lo + v.toNat / 2 ^ (lo + w) * 2 ^ (lo + w) =
      v.toNat % 2 ^ lo + (x % 2 ^ w + v.toNat / 2 ^ (lo + w) * 2 ^ w) * 2 ^ lo := by
    rw [Nat.add_mul, Nat.pow_add]
    have : v.toNat / (2 ^ lo * 2 ^ w) * (2 ^ lo * 2 ^ w) = v.toNat / (2 ^ lo * 2 ^ w) * 2 ^ w * 2 ^ lo := by
      rw [Nat.mul_comm (2 ^ lo) (2 ^ w), Nat.mul_assoc]
    omega
  rw [h1, Nat.add_mul_mod_self_right, Nat.mod_mod]

/-- What lies above a field stays. -/
theorem Word.div_setBits (v : Word) (lo w x : Nat) (h : lo + w ≤ 48) :
    (Word.setBits v lo w x).toNat / 2 ^ (lo + w) = v.toNat / 2 ^ (lo + w) := by
  rw [Word.toNat_setBits v lo w x h, Nat.add_mul_div_right _ _ (Nat.two_pow_pos _)]
  have hlow : v.toNat % 2 ^ lo < 2 ^ lo := Nat.mod_lt _ (Nat.two_pow_pos lo)
  have hx : x % 2 ^ w < 2 ^ w := Nat.mod_lt _ (Nat.two_pow_pos w)
  have hle : x % 2 ^ w * 2 ^ lo + 2 ^ lo ≤ 2 ^ (lo + w) := by
    have : (x % 2 ^ w + 1) * 2 ^ lo ≤ 2 ^ w * 2 ^ lo := Nat.mul_le_mul_right _ hx
    rw [Nat.pow_add, Nat.mul_comm (2 ^ lo)]; rw [Nat.add_mul, Nat.one_mul] at this; exact this
  rw [Nat.div_eq_of_lt (by omega), Nat.zero_add]

/-- A field above the one written reads as before. -/
theorem Word.bits_setBits_above (v : Word) (lo w x l n : Nat) (h : lo + w ≤ 48) (hd : lo + w ≤ l) :
    Word.bits (Word.setBits v lo w x) l n = Word.bits v l n := by
  unfold Word.bits
  have e : 2 ^ l = 2 ^ (lo + w) * 2 ^ (l - (lo + w)) := by rw [← Nat.pow_add]; congr 1; omega
  rw [e, ← Nat.div_div_eq_div_mul, ← Nat.div_div_eq_div_mul, Word.div_setBits v lo w x h]

/-- A field below the one written reads as before. -/
theorem Word.bits_setBits_below (v : Word) (lo w x l n : Nat) (h : lo + w ≤ 48) (hd : l + n ≤ lo) :
    Word.bits (Word.setBits v lo w x) l n = Word.bits v l n := by
  have key (u : Nat) : u / 2 ^ l % 2 ^ n = u % 2 ^ lo / 2 ^ l % 2 ^ n := by
    have h1 : u / 2 ^ l % 2 ^ n = u % 2 ^ (l + n) / 2 ^ l := by rw [Nat.pow_add, Nat.mod_mul_right_div_self]
    have h2 : u % 2 ^ lo / 2 ^ l % 2 ^ n = u % 2 ^ lo % 2 ^ (l + n) / 2 ^ l := by rw [Nat.pow_add, Nat.mod_mul_right_div_self]
    rw [h1, h2, Nat.mod_mod_of_dvd u (Nat.pow_dvd_pow 2 hd)]
  unfold Word.bits
  rw [key, Word.mod_setBits v lo w x h, ← key]

/-- The bit that was set reads back. -/
@[simp] theorem Word.bit_setBit_same (v : Word) (i : Nat) (b : Bool) (h : i < 48) : Word.bit (Word.setBit v i b) i = b := by
  have := Word.bits_setBits_same v i 1 (if b then 1 else 0) (by omega)
  unfold Word.bits at this
  unfold Word.bit Word.setBit
  cases b <;> simp_all

theorem Word.bit_setBit_ne (v : Word) (i j : Nat) (b : Bool) (h : i < 48) (hij : j ≠ i) : Word.bit (Word.setBit v i b) j = Word.bit v j := by
  have : Word.bits (Word.setBit v i b) j 1 = Word.bits v j 1 := by
    unfold Word.setBit
    rcases Nat.lt_or_gt_of_ne hij with hl | hg
    · exact Word.bits_setBits_below v i 1 _ j 1 (by omega) (by omega)
    · exact Word.bits_setBits_above v i 1 _ j 1 (by omega) (by omega)
  unfold Word.bits at this
  unfold Word.bit
  simpa using congrArg (· == 1) this

end Sys2Proof.Machine
end

