-- ==== Sys2Proof/Laws/Ops.lean ====
section
/-!
SUPPORT. Sys2Proof/Laws/Ops.lean: what each shared operation does: register slots and fields, counters, events, the judgement of host
accesses. Provers cite these lemmas in place of the definitions.
-/
namespace Sys2Proof.Machine

/-! ## Slots and fields -/

@[simp] theorem State.slot_setSlot_same (s : State) (a : Nat) (v : Word) : (s.setSlot a v).slot a = v := Tab.get_set_same _ _ _ _

theorem State.slot_setSlot_ne (s : State) (a b : Nat) (v : Word) (h : b ≠ a) : (s.setSlot a v).slot b = s.slot b :=
  Tab.get_set_ne _ _ _ _ _ _ h

@[simp] theorem State.reg_setReg_same (s : State) (p : Page) (f : Fld) (v : Word) (i : Nat) : (s.setReg p f v i).reg p f i = v :=
  State.slot_setSlot_same _ _ _

theorem State.slot_setReg_ne (s : State) (p : Page) (f : Fld) (v : Word) (i a : Nat) (h : a ≠ slotAddr p f i) :
    (s.setReg p f v i).slot a = s.slot a := State.slot_setSlot_ne _ _ _ _ h

theorem State.slot_setFld_ne (s : State) (p : Page) (f : Fld) (x i a : Nat) (h : a ≠ slotAddr p f i) :
    (s.setFld p f x i).slot a = s.slot a := State.slot_setSlot_ne _ _ _ _ h

theorem State.slot_setFlag_ne (s : State) (p : Page) (f : Fld) (b : Bool) (i a : Nat) (h : a ≠ slotAddr p f i) :
    (s.setFlag p f b i).slot a = s.slot a := State.slot_setFld_ne _ _ _ _ _ _ h

/-- A field reads back what was put into it. -/
theorem State.fld_setFld_same (s : State) (p : Page) (f : Fld) (x i : Nat) (h : f.lo + f.w ≤ 48) :
    (s.setFld p f x i).fld p f i = x % 2 ^ f.w := by
  unfold State.fld State.setFld
  rw [State.reg_setReg_same]
  exact Word.bits_setBits_same _ _ _ _ h

/-- A field of the same register that lies above or below the one written reads as before. -/
theorem State.fld_setFld_apart (s : State) (p : Page) (f g : Fld) (x i j : Nat) (ha : slotAddr p g j = slotAddr p f i)
    (h : f.lo + f.w ≤ 48) (hd : f.lo + f.w ≤ g.lo ∨ g.lo + g.w ≤ f.lo) : (s.setFld p f x i).fld p g j = s.fld p g j := by
  unfold State.fld State.setFld State.reg State.setReg
  rw [ha, State.slot_setSlot_same]
  rcases hd with hd | hd
  · exact Word.bits_setBits_above _ _ _ _ _ _ h hd
  · exact Word.bits_setBits_below _ _ _ _ _ _ h hd

/-- Fields of registers whose slots agree agree. -/
theorem State.fld_congr (s t : State) (p : Page) (f : Fld) (i : Nat) (h : t.slot (slotAddr p f i) = s.slot (slotAddr p f i)) :
    t.fld p f i = s.fld p f i := by
  unfold State.fld State.reg; rw [h]

theorem State.flag_congr (s t : State) (p : Page) (f : Fld) (i : Nat) (h : t.slot (slotAddr p f i) = s.slot (slotAddr p f i)) :
    t.flag p f i = s.flag p f i := by
  unfold State.flag; rw [State.fld_congr s t p f i h]

theorem State.fld_setFld_ne (s : State) (p q : Page) (f g : Fld) (x i j : Nat) (h : slotAddr q g j ≠ slotAddr p f i) :
    (s.setFld p f x i).fld q g j = s.fld q g j := State.fld_congr _ _ _ _ _ (State.slot_setFld_ne _ _ _ _ _ _ h)

theorem State.flag_setFlag_same (s : State) (p : Page) (f : Fld) (b : Bool) (i : Nat) (hw : f.w = 1) (h : f.lo + f.w ≤ 48) :
    (s.setFlag p f b i).flag p f i = b := by
  unfold State.flag State.setFlag
  rw [State.fld_setFld_same s p f _ i h, hw]
  cases b <;> rfl

theorem State.flag_setFlag_ne (s : State) (p q : Page) (f g : Fld) (b : Bool) (i j : Nat) (h : slotAddr q g j ≠ slotAddr p f i) :
    (s.setFlag p f b i).flag q g j = s.flag q g j := State.flag_congr _ _ _ _ _ (State.slot_setFlag_ne _ _ _ _ _ _ h)

theorem State.flag_setFlag_apart (s : State) (p : Page) (f g : Fld) (b : Bool) (i j : Nat) (ha : slotAddr p g j = slotAddr p f i)
    (h : f.lo + f.w ≤ 48) (hd : f.lo + f.w ≤ g.lo ∨ g.lo + g.w ≤ f.lo) : (s.setFlag p f b i).flag p g j = s.flag p g j := by
  unfold State.flag State.setFlag
  rw [State.fld_setFld_apart s p f g _ i j ha h hd]

/-- Only register slots change. -/
def State.onlyRegs (s t : State) : Prop := ∃ r, t = { s with regs := r }

theorem State.setSlot_only (s : State) (a : Nat) (v : Word) : s.onlyRegs (s.setSlot a v) := ⟨_, rfl⟩

/-- Every register write keeps the register table in canonical form. -/
theorem State.setSlot_wf (s : State) (a : Nat) (v : Word) (h : s.regs.wf regReset = true) : (s.setSlot a v).regs.wf regReset = true :=
  Tab.wf_set _ regReset a v h

/-! ## Counters and survey -/

/-- Registers and wrap bits alone change. -/
def State.onlyCounts (s t : State) : Prop := ∃ r w, t = { s with regs := r, wraps := w }

theorem State.onlyCounts.refl (s : State) : s.onlyCounts s := ⟨s.regs, s.wraps, rfl⟩

theorem State.onlyCounts.trans {s t u : State} (h : s.onlyCounts t) (k : t.onlyCounts u) : s.onlyCounts u := by
  obtain ⟨r, w, rfl⟩ := h
  obtain ⟨r', w', rfl⟩ := k
  exact ⟨r', w', rfl⟩

theorem State.showWraps_only (s : State) : s.onlyCounts s.showWraps := ⟨_, s.wraps, rfl⟩

theorem State.showPenWrap_only (s : State) (a : Nat) (b : Bool) : s.onlyCounts (s.showPenWrap a b) := by
  unfold State.showPenWrap
  dsimp only
  split
  · split <;> exact ⟨_, s.wraps, rfl⟩
  · exact State.onlyCounts.refl s

theorem State.setWrap_only (s : State) (a : Nat) (b : Bool) : s.onlyCounts (s.setWrap a b) := by
  have h : s.onlyCounts { s with wraps := s.wraps.set (s.counterAt a) b false } := ⟨s.regs, _, rfl⟩
  exact (h.trans (State.showPenWrap_only _ a b)).trans (State.showWraps_only _)

theorem State.countSlot_only (s : State) (a n : Nat) : s.onlyCounts (s.countSlot a n) := by
  unfold State.countSlot
  have h : s.onlyCounts (s.setSlot a (BitVec.ofNat 48 ((s.slot a).toNat + n))) := ⟨_, s.wraps, rfl⟩
  dsimp only
  split
  · exact h.trans (State.setWrap_only _ a true)
  · exact h

theorem State.count_only (s : State) (p : Page) (f : Fld) (n i : Nat) : s.onlyCounts (s.count p f n i) := State.countSlot_only _ _ _

/-- A fold of operations that each stay within a transitive relation stays within it. -/
theorem foldl_within {α : Type} {R : State → State → Prop} (refl : ∀ s, R s s) (trans : ∀ {s t u}, R s t → R t u → R s u)
    (f : State → α → State) (h : ∀ s x, R s (f s x)) (l : List α) (s : State) : R s (l.foldl f s) := by
  induction l generalizing s with
  | nil => exact refl s
  | cons x l ih => exact trans (h s x) (ih (f s x))

theorem State.survey_only (s : State) (ev : Nat) (a : EvAttr) (n : Nat) : s.onlyCounts (s.survey ev a n) := by
  unfold State.survey
  refine foldl_within (R := State.onlyCounts) State.onlyCounts.refl (fun h k => h.trans k) _ ?_ _ s
  intro s e
  split
  · exact State.countSlot_only _ _ _
  · exact State.onlyCounts.refl s

theorem State.slot_showWraps_ne (s : State) (b : Nat) (h : b ≠ slotAddr Page.svc SVC.WRAP_MAP 0) : s.showWraps.slot b = s.slot b :=
  State.slot_setReg_ne _ _ _ _ _ _ h

theorem State.slot_showPenWrap_ne (s : State) (a b : Nat) (x : Bool) (h : ¬ wrapShown b) : (s.showPenWrap a x).slot b = s.slot b := by
  unfold State.showPenWrap
  dsimp only
  split
  · rename_i hp
    split
    · exact State.slot_setReg_ne _ _ _ _ _ _ (fun e => h (Or.inr ⟨_, _, hp.1, hp.2.1, by omega, Or.inl e⟩))
    · exact State.slot_setReg_ne _ _ _ _ _ _ (fun e => h (Or.inr ⟨_, _, hp.1, hp.2.1, by omega, Or.inr e⟩))
  · rfl

theorem State.slot_setWrap_ne (s : State) (a b : Nat) (x : Bool) (h : ¬ wrapShown b) : (s.setWrap a x).slot b = s.slot b := by
  unfold State.setWrap
  rw [State.slot_showWraps_ne _ _ (fun e => h (Or.inl e)), State.slot_showPenWrap_ne _ _ _ _ h]
  rfl

/-- A counter that counts leaves every other slot alone, but for those that show wrap bits. -/
theorem State.slot_countSlot_ne (s : State) (a n b : Nat) (h : b ≠ a) (hw : ¬ wrapShown b) : (s.countSlot a n).slot b = s.slot b := by
  unfold State.countSlot
  dsimp only
  split
  · rw [State.slot_setWrap_ne _ _ _ _ hw, State.slot_setSlot_ne _ _ _ _ h]
  · exact State.slot_setSlot_ne _ _ _ _ h

/-- The counter itself wraps from 2^48 − 1 to 0 (R561). -/
theorem State.slot_countSlot_same (s : State) (a n : Nat) (hw : ¬ wrapShown a) :
    (s.countSlot a n).slot a = BitVec.ofNat 48 ((s.slot a).toNat + n) := by
  unfold State.countSlot
  dsimp only
  split
  · rw [State.slot_setWrap_ne _ _ _ _ hw, State.slot_setSlot_same]
  · exact State.slot_setSlot_same _ _ _

/-- Register slots below 2^48 that show no wrap bits are untouched by the survey. -/
theorem State.slot_survey (s : State) (ev : Nat) (a : EvAttr) (n b : Nat) (hb : b < 2 ^ 48) (hw : ¬ wrapShown b) :
    (s.survey ev a n).slot b = s.slot b := by
  unfold State.survey
  refine Eq.symm (foldl_within (R := fun s t => s.slot b = t.slot b) (fun _ => rfl) (fun h k => h.trans k) _ ?_ _ s)
  intro s e
  split
  · refine (State.slot_countSlot_ne _ _ _ _ ?_ hw).symm
    unfold surveyCtr bulkKey; omega
  · rfl

/-! ## Events -/

/-- Registers, the hidden part of title blocks, MSI-X pending bits and outputs alone change. -/
def State.onlyEvents (s t : State) : Prop := ∃ r g m o, t = { s with regs := r, pages := g, msix := m, out := o }

theorem State.onlyEvents.refl (s : State) : s.onlyEvents s := ⟨s.regs, s.pages, s.msix, s.out, rfl⟩

theorem State.onlyEvents.trans {s t u : State} (h : s.onlyEvents t) (k : t.onlyEvents u) : s.onlyEvents u := by
  obtain ⟨r, g, m, o, rfl⟩ := h
  obtain ⟨r', g', m', o', rfl⟩ := k
  exact ⟨r', g', m', o', rfl⟩

theorem State.sendMsix_only (s : State) (fn vec : Nat) : s.onlyEvents (s.sendMsix fn vec) := by
  unfold State.sendMsix
  split
  · dsimp only
    split
    · exact ⟨s.regs, s.pages, _, s.out, rfl⟩
    · exact ⟨s.regs, s.pages, s.msix, _, rfl⟩
  · exact State.onlyEvents.refl s

theorem State.vfSummary_only (s : State) (p : Page) : s.onlyEvents (s.vfSummary p) := by
  unfold State.vfSummary
  split
  · exact State.onlyEvents.refl s
  · exact ⟨_, s.pages, s.msix, s.out, rfl⟩

theorem State.setBlockState_only (s : State) (p : Page) (st : Nat) : s.onlyEvents (s.setBlockState p st) := by
  unfold State.setBlockState
  dsimp only
  split <;> exact ⟨_, s.pages, s.msix, s.out, rfl⟩

theorem State.setPg_only (s : State) (p : Page) (x : PageX) : s.onlyEvents (s.setPg p x) := ⟨s.regs, _, s.msix, s.out, rfl⟩

theorem State.actSeverity_only (s : State) (p : Page) (src sev : Nat) : s.onlyEvents (s.actSeverity p src sev) := by
  unfold State.actSeverity
  dsimp only
  split
  · split
    · exact (State.setPg_only _ _ _).trans (State.setBlockState_only _ _ _)
    · exact State.setPg_only _ _ _
  · split
    · split
      · exact (State.setPg_only _ _ _).trans (State.setBlockState_only _ _ _)
      · exact State.setPg_only _ _ _
    · exact State.onlyEvents.refl s

theorem State.setReg_onlyEvents (s : State) (p : Page) (f : Fld) (v : Word) (i : Nat) : s.onlyEvents (s.setReg p f v i) :=
  ⟨_, s.pages, s.msix, s.out, rfl⟩

theorem State.markEvent_only (s : State) (p : Page) (src : Nat) (e : Word) : s.onlyEvents (s.markEvent p src e) := by
  unfold State.markEvent
  dsimp only
  split <;> exact ⟨_, s.pages, s.msix, s.out, rfl⟩

theorem State.logEvent_only (s : State) (p : Page) (e : Word) : s.onlyEvents (s.logEvent p e) := by
  unfold State.logEvent
  dsimp only
  split
  · exact ⟨_, _, s.msix, s.out, rfl⟩
  · exact ⟨_, s.pages, s.msix, s.out, rfl⟩

theorem State.record_only (s : State) (p : Page) (src : Nat) : s.onlyEvents (s.record p src) := by
  unfold State.record
  dsimp only
  split
  · exact (State.setReg_onlyEvents _ _ _ _ _).trans (State.actSeverity_only _ _ _ _)
  · refine State.onlyEvents.trans ?_ (State.actSeverity_only _ _ _ _)
    refine State.onlyEvents.trans ?_ (State.vfSummary_only _ _)
    refine State.onlyEvents.trans ?_ (State.logEvent_only _ _ _)
    exact (State.setReg_onlyEvents _ _ _ _ _).trans (State.markEvent_only _ _ _ _)

theorem State.msixTo_only (send : State → Page → State) (hs : ∀ (s : State) p, s.onlyEvents (send s p)) (s : State) (fn vec : Nat) :
    s.onlyEvents (State.msixTo send s fn vec) := by
  unfold State.msixTo
  dsimp only
  split
  · exact State.sendMsix_only _ _ _
  · split
    · exact State.record_only _ _ _
    · exact (State.record_only _ _ _).trans (hs _ _)

theorem State.routeMsix_only (one : State → Nat → Nat → State) (h1 : ∀ (s : State) fn vec, s.onlyEvents (one s fn vec)) (s : State) (p : Page) :
    s.onlyEvents (s.routeMsix one p) := by
  unfold State.routeMsix
  dsimp only
  split
  · exact h1 _ _ _
  · split <;> split
    · exact (h1 _ _ _).trans (h1 _ _ _)
    · exact h1 _ _ _
    · exact h1 _ _ _
    · exact State.onlyEvents.refl s

theorem State.pageMsixN_only (n : Nat) : ∀ (s : State) p, s.onlyEvents (State.pageMsixN n s p) := by
  induction n with
  | zero => exact fun s _ => State.onlyEvents.refl s
  | succ n ih => exact fun s p => State.routeMsix_only _ (State.msixTo_only _ ih) s p

theorem State.pageMsixTo_only (s : State) (fn vec : Nat) : s.onlyEvents (s.pageMsixTo fn vec) :=
  State.msixTo_only _ (State.pageMsixN_only 2) s fn vec

theorem State.pageMsix_only (s : State) (p : Page) : s.onlyEvents (s.pageMsix p) := State.pageMsixN_only 3 s p

/-- Everything an event can change. -/
theorem State.raise_only (s : State) (p : Page) (src : Nat) : s.onlyEvents (s.raise p src) := by
  unfold State.raise
  split
  · exact State.onlyEvents.refl s
  · split
    · exact State.record_only _ _ _
    · dsimp only
      split
      · exact (State.record_only _ _ _).trans (State.pageMsix_only _ _)
      · exact State.record_only _ _ _

theorem State.slot_vfSummary (s : State) (p : Page) (a : Nat) (h : ¬ titleSlot a) : (s.vfSummary p).slot a = s.slot a := by
  unfold State.vfSummary
  split
  · rfl
  · rename_i hp
    have hp' : @LT.lt Nat _ p 0x11000 := Nat.lt_of_not_le fun k => hp (Or.inr k)
    exact State.slot_setReg_ne _ _ _ _ _ _ (fun e => h (Or.inr ⟨(p - 0x10000) / 16 / 128, _, by omega, by omega, e⟩))

theorem titleSlot.state {p : Page} {a : Nat} (h : ¬ titleSlot a) (f : Fld) (hf : f.off = TB.PAGE_STATE.off) : a ≠ slotAddr p f 0 := by
  intro e
  refine h (Or.inl ⟨p, Or.inl ?_⟩)
  rw [e]; unfold slotAddr; rw [hf]; simp

theorem State.slot_setBlockState (s : State) (p : Page) (st a : Nat) (h : ¬ titleSlot a) : (s.setBlockState p st).slot a = s.slot a := by
  unfold State.setBlockState
  dsimp only
  split
  · rw [State.slot_setFlag_ne _ _ _ _ _ _ (titleSlot.state h TB.PAGE_STATE_ENABLE rfl),
      State.slot_setFld_ne _ _ _ _ _ _ (titleSlot.state h TB.PAGE_STATE_STATE rfl)]
  · exact State.slot_setFld_ne _ _ _ _ _ _ (titleSlot.state h TB.PAGE_STATE_STATE rfl)

theorem State.slot_actSeverity (s : State) (p : Page) (src sev a : Nat) (h : ¬ titleSlot a) :
    (s.actSeverity p src sev).slot a = s.slot a := by
  unfold State.actSeverity
  dsimp only
  split
  · split
    · rw [State.slot_setBlockState _ _ _ _ h]; rfl
    · rfl
  · split
    · split
      · rw [State.slot_setBlockState _ _ _ _ h]; rfl
      · rfl
    · rfl

theorem State.slot_markEvent (s : State) (p : Page) (src a : Nat) (e : Word) (h : ¬ titleSlot a) :
    (s.markEvent p src e).slot a = s.slot a := by
  have h2 : a ≠ slotAddr p TB.EVENT_STATUS 0 := fun e => h (Or.inl ⟨p, Or.inr (Or.inl e)⟩)
  have h3 : a ≠ slotAddr p TB.EVENT_FIRST 0 := fun e => h (Or.inl ⟨p, Or.inr (Or.inr (Or.inl e))⟩)
  unfold State.markEvent
  dsimp only
  rw [State.slot_setReg_ne _ _ _ _ _ _ h2]
  split
  · exact State.slot_setReg_ne _ _ _ _ _ _ h3
  · rfl

theorem State.slot_logEvent (s : State) (p : Page) (a : Nat) (e : Word) (h : ¬ titleSlot a) : (s.logEvent p e).slot a = s.slot a := by
  unfold State.logEvent
  dsimp only
  split
  · exact State.slot_setFld_ne _ _ _ _ _ _ (titleSlot.state h TB.PAGE_STATE_LOG_COUNT rfl)
  · exact State.slot_setFlag_ne _ _ _ _ _ _ (titleSlot.state h TB.PAGE_STATE_LOST rfl)

theorem State.slot_setCause (s : State) (p : Page) (src a : Nat) (h : ¬ titleSlot a) : (s.setCause p src).slot a = s.slot a :=
  State.slot_setReg_ne _ _ _ _ _ _ (fun e => h (Or.inl ⟨p, Or.inr (Or.inr (Or.inr e))⟩))

theorem State.slot_clearCause (s : State) (p : Page) (src a : Nat) (h : ¬ titleSlot a) : (s.clearCause p src).slot a = s.slot a :=
  State.slot_setReg_ne _ _ _ _ _ _ (fun e => h (Or.inl ⟨p, Or.inr (Or.inr (Or.inr e))⟩))

theorem State.slot_record (s : State) (p : Page) (src a : Nat) (h : ¬ titleSlot a) : (s.record p src).slot a = s.slot a := by
  unfold State.record
  dsimp only
  split
  · rw [State.slot_actSeverity _ _ _ _ _ h, State.slot_setCause _ _ _ _ h]
  · rw [State.slot_actSeverity _ _ _ _ _ h, State.slot_vfSummary _ _ _ h, State.slot_logEvent _ _ _ _ h, State.slot_markEvent _ _ _ _ _ h,
      State.slot_setCause _ _ _ _ h]

theorem State.slot_sendMsix (s : State) (fn vec a : Nat) : (s.sendMsix fn vec).slot a = s.slot a := by
  unfold State.sendMsix
  split
  · dsimp only
    split <;> rfl
  · rfl

theorem State.slot_msixTo (send : State → Page → State) (a : Nat) (h : ¬ titleSlot a) (hs : ∀ s p, (send s p).slot a = s.slot a)
    (s : State) (fn vec : Nat) : (State.msixTo send s fn vec).slot a = s.slot a := by
  unfold State.msixTo
  dsimp only
  split
  · exact State.slot_sendMsix _ _ _ _
  · split
    · exact State.slot_record _ _ _ _ h
    · rw [hs, State.slot_record _ _ _ _ h]

theorem State.slot_routeMsix (one : State → Nat → Nat → State) (a : Nat) (h1 : ∀ s fn vec, (one s fn vec).slot a = s.slot a) (s : State)
    (p : Page) : (s.routeMsix one p).slot a = s.slot a := by
  unfold State.routeMsix
  dsimp only
  split
  · exact h1 _ _ _
  · split <;> split <;> simp only [h1]

theorem State.slot_pageMsixN (n a : Nat) (h : ¬ titleSlot a) : ∀ s p, (State.pageMsixN n s p).slot a = s.slot a := by
  induction n with
  | zero => exact fun _ _ => rfl
  | succ n ih => exact fun s p => State.slot_routeMsix _ a (State.slot_msixTo _ a h ih) s p

theorem State.slot_pageMsixTo (s : State) (fn vec a : Nat) (h : ¬ titleSlot a) : (s.pageMsixTo fn vec).slot a = s.slot a :=
  State.slot_msixTo _ a h (State.slot_pageMsixN 2 a h) s fn vec

theorem State.slot_pageMsix (s : State) (p : Page) (a : Nat) (h : ¬ titleSlot a) : (s.pageMsix p).slot a = s.slot a :=
  State.slot_pageMsixN 3 a h s p

/-- An event leaves every slot but those of `titleSlot` alone. -/
theorem State.slot_raise (s : State) (p : Page) (src a : Nat) (h : ¬ titleSlot a) : (s.raise p src).slot a = s.slot a := by
  unfold State.raise
  split
  · rfl
  · split
    · exact State.slot_record _ _ _ _ h
    · dsimp only
      split
      · rw [State.slot_pageMsix _ _ _ h, State.slot_record _ _ _ _ h]
      · exact State.slot_record _ _ _ _ h

/-! ## What an event leaves in EVENT_STATUS and EVENT_FIRST (R78, R79) -/

/-- The status and first-event registers of a page. -/
def eventSlot (p a : Nat) : Prop := a = slotAddr p TB.EVENT_STATUS 0 ∨ a = slotAddr p TB.EVENT_FIRST 0

theorem State.event_setReg_ne (s : State) (p q : Nat) (f : Fld) (v : Word) (i a : Nat) (h : eventSlot p a)
    (hf : (f.off + i * f.st) % 4096 ≠ 0x020 ∧ (f.off + i * f.st) % 4096 ≠ 0x048) :
    (s.setReg q f v i).slot a = s.slot a := by
  refine State.slot_setReg_ne _ _ _ _ _ _ ?_
  rcases h with h | h <;> rw [h] <;> simp only [slotAddr] <;> omega

theorem State.event_setBlockState (s : State) (p q : Nat) (st a : Nat) (h : eventSlot p a) : (s.setBlockState q st).slot a = s.slot a := by
  unfold State.setBlockState State.setFlag State.setFld
  dsimp only
  split
  · rw [State.event_setReg_ne _ p _ _ _ _ _ h (by decide), State.event_setReg_ne _ p _ _ _ _ _ h (by decide)]
  · exact State.event_setReg_ne _ p _ _ _ _ _ h (by decide)

theorem State.event_actSeverity (s : State) (p q : Nat) (src sev a : Nat) (h : eventSlot p a) :
    (s.actSeverity q src sev).slot a = s.slot a := by
  unfold State.actSeverity
  dsimp only
  split
  · split
    · rw [State.event_setBlockState _ p _ _ _ h]; rfl
    · rfl
  · split
    · split
      · rw [State.event_setBlockState _ p _ _ _ h]; rfl
      · rfl
    · rfl

theorem State.event_setCause (s : State) (p q : Nat) (src a : Nat) (h : eventSlot p a) : (s.setCause q src).slot a = s.slot a :=
  State.event_setReg_ne _ p _ _ _ _ _ h (by decide)

theorem State.event_logEvent (s : State) (p q : Nat) (e : Word) (a : Nat) (h : eventSlot p a) : (s.logEvent q e).slot a = s.slot a := by
  unfold State.logEvent State.setFlag State.setFld
  dsimp only
  split
  · exact State.event_setReg_ne _ p _ _ _ _ _ h (by decide)
  · exact State.event_setReg_ne _ p _ _ _ _ _ h (by decide)

theorem State.event_vfSummary (s : State) (p q : Nat) (a : Nat) (h : eventSlot p a) : (s.vfSummary q).slot a = s.slot a := by
  unfold State.vfSummary
  split
  · rfl
  · refine State.event_setReg_ne _ p _ _ _ _ _ h ⟨?_, ?_⟩ <;> simp only [HIF.VF_SUMMARY] <;> omega

/-- The event's own mark is all that it writes there. -/
theorem State.event_record (s : State) (p q : Nat) (src a : Nat) (h : eventSlot p a) :
    (s.record q src).slot a =
      if s.raised q src then s.slot a
      else ((s.setCause q src).markEvent q src (eventRecord src (s.severity q src) s.stamp32)).slot a := by
  unfold State.record
  dsimp only
  split
  · rw [State.event_actSeverity _ p _ _ _ _ h, State.event_setCause _ p _ _ _ h]
  · rw [State.event_actSeverity _ p _ _ _ _ h, State.event_vfSummary _ p _ _ h, State.event_logEvent _ p _ _ _ h]

theorem slotAddr_page (p q : Nat) (f : Fld) (h : p ≠ q) : slotAddr p f 0 ≠ slotAddr q f 0 := by simp only [slotAddr]; omega

theorem eventStatus_ne_first (p q : Nat) : slotAddr p TB.EVENT_STATUS 0 ≠ slotAddr q TB.EVENT_FIRST 0 := by simp only [slotAddr]; omega

/-- EVENT_STATUS of a page as it marks an event. -/
theorem State.status_markEvent (s : State) (p src : Nat) (e : Word) :
    (s.markEvent p src e).reg p TB.EVENT_STATUS = Word.setBit (s.reg p TB.EVENT_STATUS) src true := by
  unfold State.markEvent
  exact State.reg_setReg_same _ _ _ _ _

theorem State.slot_markEvent_ne (s : State) (q src a : Nat) (e : Word) (h1 : a ≠ slotAddr q TB.EVENT_STATUS 0)
    (h2 : a ≠ slotAddr q TB.EVENT_FIRST 0) : (s.markEvent q src e).slot a = s.slot a := by
  unfold State.markEvent
  dsimp only
  rw [State.slot_setReg_ne _ _ _ _ _ _ h1]
  split
  · exact State.slot_setReg_ne _ _ _ _ _ _ h2
  · rfl

/-- EVENT_FIRST of a page as it marks an event: taken where EVENT_STATUS was zero, else kept. -/
theorem State.first_markEvent (s : State) (p src : Nat) (e : Word) :
    (s.markEvent p src e).reg p TB.EVENT_FIRST = if s.reg p TB.EVENT_STATUS = 0 then e else s.reg p TB.EVENT_FIRST := by
  unfold State.markEvent
  dsimp only
  have hne : slotAddr p TB.EVENT_FIRST 0 ≠ slotAddr p TB.EVENT_STATUS 0 := (eventStatus_ne_first p p).symm
  unfold State.reg
  rw [State.slot_setReg_ne _ _ _ _ _ _ hne]
  split
  · exact State.reg_setReg_same _ _ _ _ _
  · rfl

/-- An event sets its bit and leaves every other bit of every page's EVENT_STATUS alone (R78). -/
theorem State.raised_record (s : State) (p q src j : Nat) (hs : src < 48) (hj : j < 48) :
    (s.record q src).raised p j = (s.raised p j || (decide (p = q) && decide (j = src))) := by
  have key : (s.record q src).reg p TB.EVENT_STATUS =
      if s.raised q src then s.reg p TB.EVENT_STATUS
      else ((s.setCause q src).markEvent q src (eventRecord src (s.severity q src) s.stamp32)).reg p TB.EVENT_STATUS :=
    State.event_record s p q src _ (Or.inl rfl)
  have hc : (s.setCause q src).reg p TB.EVENT_STATUS = s.reg p TB.EVENT_STATUS := State.event_setCause _ p _ _ _ (Or.inl rfl)
  unfold State.raised
  rw [key]
  by_cases hr : s.raised q src = true
  · rw [if_pos hr]
    unfold State.raised at hr
    by_cases hp : p = q
    · by_cases hj2 : j = src
      · subst hp hj2; simp [hr]
      · simp [hj2]
    · simp [hp]
  · rw [if_neg hr]
    by_cases hp : p = q
    · subst hp
      rw [State.status_markEvent, hc]
      by_cases hj2 : j = src
      · subst hj2; rw [Word.bit_setBit_same _ _ _ hs]; simp
      · rw [Word.bit_setBit_ne _ _ _ _ hs hj2]; simp [hj2]
    · have : ((s.setCause q src).markEvent q src (eventRecord src (s.severity q src) s.stamp32)).reg p TB.EVENT_STATUS =
          s.reg p TB.EVENT_STATUS := by
        unfold State.reg
        rw [State.slot_markEvent_ne _ _ _ _ _ (slotAddr_page _ _ _ hp) (eventStatus_ne_first _ _)]
        exact hc
      rw [this]; simp [hp]

/-- Events add up: bits that stand stay, and EVENT_FIRST keeps its record while EVENT_STATUS is not zero. -/
structure State.EventsGrow (s t : State) : Prop where
  raised : ∀ p j, j < 48 → s.raised p j = true → t.raised p j = true
  first : ∀ p : Nat, s.reg p TB.EVENT_STATUS ≠ 0 → t.reg p TB.EVENT_STATUS ≠ 0 ∧ t.reg p TB.EVENT_FIRST = s.reg p TB.EVENT_FIRST

theorem State.EventsGrow.refl (s : State) : s.EventsGrow s := ⟨fun _ _ _ h => h, fun _ h => ⟨h, rfl⟩⟩

theorem State.EventsGrow.trans {s t u : State} (h : s.EventsGrow t) (k : t.EventsGrow u) : s.EventsGrow u :=
  ⟨fun p j hj hr => k.raised p j hj (h.raised p j hj hr), fun p hp =>
    ⟨(k.first p (h.first p hp).1).1, (k.first p (h.first p hp).1).2.trans (h.first p hp).2⟩⟩

theorem State.status_ne_of_raised (s : State) (p j : Nat) (h : s.raised p j = true) : s.reg p TB.EVENT_STATUS ≠ 0 := by
  intro e
  unfold State.raised at h
  rw [e] at h
  have : Word.bit 0 j = false := by unfold Word.bit; simp
  rw [this] at h
  cases h

theorem State.EventsGrow.record (s : State) (q src : Nat) (hs : src < 48) : s.EventsGrow (s.record q src) := by
  refine ⟨fun p j hj h => by rw [State.raised_record _ _ _ _ _ hs hj, h]; rfl, fun p hp => ?_⟩
  have k1 : (s.record q src).reg p TB.EVENT_STATUS =
      if s.raised q src then s.reg p TB.EVENT_STATUS
      else ((s.setCause q src).markEvent q src (eventRecord src (s.severity q src) s.stamp32)).reg p TB.EVENT_STATUS :=
    State.event_record s p q src _ (Or.inl rfl)
  have k2 : (s.record q src).reg p TB.EVENT_FIRST =
      if s.raised q src then s.reg p TB.EVENT_FIRST
      else ((s.setCause q src).markEvent q src (eventRecord src (s.severity q src) s.stamp32)).reg p TB.EVENT_FIRST :=
    State.event_record s p q src _ (Or.inr rfl)
  by_cases hr : s.raised q src = true
  · rw [if_pos hr] at k1 k2
    exact ⟨k1 ▸ hp, k2⟩
  · rw [if_neg hr] at k1 k2
    have c1 : (s.setCause q src).reg p TB.EVENT_STATUS = s.reg p TB.EVENT_STATUS := State.event_setCause _ p _ _ _ (Or.inl rfl)
    have c2 : (s.setCause q src).reg p TB.EVENT_FIRST = s.reg p TB.EVENT_FIRST := State.event_setCause _ p _ _ _ (Or.inr rfl)
    by_cases hpq : p = q
    · subst hpq
      refine ⟨State.status_ne_of_raised _ p src ?_, ?_⟩
      · rw [State.raised_record _ _ _ _ _ hs hs]; simp
      · rw [k2, State.first_markEvent, c1, if_neg hp, c2]
    · refine ⟨?_, ?_⟩
      · rw [k1]
        unfold State.reg at c1 hp ⊢
        rw [State.slot_markEvent_ne _ _ _ _ _ (slotAddr_page _ _ _ hpq) (eventStatus_ne_first _ _), c1]
        exact hp
      · rw [k2]
        unfold State.reg at c2 ⊢
        rw [State.slot_markEvent_ne _ _ _ _ _ (eventStatus_ne_first _ _).symm (slotAddr_page _ _ _ hpq), c2]

theorem State.EventsGrow.of_regs {s t : State} (h : t.regs = s.regs) : s.EventsGrow t := by
  have hr : ∀ p f, t.reg p f = s.reg p f := fun p f => by unfold State.reg State.slot; rw [h]
  refine ⟨fun p j _ k => ?_, fun p hp => ⟨by rw [hr]; exact hp, hr _ _⟩⟩
  unfold State.raised at k ⊢
  rw [hr]; exact k

theorem State.EventsGrow.sendMsix (s : State) (fn vec : Nat) : s.EventsGrow (s.sendMsix fn vec) := by
  unfold State.sendMsix
  split
  · dsimp only
    split <;> exact State.EventsGrow.of_regs rfl
  · exact State.EventsGrow.refl s

theorem State.EventsGrow.msixTo (send : State → Page → State) (hs : ∀ (s : State) p, s.EventsGrow (send s p)) (s : State) (fn vec : Nat) :
    s.EventsGrow (State.msixTo send s fn vec) := by
  unfold State.msixTo
  dsimp only
  split
  · exact State.EventsGrow.sendMsix _ _ _
  · split
    · exact State.EventsGrow.record _ _ _ (by decide)
    · exact (State.EventsGrow.record _ _ _ (by decide)).trans (hs _ _)

theorem State.EventsGrow.routeMsix (one : State → Nat → Nat → State) (h1 : ∀ (s : State) fn vec, s.EventsGrow (one s fn vec)) (s : State)
    (p : Page) : s.EventsGrow (s.routeMsix one p) := by
  unfold State.routeMsix
  dsimp only
  split
  · exact h1 _ _ _
  · split <;> split
    · exact (h1 _ _ _).trans (h1 _ _ _)
    · exact h1 _ _ _
    · exact h1 _ _ _
    · exact State.EventsGrow.refl s

theorem State.EventsGrow.pageMsixN (n : Nat) : ∀ (s : State) p, s.EventsGrow (State.pageMsixN n s p) := by
  induction n with
  | zero => exact fun s _ => State.EventsGrow.refl s
  | succ n ih => exact fun s p => State.EventsGrow.routeMsix _ (State.EventsGrow.msixTo _ ih) s p

theorem State.EventsGrow.raise (s : State) (p src : Nat) (hs : src < 48) : s.EventsGrow (s.raise p src) := by
  unfold State.raise
  split
  · exact State.EventsGrow.refl s
  · split
    · exact State.EventsGrow.record _ _ _ hs
    · dsimp only
      split
      · exact (State.EventsGrow.record _ _ _ hs).trans (State.EventsGrow.pageMsixN 3 _ _)
      · exact State.EventsGrow.record _ _ _ hs

/-- An event on a powered page has its bit set, whatever EVENT_ENABLE holds (R78). -/
theorem State.raised_raise (s : State) (p src : Nat) (hs : src < 48) (hp : s.powered p = true) : (s.raise p src).raised p src = true := by
  have hr : (s.record p src).raised p src = true := by rw [State.raised_record _ _ _ _ _ hs hs]; simp
  unfold State.raise
  rw [if_neg (by simp [hp])]
  split
  · exact hr
  · dsimp only
    split
    · exact (State.EventsGrow.pageMsixN 3 _ _).raised p src hs hr
    · exact hr

/-- An event that finds EVENT_STATUS zero is recorded in EVENT_FIRST (R79). -/
theorem State.first_raise (s : State) (p src : Nat) (hs : src < 48) (hp : s.powered p = true) (h0 : s.reg p TB.EVENT_STATUS = 0) :
    (s.raise p src).reg p TB.EVENT_FIRST = eventRecord src (s.severity p src) s.stamp32 := by
  have hn : s.raised p src = false := by
    cases h : s.raised p src with
    | false => rfl
    | true => exact absurd h0 (State.status_ne_of_raised s p src h)
  have hr : (s.record p src).raised p src = true := by rw [State.raised_record _ _ _ _ _ hs hs]; simp
  have hf : (s.record p src).reg p TB.EVENT_FIRST = eventRecord src (s.severity p src) s.stamp32 := by
    have k := State.event_record s p p src _ (Or.inr rfl)
    rw [if_neg (by simp [hn])] at k
    refine Eq.trans k ?_
    have c := State.first_markEvent (s.setCause p src) p src (eventRecord src (s.severity p src) s.stamp32)
    have c1 : (s.setCause p src).reg p TB.EVENT_STATUS = s.reg p TB.EVENT_STATUS := State.event_setCause _ p _ _ _ (Or.inl rfl)
    rw [c1, if_pos h0] at c
    exact c
  unfold State.raise
  rw [if_neg (by simp [hp]), if_neg (by simp [hn])]
  dsimp only
  split
  · rw [State.pageMsix, ((State.EventsGrow.pageMsixN 3 _ _).first p (State.status_ne_of_raised _ p src hr)).2, hf]
  · exact hf

/-! ## Slots that side effects leave alone -/

/-- Offsets decide it on every page. -/
theorem plain_of_off (p o : Nat) (hp : p < 2 ^ 36) (ho : o < 4096) (h : sideFree o = true) : Plain (p * 4096 + o) := by
  simp only [sideFree, List.contains_cons, List.contains_nil, Bool.or_false, Bool.and_eq_true, Bool.not_eq_true', Bool.or_eq_false_iff,
    beq_eq_false_iff_ne, ne_eq, Bool.and_eq_false_iff, decide_eq_false_iff_not] at h
  obtain ⟨⟨h1, h2, h3, h4, h5, h6, h7, h8, h9⟩, h10⟩ := h
  refine ⟨by omega, ?_, ?_, ?_⟩
  · rintro (⟨q, e | e | e | e⟩ | ⟨q, i, hq, hi, e⟩) <;> simp only [slotAddr] at e <;> omega
  · rintro (e | ⟨q, i, h1, h2, hi, e | e⟩) <;> simp only [slotAddr] at e <;> omega
  · simp only [slotAddr]; omega

/-- Slots of a register whose offset is `sideFree`. -/
theorem plain_slot (p : Nat) (f : Fld) (i : Nat) (hp : p < 2 ^ 36) (ho : f.off + i * f.st < 4096)
    (h : sideFree (f.off + i * f.st) = true) : Plain (slotAddr p f i) := by
  have := plain_of_off p (f.off + i * f.st) hp ho h
  rwa [show p * 4096 + (f.off + i * f.st) = slotAddr p f i from by unfold slotAddr; omega] at this

/-- On a page that is no host port's, no port engine's, not SVC and not THM, every slot but four of the title block is plain. -/
theorem plain_elsewhere (p o : Nat) (hp : p < 2 ^ 36) (ho : o < 4096) (h1 : o ≠ 0x018 ∧ o ≠ 0x020 ∧ o ≠ 0x048 ∧ o ≠ 0x050)
    (h2 : p ≠ 0x4 ∧ p ≠ 0x4201 ∧ p ≠ 0x100 ∧ p ≠ 0x101 ∧ ¬ (0xA00 ≤ p ∧ p < 0xA00 + 192)) : Plain (p * 4096 + o) := by
  refine ⟨by omega, ?_, ?_, ?_⟩
  · rintro (⟨q, e | e | e | e⟩ | ⟨q, i, hq, hi, e⟩) <;> simp only [slotAddr, Page.hif, Page.svc] at e <;> omega
  · rintro (e | ⟨q, i, h1, h2, hi, e | e⟩) <;> simp only [slotAddr, Page.hif, Page.svc] at e <;> omega
  · simp only [slotAddr, Page.thm, ne_eq]; omega

theorem Plain.quiet {a : Nat} (h : Plain a) : Quiet a := ⟨h.low, h.wrap, h.pin⟩

/-- Offsets below 0x100, those of the title block, are quiet on every page. -/
theorem quiet_title (p : Nat) (f : Fld) (hp : p < 2 ^ 36) (ho : f.off < 0x100) : Quiet (slotAddr p f 0) := by
  refine ⟨?_, ?_, ?_⟩
  · simp only [slotAddr]; omega
  · rintro (e | ⟨q, i, h1, h2, hi, e | e⟩) <;> simp only [slotAddr] at e <;> omega
  · simp only [slotAddr]; omega

/-! ## FAULT_N and answers -/

theorem State.slot_faultPin (s : State) (a : Nat) (h : a ≠ slotAddr Page.thm THM.FAULT_STATUS 0) : s.faultPin.slot a = s.slot a :=
  State.slot_setFlag_ne _ _ _ _ _ _ h

theorem State.faultPin_only (s : State) : s.onlyRegs s.faultPin := ⟨_, rfl⟩

/-- FAULT_STATUS.ASSERTED is what the pin shows. -/
theorem State.faultPin_shows (s : State) : s.faultPin.flag Page.thm THM.FAULT_STATUS_ASSERTED = s.faulting :=
  State.flag_setFlag_same _ _ _ _ _ rfl (by decide)

/-! ## Addresses and pages -/

/-- The page of a register slot of a BAR0 page. -/
theorem pageOfAddr_slotAddr (p : Nat) (f : Fld) (i : Nat) (hp : p < 0x10000) (ho : f.off + i * f.st < 4096) :
    pageOfAddr (slotAddr p f i) = p := by
  have h : slotAddr p f i = p * 0x1000 + (f.off + i * f.st) := Nat.add_assoc _ _ _
  rw [h]
  unfold pageOfAddr
  rw [if_pos (by omega)]
  show (p * 0x1000 + (f.off + i * f.st)) / 0x1000 = p
  omega

/-- The offset that ERR_ADDR shows of such a slot is its BAR0 offset (R691). -/
theorem errOffset_slotAddr (p : Nat) (f : Fld) (i : Nat) (hp : p < 0x10000) (ho : f.off + i * f.st < 4096) :
    errOffset (slotAddr p f i) = p * 0x1000 + f.off + i * f.st := by
  have h : slotAddr p f i = p * 0x1000 + f.off + i * f.st := rfl
  unfold errOffset
  rw [h, if_pos (by omega)]

/-! ## Host accesses -/

/-- A write that is accepted has its effect; the survey counts it. -/
theorem State.hostWrite_ok (s : State) (r : Req) (p : Page) (f : Fld) (i : Nat) (marked : Bool) (eff : State → State)
    (h : s.accepts r p f i marked = true) :
    s.hostWrite r p f i marked eff = (eff s).survey 17 { fn := some r.fn, addr := bar0Attr (slotAddr p f i) } := by
  unfold State.accepts at h
  have hf : s.fate r (slotAddr p f i) marked = .ok := by simpa using h
  unfold State.hostWrite
  simp only [hf]

/-- A write that is not accepted only records what refused it. -/
theorem State.hostWrite_refused (s : State) (r : Req) (p : Page) (f : Fld) (i : Nat) (marked : Bool) (eff : State → State)
    (h : s.accepts r p f i marked = false) :
    s.hostWrite r p f i marked eff = s.refuse r (slotAddr p f i) (s.fate r (slotAddr p f i) marked) := by
  unfold State.accepts at h
  unfold State.hostWrite
  dsimp only
  split
  · rename_i hk; simp [hk] at h
  · rfl

end Sys2Proof.Machine
end

