-- ==== Sys2Proof/Laws/Host.lean ====
section
/-!
SUPPORT. Sys2Proof/Laws/Host.lean: what an accepted host write leaves behind in a command's next state, slot by slot.
-/
namespace Sys2Proof.Machine

/-- Every page that R65 assigns, and every virtual function's, lies below page 0x11000. -/
theorem kind_lt (p : Nat) (x : Kind × Nat) (h : Page.kind p = some x) : p < 0x11000 := by
  rcases Nat.lt_or_ge p 0x11000 with hp | hp
  · exact hp
  · exfalso
    unfold Page.kind at h
    unfold Page at h
    dsimp only at h
    repeat rw [if_neg (by omega)] at h
    cases h

/-- An accepted access is to a page that exists. -/
theorem State.accepts_kind (s : State) (r : Req) (p : Page) (f : Fld) (i : Nat) (marked : Bool) (h : s.accepts r p f i marked = true) :
    ∃ x, Page.kind (pageOfAddr (slotAddr p f i)) = some x := by
  cases hk : Page.kind (pageOfAddr (slotAddr p f i)) with
  | some x => exact ⟨x, rfl⟩
  | none =>
    exfalso
    unfold State.accepts State.fate at h
    simp only [hk, Option.isNone_none, if_true] at h
    revert h
    split
    · simp
    · split <;> simp

/-- A plain slot after a command that ends with an accepted write: as the write's own effect leaves it. -/
theorem State.slot_hostWrite (s : State) (r : Req) (p : Page) (f : Fld) (i : Nat) (marked : Bool) (eff : State → State) (a : Nat)
    (h : s.accepts r p f i marked = true) (ha : Plain a) : (s.hostWrite r p f i marked eff).faultPin.slot a = (eff s).slot a := by
  rw [State.slot_faultPin _ _ ha.pin, State.hostWrite_ok _ _ _ _ _ _ _ h, State.slot_survey _ _ _ _ _ ha.low ha.wrap]

/-- A quiet slot after a command that ends with an accepted write. -/
theorem State.slot_hostWrite_quiet (s : State) (r : Req) (p : Page) (f : Fld) (i : Nat) (marked : Bool) (eff : State → State) (a : Nat)
    (h : s.accepts r p f i marked = true) (ha : Quiet a) : (s.hostWrite r p f i marked eff).faultPin.slot a = (eff s).slot a := by
  rw [State.slot_faultPin _ _ ha.pin, State.hostWrite_ok _ _ _ _ _ _ _ h, State.slot_survey _ _ _ _ _ ha.low ha.wrap]

/-! ## Frames -/

theorem State.Aside.refl (s : State) (q : Nat → Prop) : s.Aside s q := ⟨⟨s.regs, s.wraps, s.pages, s.msix, s.out, rfl⟩, fun _ _ _ => rfl⟩

theorem State.Aside.trans {s t u : State} {q : Nat → Prop} (h : s.Aside t q) (k : t.Aside u q) : s.Aside u q := by
  obtain ⟨⟨r, w, g, m, o, rfl⟩, h2⟩ := h
  obtain ⟨⟨r', w', g', m', o', rfl⟩, k2⟩ := k
  exact ⟨⟨r', w', g', m', o', rfl⟩, fun a ha hq => (k2 a ha hq).trans (h2 a ha hq)⟩

/-- A frame that allows fewer slots is a frame that allows more. -/
theorem State.Aside.mono {s t : State} {q q' : Nat → Prop} (h : s.Aside t q) (hq : ∀ a, q a → q' a) : s.Aside t q' :=
  ⟨h.1, fun a ha hn => h.2 a ha fun k => hn (hq a k)⟩

theorem State.Aside.setSlot (s : State) (q : Nat → Prop) (a : Nat) (v : Word) (h : q a) : s.Aside (s.setSlot a v) q :=
  ⟨⟨_, s.wraps, s.pages, s.msix, s.out, rfl⟩, fun b _ hq => State.slot_setSlot_ne _ _ _ _ fun e => hq (e ▸ h)⟩

theorem State.Aside.setReg (s : State) (q : Nat → Prop) (p : Page) (f : Fld) (v : Word) (i : Nat) (h : q (slotAddr p f i)) :
    s.Aside (s.setReg p f v i) q := State.Aside.setSlot _ _ _ _ h

theorem State.Aside.setFld (s : State) (q : Nat → Prop) (p : Page) (f : Fld) (x i : Nat) (h : q (slotAddr p f i)) :
    s.Aside (s.setFld p f x i) q := State.Aside.setSlot _ _ _ _ h

theorem State.Aside.setFlag (s : State) (q : Nat → Prop) (p : Page) (f : Fld) (b : Bool) (i : Nat) (h : q (slotAddr p f i)) :
    s.Aside (s.setFlag p f b i) q := State.Aside.setSlot _ _ _ _ h

/-- A register of the title block that events write may change in every frame. -/
theorem State.Aside.titleReg (s : State) (q : Nat → Prop) (p : Page) (f : Fld) (v : Word) (i : Nat) (h : titleSlot (slotAddr p f i)) :
    s.Aside (s.setReg p f v i) q :=
  ⟨⟨_, s.wraps, s.pages, s.msix, s.out, rfl⟩, fun _ ha _ => State.slot_setSlot_ne _ _ _ _ fun e => ha.title (e ▸ h)⟩

theorem State.Aside.emit (s : State) (q : Nat → Prop) (o : Output) : s.Aside (s.emit o) q :=
  ⟨⟨s.regs, s.wraps, s.pages, s.msix, _, rfl⟩, fun _ _ _ => rfl⟩

theorem State.Aside.setPg (s : State) (q : Nat → Prop) (p : Page) (x : PageX) : s.Aside (s.setPg p x) q :=
  ⟨⟨s.regs, s.wraps, _, s.msix, s.out, rfl⟩, fun _ _ _ => rfl⟩

/-- Events are inside every frame. -/
theorem State.Aside.raise (s : State) (q : Nat → Prop) (p : Page) (src : Nat) : s.Aside (s.raise p src) q := by
  refine ⟨?_, fun a ha _ => State.slot_raise _ _ _ _ ha.title⟩
  obtain ⟨r, g, m, o, h⟩ := State.raise_only s p src
  exact ⟨r, s.wraps, g, m, o, h⟩

theorem State.Aside.raiseIf (s : State) (q : Nat → Prop) (b : Bool) (p : Page) (src : Nat) : s.Aside (s.raiseIf b p src) q := by
  unfold State.raiseIf
  split
  · exact State.Aside.raise _ _ _ _
  · exact State.Aside.refl _ _

theorem State.Aside.pageMsix (s : State) (q : Nat → Prop) (p : Page) : s.Aside (s.pageMsix p) q := by
  refine ⟨?_, fun a ha _ => State.slot_pageMsix _ _ _ ha.title⟩
  obtain ⟨r, g, m, o, h⟩ := State.pageMsix_only s p
  exact ⟨r, s.wraps, g, m, o, h⟩

theorem State.Aside.setBlockState (s : State) (q : Nat → Prop) (p : Page) (st : Nat) : s.Aside (s.setBlockState p st) q := by
  refine ⟨?_, fun a ha _ => State.slot_setBlockState _ _ _ _ ha.title⟩
  obtain ⟨r, g, m, o, h⟩ := State.setBlockState_only s p st
  exact ⟨r, s.wraps, g, m, o, h⟩

theorem State.Aside.vfSummary (s : State) (q : Nat → Prop) (p : Page) : s.Aside (s.vfSummary p) q := by
  refine ⟨?_, fun a ha _ => State.slot_vfSummary _ _ _ ha.title⟩
  obtain ⟨r, g, m, o, h⟩ := State.vfSummary_only s p
  exact ⟨r, s.wraps, g, m, o, h⟩

/-- The survey is inside every frame. -/
theorem State.Aside.survey (s : State) (q : Nat → Prop) (ev : Nat) (x : EvAttr) (n : Nat) : s.Aside (s.survey ev x n) q := by
  refine ⟨?_, fun a ha _ => State.slot_survey _ _ _ _ _ ha.low ha.wrap⟩
  obtain ⟨r, w, h⟩ := State.survey_only s ev x n
  exact ⟨r, w, s.pages, s.msix, s.out, h⟩

/-- A counter that counts: its own slot is in the frame. -/
theorem State.Aside.countSlot (s : State) (q : Nat → Prop) (a n : Nat) (h : q a) : s.Aside (s.countSlot a n) q := by
  refine ⟨?_, fun b hb hq => State.slot_countSlot_ne _ _ _ _ (fun e => hq (e ▸ h)) hb.wrap⟩
  obtain ⟨r, w, h⟩ := State.countSlot_only s a n
  exact ⟨r, w, s.pages, s.msix, s.out, h⟩

theorem State.Aside.count (s : State) (q : Nat → Prop) (p : Page) (f : Fld) (n i : Nat) (h : q (slotAddr p f i)) :
    s.Aside (s.count p f n i) q := State.Aside.countSlot _ _ _ _ h

/-- Counters beyond the registers of pages (parcel blocks, survey counters, table counters) are inside every frame. -/
theorem State.Aside.countBulk (s : State) (q : Nat → Prop) (a n : Nat) (h : 2 ^ 48 ≤ a) : s.Aside (s.countSlot a n) q := by
  refine ⟨?_, fun b hb _ => State.slot_countSlot_ne _ _ _ _ (fun e => ?_) hb.wrap⟩
  · obtain ⟨r, w, h⟩ := State.countSlot_only s a n
    exact ⟨r, w, s.pages, s.msix, s.out, h⟩
  · have := hb.low; omega

theorem State.Aside.faultPin (s : State) (q : Nat → Prop) : s.Aside s.faultPin q :=
  ⟨⟨_, s.wraps, s.pages, s.msix, s.out, rfl⟩, fun _ ha _ => State.slot_faultPin _ _ ha.pin⟩

/-- A fold of steps inside a frame is inside it. -/
theorem State.Aside.foldl {α : Type} (q : Nat → Prop) (f : State → α → State) (h : ∀ (s : State) x, s.Aside (f s x) q) (l : List α) (s : State) :
    s.Aside (l.foldl f s) q := by
  induction l generalizing s with
  | nil => exact State.Aside.refl _ _
  | cons x l ih => exact (h s x).trans (ih _)

/-- A command that ends with an accepted write: the frame of the write's own effect, from the state `u` that has its hidden part. -/
theorem State.Aside.hostWrite {s u : State} {q : Nat → Prop} (r : Req) (p : Page) (f : Fld) (i : Nat) (marked : Bool) (eff : State → State)
    (h : s.accepts r p f i marked = true) (k : u.Aside (eff s) q) : u.Aside (s.hostWrite r p f i marked eff).faultPin q := by
  rw [State.hostWrite_ok _ _ _ _ _ _ _ h]
  exact (k.trans (State.Aside.survey _ _ _ _ _)).trans (State.Aside.faultPin _ _)

/-- Every command answers a next state, and FAULT_N follows it (R683). -/
theorem exec_answers (c : Instr) (s : State) : ∃ x, exec c s = answer x := by cases c <;> exact ⟨_, rfl⟩

theorem exec_next (c : Instr) (s : State) : ∃ t, exec c s = .next t := (exec_answers c s).elim fun _ h => ⟨_, h⟩

end Sys2Proof.Machine
end

