-- ==== Sys2Proof/Tests/Slice0.lean ====
section
/-!
SUPPORT. Sys2Proof/Tests/Slice0.lean: the model's own tests: what WellFormed refuses, states that meet the premises of the statements, and
worked examples of the spec.
-/
namespace Sys2Proof.Tests
open Sys2Proof.Machine
set_option Elab.async false

/-! ## States that tests start from -/

/-- A physical function's whole-slot access. -/
def pf : Req := ⟨0, .w64⟩
/-- A virtual function's whole-slot access. -/
def vf : Req := ⟨1, .w64⟩

/-- Port HA up, its physical function enabled, every domain at power good and the hold over. -/
def base : State :=
  let s := (State.reset.setFlag (Page.hif 0) HIF.LINK_STATUS_LINK_UP true).setFn 0 { mse := true, bme := true }
  (s.setFld Page.pwr PWR.PWR_STATUS_UP (2 ^ 30 - 1)).setFlag Page.dev DEV.DEV_STATUS_HOLD false

/-- The same with page `p` READY, ACTIVE or whatever state `st` is. -/
def inState (p : Page) (st : Nat) (s : State := base) : State := s.setFld p TB.PAGE_STATE_STATE st

/-! ## States and operands that meet the premises of the statements -/

theorem witness_StepRunsFront : ({ base with pending := [.domainBringupStart] } : State).pending = .domainBringupStart :: [] := rfl

theorem witness_IdleTick :
    (base.pending = [] ∧ base.flag Page.dtm DTM.DTM_STATUS_W_SET = false) ∧
    ((base.setFlag Page.dtm DTM.DTM_STATUS_W_SET true).pending = [] ∧
      (base.setFlag Page.dtm DTM.DTM_STATUS_W_SET true).flag Page.dtm DTM.DTM_STATUS_W_SET = true) ∧
    (State.reset.flag Page.dev DEV.DEV_STATUS_HOLD = true ∧ State.reset.aon.holdEnd ≤ State.reset.time.us + 1 + 65535000) := by
  decide +kernel

theorem witness_FaultPinFollows : step State.reset = .next State.reset.tickUs.faultPin := rfl

theorem witness_OwnerCheck :
    (Page.kind (Page.lane 0) = some (.oln, 0) ∧ (Kind.oln).system = false) ∧
    (Page.kind Page.dev = some (.dev, 0) ∧ (Kind.dev).system = true) := by decide +kernel

/-- A physical function of the other port writes. -/
def other : Req := ⟨128, .w64⟩
/-- Both ports up. -/
def both : State := (base.setFlag (Page.hif 1) HIF.LINK_STATUS_LINK_UP true).setFn 128 { mse := true, bme := true }
/-- The same, and lane 0's page is port HA's alone. -/
def mine : State := both.setFld (Page.lane 0) TB.PAGE_OWNER_BOTH_PF 0

theorem witness_RefusedWrite :
    (mine.fate other (slotAddr (Page.lane 0) TB.EVENT_ENABLE 0) false = .owner ∧ mine.reg (Page.lane 0) TB.EVENT_STATUS = 0 ∧
      mine.flag (Page.hif 1) HIF.ERR_ADDR_VALID = false) ∧
    ((mine.setFlag (Page.hif 1) HIF.ERR_ADDR_VALID true).fate other (slotAddr (Page.lane 0) TB.EVENT_ENABLE 0) false = .owner ∧
      (mine.setFlag (Page.hif 1) HIF.ERR_ADDR_VALID true).flag (Page.hif 1) HIF.ERR_ADDR_VALID = true) := by decide +kernel

theorem witness_TitleBlockWrites :
    Page.kind Page.tel = some (.tel, 0) ∧ Page.kind Page.thm = some (.thm, 0) ∧
    (inState Page.tel 2).accepts pf Page.tel TB.PAGE_OWNER 0 false = true ∧
    (inState Page.tel 2).accepts pf Page.tel TB.EVENT_ENABLE 0 false = true ∧
    (inState Page.tel 2).accepts pf Page.tel TB.EVENT_STATUS 0 false = true ∧
    ((inState Page.tel 2).accepts pf Page.tel TB.PAGE_STATE 0 false = true ∧ Word.bit (0x20 : Word) 4 = false ∧
      (inState Page.tel 2).fld Page.tel TB.PAGE_STATE_STATE ∈ [2, 3, 4, 6]) ∧
    (base.accepts pf Page.thm TB.PAGE_STATE 0 false = true ∧ Word.bit (0x10 : Word) 4 = true) := by decide +kernel

theorem witness_Accesses :
    (base.spot pf.fn (.bar0 0x4100) = .slot 0x4100 ∧ (rowAt .thm 0x100).isSome = true ∧ ownRow .thm 0x100 = false ∧
      base.fate pf 0x4100 false = .ok ∧ base.flag Page.thm TB.PAGE_STATE_LOCK = false ∧
      (base.admits Page.thm .thm 0x100 (base.slot 0x4100) 5).isSome = true) ∧
    (ownRead 0x4108 = false ∧ base.readFate pf 0x4108 false = .ok ∧ base.readFate pf (slotAddr (Page.hif 0) HIF.ERR_ADDR 0) true = .ok) ∧
    (base.open_ pf.fn = true ∧ base.portUp (portOf 1) = true ∧ base.accepting 1 = false ∧ (0 : Nat) < msixSize 0) ∧
    (((base.setFlag (Page.hif 0) HIF.HIF_CTL_BULK_EN true).setFld (Page.hif 0) HIF.BW_BASE_BASE 0x100).flag (Page.hif 0)
        HIF.HIF_CTL_BULK_EN = true ∧
      (((base.setFlag (Page.hif 0) HIF.HIF_CTL_BULK_EN true).setFld (Page.hif 0) HIF.BW_BASE_BASE 0x100).bulkValue
        0x100 0).isSome = true) ∧
    base.flag (Page.hif 0) HIF.HIF_CTL_BULK_EN = false := by decide +kernel

theorem witness_Accesses_plain : Plain 0x4100 ∧ Quiet 0x4108 :=
  ⟨plain_of_off 4 0x100 (by decide) (by decide) (by decide), (plain_of_off 4 0x108 (by decide) (by decide) (by decide)).quiet⟩

theorem witness_PortsAndFunctions :
    (State.reset.aon.por = false ∧ State.reset.hosts.perst.getD 0 false = false ∧ State.reset.scanStops = false) ∧
    (base.portUp (portOf 0) = true ∧ (base.fn 0).flr = false ∧ base.flag (Page.hif 0) HIF.LINK_STATUS_LINK_UP = true) ∧
    ((base.setFn 1 { flr := true }).fn 1).flr = true := by decide +kernel

/-- Ring 3 of port HA (of transmit kind where `dir` is 1) with four descriptors of 16 posted. -/
def ringed (dir : Nat) : State :=
  let a := ringPage 0 3
  let j := ringSlot 3
  let s := ((base.setFlag a DMQ.RING_CFG_ENABLE true j).setFld a DMQ.RING_CFG_DIR dir j).setFld a DMQ.RING_TAIL_TAIL 4 j
  let s := s.setFlag (Page.hif 0) HIF.HIF_CTL_DMA_EN true
  { s with hostCopies := [{ ring := 3, reason := 5, bytes := List.replicate 100 1, lp := 7, parcel := 0, tc := 0, ts := 0, src := 3, chain := 0 }] }
/-- A receive descriptor with a buffer of 256 bytes. -/
def rxDesc : List Byte := fit 32 ([0, 0, 0, 0, 0, 0, 0, 0] ++ leBytes 4 256)

theorem witness_RingsAndLogs :
    (base.accepts pf (Page.hif 0) HIF.LOG_SEL 0 true = true ∧ base.snapFate pf.fn (Word.bits (Page.tel : Word) 0 16) = .ok) ∧
    (ringOf 3 = some (0, 3) ∧ (ringed 0).accepts pf (ringPage 0 3) DMQ.RING_TAIL (ringSlot 3) false = true) ∧
    ((ringed 0).ringWorks 0 3 = true ∧ (ringed 0).ringFld 0 3 DMQ.RING_CFG_DIR = 0 ∧ (ringed 0).ringPosted 0 3 = 4 ∧
      (spreadOver 100 ([rxDesc].take ((ringed 0).ringPosted 0 3))).isSome = true ∧
      spreadOver 100 (([] : List (List Byte)).take ((ringed 0).ringPosted 0 3)) = none) ∧
    ((ringed 1).ringWorks 0 3 = true ∧ (ringed 1).ringFld 0 3 DMQ.RING_CFG_DIR = 1 ∧ (ringed 1).ringPosted 0 3 ≠ 0 ∧
      bufLen (fit 32 (rxDesc.set 12 2)) ≠ 0 ∧ Nat.bitAt (byteAt (fit 32 (rxDesc.set 12 2)) 12) 1 =
        !((ringed 1).txParts.get (ringKey 0 3) dflt.txPart).begun) := by decide +kernel

/-- A virtual function of port HA is enabled and its page is its own. -/
def vfBase : State := ((base.setFld (Page.hif 0) HIF.LINK_STATUS_NUM_VFS 4).setFn 1 { mse := true, bme := true }).setFlag (Page.hif 0) HIF.HIF_CTL_DMA_EN true

theorem witness_RingsAndLogs_vf :
    isPF vf.fn = false ∧ Word.bit (1 : Word) 0 = true ∧ vfBase.accepts vf (Page.vfe vf.fn) VFE.LOG_SNAP 0 true = true := by
  decide +kernel

theorem witness_ParcelWrites :
    (base.accepts pf (pclPage 1) PCL.BUF_QUOTA (pclSlot 1) false = true ∧
      Word.bits (5 : Word) 24 21 < Word.bits (5 : Word) 0 21 ∧ base.parcelValid 1 = false) ∧
    (base.parcelValid 0 = true ∧ base.minSum 0 + 1310720 ≤ base.cellsIn ∧ base.cellsIn < base.minSum 0 + 1310721 ∧
      Word.bits (0x140001140001 : Word) 0 21 ≤ Word.bits (0x140001140001 : Word) 24 21) ∧
    (base.accepts pf (pclPage 1) PCL.PARCEL_CFG (pclSlot 1) false = true ∧
      (let s := (base.setPclFld 0 PCL.BUF_QUOTA_MIN_CELLS 1310720).setPclFld 1 PCL.BUF_QUOTA_MIN_CELLS 1
       s.parcelValid 1 = false ∧ s.cellsIn < s.minSum 1 + s.pclFld 1 PCL.BUF_QUOTA_MIN_CELLS)) ∧
    base.accepts pf (pclPage 1) PCL.RATE_QUOTA (pclSlot 1) false = true := by decide +kernel

/-- PCL0's data registers hold these words. -/
def withData (d0 d1 : Word) (s : State := base) : State := (s.setReg (Page.pcl 0) PCL.IND_DATA d0 0).setReg (Page.pcl 0) PCL.IND_DATA d1 1

theorem witness_IndirectParcels :
    (base.accepts pf (Page.pcl 0) PCL.IND_CMD 0 true = true ∧ base.flag (Page.pcl 0) PCL.IND_STATUS_BUSY = false ∧ isVF 255 = true ∧
      isVF (16 / 16) = true) ∧
    (let s := withData 0x800005005000 0
     Word.bit (s.pclData 0) 47 = true ∧ Word.bits (s.pclData 0) 24 12 = Word.bits (s.pclData 0) 12 12) ∧
    (let s : State := withData 0x800005006000 0 { base with easements := [(7, { valid := true, src := 5, dst := 6 })] }
     Word.bit (s.pclData 0) 47 = true ∧ ∃ e ∈ s.easements, e.1 ≠ 4095 ∧ e.2.valid = true ∧ e.2.src = Word.bits (s.pclData 0) 24 12 ∧
       e.2.dst = Word.bits (s.pclData 0) 12 12) ∧
    (let s := withData 0x800005006000 0
     ¬ (∃ e ∈ s.easements, e.1 ≠ 0 ∧ e.2.valid = true ∧ e.2.src = Word.bits (s.pclData 0) 24 12 ∧
       e.2.dst = Word.bits (s.pclData 0) 12 12) ∧ Word.bits (s.pclData 0) 24 12 ≠ Word.bits (s.pclData 0) 12 12) ∧
    (Page.kind (Word.bits ((withData 0x800000005000 0).pclData 0) 0 16)).isNone = true ∧
    (Page.kind (Word.bits ((withData 0x800000004200 0).pclData 0) 0 16)).isSome = true := by decide +kernel

/-- Command ring 0 of the virtual function with one descriptor posted. -/
def cmdBase : State := (vfBase.setFlag (Page.vfe 1) VFE.CMD_CFG_ENABLE true).setFld (Page.vfe 1) VFE.CMD_TAIL_INDEX 1
/-- A descriptor: opcode, traverse, target, parcel, length. -/
def cmdDesc (op trav target parcel len : Nat) : List Byte :=
  fit 128 (leBytes 2 op ++ leBytes 1 trav ++ [0] ++ leBytes 2 target ++ leBytes 2 parcel ++ zeros 5 ++ leBytes 1 len)

theorem witness_TenantRings :
    (isPF vf.fn = false ∧ vfBase.accepts vf (Page.vfe vf.fn) VFE.CMD_TAIL 0 true = true) ∧
    (cmdBase.mayDma 1 = true ∧ cmdBase.flag (Page.vfe 1) VFE.CMD_CFG_ENABLE = true ∧ (cmdDesc 1 0 0 0 1).length = 128 ∧
      cmdBase.fld (Page.vfe 1) VFE.CMD_HEAD_INDEX % cmdBase.cmdRingSize 1 0 ≠
        cmdBase.fld (Page.vfe 1) VFE.CMD_TAIL_INDEX % cmdBase.cmdRingSize 1 0) ∧
    (leAt (cmdDesc 11 0 0 0 1) 0 2 = 0x0B ∧ byteAt (cmdDesc 1 25 0 0 1) 2 = 25 ∧ byteAt (cmdDesc 1 0 0 0 17) 13 = 17) ∧
    (leAt (cmdDesc 1 24 1023 7 16) 0 2 = 1 ∧ byteAt (cmdDesc 1 24 1023 7 16) 2 < 25 ∧ byteAt (cmdDesc 1 24 1023 7 16) 13 = 16 ∧
      leAt (cmdDesc 1 24 1023 7 16) 4 2 < 1024 ∧ cmdBase.cmdBound 1 0 (leAt (cmdDesc 1 24 1023 7 16) 6 2 % 4096) = false) := by
  decide +kernel

theorem witness_UseOfResources :
    (∃ e ∈ ({ base with easements := [(0, { valid := true, src := 5, dst := 6, forward := true })] } : State).easements,
      e.2.valid = true ∧ e.2.src = 5 ∧ e.2.dst = 6 ∧ e.2.permits .forward = true) ∧
    ¬ (∃ e ∈ base.easements, e.2.valid = true ∧ e.2.src = 5 ∧ e.2.dst = 6 ∧ e.2.permits .forward = true) := by decide +kernel

/-- Module `n` seated in state `st`, its LM_EN high where the state asks for it. -/
def seat (n st : Nat) (s : State := base) : State :=
  ((s.setFlag (Page.lmp n) LMP.LMP_STATUS_PRESENT true).setFld (Page.lmp n) LMP.LMP_STATUS_MSTATE st).setFlag (Page.lmp n)
    LMP.LMP_STATUS_LEN (decide (4 ≤ st))

/-- An identity page that checks. -/
def ident : List Byte :=
  let l := fit 0xFC (beBytes 2 0x4F43 ++ [1, 4] ++ zeros 32 ++ beBytes 2 1271 ++ [20])
  l ++ beBytes 4 (crc32c l)

theorem witness_ModuleStates :
    (base.flag (Page.lmp 35) LMP.LMP_STATUS_PRESENT = false ∧ (seat 35 1).flag (Page.lmp 35) LMP.LMP_STATUS_PRESENT = true) ∧
    ((seat 35 1).served 35 = true ∧ (seat 35 1).mstate 35 = 1 ∧ identityGood ident = true ∧ identityGood [] = false) ∧
    (let s := ((seat 2 3).setFlag (Page.lmp 2) LMP.LMP_CTL_ENABLE true).setFlag (Page.lmp 2) LMP.LMP_STATUS_ID_OK true
     s.mayEnable 2 = true) ∧
    ((seat 2 5).lmEn 2 = true ∧ 4 ≤ (seat 2 5).mstate 2 ∧ (seat 2 4).mstate 2 = 4) ∧
    (((seat 2 5).feed 1 3).chosen = false ∧ (seat 2 5).laserReady (2 * 1) 3 = true ∧
      (seat 3 5).laserReady (2 * 1) 3 = false ∧ (seat 3 5).laserReady (2 * 1 + 1) 3 = true) ∧
    (let s := (seat 2 5).setLaserBit 2 LMP.LMP_STATUS_CARRY 3 true
     s.carries 2 3 = true ∧ (s.feed (2 / 2) 3).move = none ∧ s.laserBit (partner 2) LMP.LMP_STATUS_STANDBY_OK 3 = false) ∧
    (let s := ((seat 3 5 (seat 2 5)).setLaserBit 2 LMP.LMP_STATUS_CARRY 3 true).setLaserBit 3 LMP.LMP_STATUS_STANDBY_OK 3 true
     s.carries 2 3 = true ∧ (s.feed (2 / 2) 3).move = none ∧ s.laserBit (partner 2) LMP.LMP_STATUS_STANDBY_OK 3 = true ∧
       ((s.setFeed 1 3 { move := some (.failure, true) }).feed 1 3).move = some (.failure, true) ∧
       (s.setFeed 1 3 { move := some (.failure, true) }).carries (partner (2 * 1 + (if true then 1 else 0))) 3 = true) := by
  decide +kernel

theorem witness_ModuleCommands :
    (3 ≤ (seat 2 3).mstate 2 ∧ (seat 2 3).flag (Page.lmp 2) LMP.LMP_STATUS_STUCK = false ∧ (seat 2 3).lmEn 2 = false ∧
      (((seat 2 3).setBay 2 { iNom := 100 }).bay 2).iNom ≠ 0) ∧
    ((seat 2 3).accepts pf (Page.lmp 2) LMP.LMP_CTL 0 false = true ∧ Word.bit (0x41 : Word) 0 = true ∧ Word.bit (0x41 : Word) 5 = false ∧
      Word.bit (0x41 : Word) 6 = true ∧ Word.bit (0x41 : Word) 7 = false ∧ Word.bits (0x41 : Word) 8 4 = 0) ∧
    (Word.bit (0x801 : Word) 0 = true ∧ Word.bits (0x801 : Word) 8 4 = 2 ^ (3 : Fin 4).val ∧ (seat 2 5).takeoverAt (2 / 2) = false ∧
      (seat 2 5).carries 2 3 = false ∧ (seat 2 5).moveTo 2 3 = false ∧
      ((seat 2 5).setLaserBit 2 LMP.LMP_STATUS_STANDBY_OK 3 true).laserBit 2 LMP.LMP_STATUS_STANDBY_OK 3 = true ∧
      (seat 2 5).laserBit 2 LMP.LMP_STATUS_STANDBY_OK 3 = false) ∧
    (Word.bit (0x21 : Word) 5 = true ∧ Word.bit ((seat 2 5).reg (Page.lmp 2) LMP.LMP_CTL) 5 = false ∧
      (seat 2 5).fld (Page.lmp 2) LMP.LMP_STATUS_CARRY = 0 ∧
      (let s := (seat 2 5).setLaserBit 2 LMP.LMP_STATUS_CARRY 3 true
       s.carries 2 3 = true ∧ s.moveTo (partner 2) 3 = false ∧ s.laserBit (partner 2) LMP.LMP_STATUS_STANDBY_OK 3 = false) ∧
      ((seat 2 5).setFlag (Page.lmp 2) LMP.LMP_CTL_SWAP_REQ true).swapWaits 2 = true) ∧
    (Word.bit (0x81 : Word) 7 = true ∧ ((seat 2 3).setFlag (Page.lmp 2) LMP.LMP_STATUS_STUCK true).flag (Page.lmp 2)
      LMP.LMP_STATUS_STUCK = true) ∧
    ((seat 2 5).laserReady 2 0 = true ∧ (seat 2 5).runPasses 2 (-20000) = false ∧ (seat 2 5).runPasses 2 0 = true) ∧
    ((seat 2 3).accepts pf (Page.lmp 2) LMP.MEM_CMD 0 true = true ∧ (seat 2 3).flag (Page.lmp 2) LMP.MEM_STATUS_BUSY = false ∧
      Word.bits (0x500000000140 : Word) 44 3 = 5 ∧ Word.bits (0x140 : Word) 0 16 = 0x140) ∧
    (let s := (seat 35 3).setBay 35 { cmd := some { offset := 0, data := 0, len := 6, write := false } }
     s.served (4 * 8 + 3) = true ∧ (s.bay (4 * 8 + 3)).cmd ≠ none) := by decide +kernel

/-- Lane `l` in state `st`, its thread running. -/
def laneIn (l st : Nat) (s : State := base) : State :=
  (s.setFld (Page.lane l) LN.LANE_STATUS_LSTATE st).setThread (l / 8) (l % 8) { running := true }
/-- Ring `l` in state `st`. -/
def ringIn (l st : Nat) (s : State := base) : State := s.setFld (Page.lane l) OLN.RING_STATUS_RSTATE st
/-- Logical port `lp`, the first of its port engine, enabled with the lanes of `set`. -/
def portOf4 (lp set : Nat) (s : State := base) : State :=
  (s.setLpFld lp PEN.LP_CTL_ENABLE 1).setLpFld lp PEN.LP_STATUS_LANES set

theorem witness_RingStates :
    (base.flag (Page.oen 17) OEN.OEN_STATUS_FAU_PRESENT = !true ∧ base.powered (Page.oen 17) = true ∧ base.queues = []) ∧
    ((laneIn 575 lsActive (base.setFlag (Page.lane 575) LN.LANE_STATUS_SIG_DET true)).laneUp 575 = true ∧
      (base.setFlag (Page.lane 575) LN.LANE_STATUS_SIG_DET true).flag (Page.lane 575) LN.LANE_STATUS_SIG_DET = true) ∧
    (let s := laneIn 0 lsDark (((seat 0 5).setLaserBit 0 LMP.LMP_STATUS_CARRY 0 true))
     s.ringState 0 = 0 ∧ s.feedLit 0 = true ∧ s.threadRuns 0 = true ∧ s.lstate 0 ≠ lsTest ∧
       s.flag (Page.lane 0) TB.PAGE_STATE_TEST_REQ = false) ∧
    ((ringIn 9 4).ringState 9 = 4 ∧ 1280 ≤ (({ ringIn 9 4 with engineT := [(0, 1280)] } : State).engTemp (9 / 32) - ((ringIn 9 4).lane 9).limitT).natAbs) ∧
    ((ringIn 9 1).ringState 9 = 1 ∧ (ringIn 9 2).ringState 9 = 2 ∧ (ringIn 9 1).powered (Page.lane 9) = true) ∧
    ((laneIn 9 lsActive (ringIn 9 1)).lstate 9 ≠ lsDark ∧ (ringIn 9 1).ringModulates 9 = true ∧
      (-600 : Int) < minLaunch ((ringIn 9 1).fld (Page.lane 9) LN.LANE_CTL_RATE)) ∧
    (base.flag (Page.oen (9 / 32)) OEN.TAP_SEL_EN = false ∧ base.idleLane 9 = true ∧ base.lstate 9 ≠ lsTest) := by decide +kernel

/-- A message of a lane move: type, sequence number and mask. -/
def moveBytes (type seq mask : Byte) : List Byte :=
  let l := fit 29 [type, seq, mask]
  l ++ beBytes 2 (crc16 l)

theorem witness_SlotsAndMoves :
    (base.accepts pf (Page.oen 17) OEN.CAL_CMD 0 true = true ∧ Word.bit (1 : Word) 0 = true) ∧
    (let s := ((base.setFlag (Page.oen 3) OEN.OEN_CTL_AUTO_SAVE true).setCal 3 { autoDue := true }).setFld (Page.oen 3) OEN.OEN_STATUS_RINGS_LOCKED 32
     s.flag (Page.oen 3) OEN.OEN_CTL_AUTO_SAVE = true ∧ (s.cal 3).autoDue = true ∧ s.fld (Page.oen 3) OEN.OEN_STATUS_RINGS_LOCKED = 32) ∧
    (let s := base.setFlag (Page.oen 3) OEN.CAL_STATUS_BUSY true
     s.flag (Page.oen 3) OEN.CAL_STATUS_BUSY = true ∧ s.flag (Page.oen 3) OEN.CAL_STATUS_VALID = false ∧
       (s.setFlag (Page.oen 3) OEN.CAL_STATUS_VALID true).flag (Page.oen 3) OEN.CAL_STATUS_VALID = true) ∧
    ((laneIn 9 lsActive).flag (Page.lane 9) LN.LANE_STATUS_SIG_DET = false ∧ (laneIn 9 lsActive).laneUp 9 = true ∧ (laneIn 9 lsActive).queues = []) ∧
    (let s := base.setPort 764 { move := some ⟨5, 7, 1, false⟩ }
     s.queues = [] ∧ s.answered 764 (moveBytes 3 5 6) 3 = some ⟨5, 7, 1, false⟩ ∧ (s.port 764).move = some ⟨5, 7, 1, false⟩ ∧
       s.powered (lpPage 764) = true) ∧
    (let s := base.setPort 4 { move := some ⟨255, 7, 0, true⟩ }
     s.answered 4 (moveBytes 5 255 6) 5 = some ⟨255, 7, 0, true⟩ ∧ (s.port 4).move = some ⟨255, 7, 0, true⟩) ∧
    base.accepts pf (Page.oen 0) OEN.TAP_SEL 0 false = true := by decide +kernel

/-- Logical port 4 with lane 5 SPARED and tested, its width `w`. -/
def sparedPort (w : Nat) : State :=
  (laneIn 5 lsSpared ((portOf4 4 13).setLane 5 { testOk := true })).setPort 4 { width := w }

theorem witness_SlotsAndMoves_restore :
    ((sparedPort 1).accepts pf (Page.oen 0) OEN.SPARE_CMD 0 true = true ∧ Word.bit (2 : Word) (4 / 4) = true ∧
      (sparedPort 1).lpEnabled (32 * 0 + 4) = true ∧ (∀ j, j < 32 → j ≠ 4 → (sparedPort 1).lpEnabled (32 * 0 + j) = false) ∧
      (sparedPort 1).testedMask (32 * 0 + 4) ≠ 0 ∧ ((sparedPort 1).port (32 * 0 + 4)).width = 1) ∧
    (((sparedPort 2).port 4).width = 2 ∧ (sparedPort 2).testedMask 4 = (sparedPort 2).sparedMask 4 ∧ (sparedPort 2).queues = []) := by
  decide +kernel

theorem witness_BringUp :
    ((laneIn 0 lsDetect).lstate 0 = lsDetect ∧ (laneIn 0 lsDetect).threadRuns 0 = true ∧ ((laneIn 0 lsDetect).lane 0).backoff = false ∧
      (((laneIn 0 lsDetect).setLane 0 { backoff := true }).lane 0).backoff = true) ∧
    (let s := (laneIn 576 lsDetect (portOf4 576 15)).setLane 576 { sampled := 5 }
     s.modesDiffer 576 = true ∧ Nat.bitAt (s.laneSet (s.portOfLane 576)) (576 % 4) = true ∧ s.powered (Page.lane 576) = true ∧
       (laneIn 0 lsDetect (portOf4 0 15)).modesDiffer 0 = false) ∧
    (let s := ((laneIn 767 lsDetect (portOf4 764 15)).setLane 767 { sampled := 0x8000 }).setFlag (Page.lane 767) LN.LANE_STATUS_PEER_PRESENT true
     s.lstate (576 + 191) = lsDetect ∧ s.needsAn (576 + 191) = true ∧ s.flag (Page.lane (576 + 191)) LN.LANE_STATUS_PEER_PRESENT = true ∧
       Nat.bitAt (s.laneSet (s.portOfLane (576 + 191))) ((576 + 191) % 4) = true) ∧
    (let s : State := { (laneIn 576 lsDetect).setFlag (Page.lane 576) LN.LANE_STATUS_PEER_PRESENT true with
         slotWaits := [(0, 576)], slotsUsed := List.replicate 31 0 }
     s.slotsTaken.length < 32 ∧ (s.slotWaits.find? (fun e => s.readyToStart e.2)).map (·.2) = some 576) ∧
    (let s := (laneIn 576 lsTrain).setLane 576 { sampled := 0x2004 }
     s.lstate 576 = lsTrain ∧ Word.bits (s.lane 576).sampled 0 3 = 4 ∧ Word.bit (s.lane 576).sampled 13 = true ∧
       (s.lane 576).txStatus % 4 = 0 ∧ fieldGood (BitVec.ofNat 32 (crc8 9 * 2 ^ 24 + 9)) = true ∧
       (BitVec.ofNat 32 (crc8 9 * 2 ^ 24 + 9)).toNat % 2 ^ 9 = 4 * (3 - (0 + 1)) + 1 ∧
       tapsGood ((s.taps 576).set (0 + 1) ((s.taps 576).getD (0 + 1) 0 + 1)) = false ∧
       (BitVec.ofNat 32 (crc8 5 * 2 ^ 24 + 5)).toNat % 2 ^ 9 = 4 * (3 - (1 + 1)) + 1 ∧
       tapsGood ((s.taps 576).set (1 + 1) ((s.taps 576).getD (1 + 1) 0 + 1)) = true) ∧
    ((laneIn 767 lsTrain).lstate 767 = lsTrain ∧ Word.bit ((laneIn 767 lsTrain).lane 767).sampled 13 = false ∧
      (laneIn 767 lsTrain).queues = [] ∧ (laneIn 767 lsTrain).powered (Page.lane 767) = true ∧
      ((laneIn 767 lsTrain).setFld (Page.lane 767) LN.LANE_STATUS_ATTEMPTS 15).fld (Page.lane 767) LN.LANE_STATUS_ATTEMPTS = 15) ∧
    ((laneIn 767 lsLock).lstate 767 = lsLock ∧ (laneIn 767 lsLock).flag (Page.lane 767) LN.LANE_STATUS_LOCKED = false) ∧
    (let s := laneIn 5 lsLock (laneIn 4 lsLock ((portOf4 4 3).setFlag (Page.lane 4) LN.LANE_STATUS_LOCKED true))
     s.queues = [] ∧ (∃ m, m ∈ lanesOf 4 (s.laneSet 4) ∧ s.lstate m = lsLock ∧ s.flag (Page.lane m) LN.LANE_STATUS_LOCKED = true) ∧
       ∀ m, m ∈ lanesOf (s.portOfLane 5) (s.laneSet (s.portOfLane 5)) → m ≠ 5 →
         s.lstate m = lsLock ∧ s.flag (Page.lane m) LN.LANE_STATUS_LOCKED = true) := by decide +kernel

/-- Lane 576 of an enabled port that is allowed to run, with image and page ENABLE. -/
def freeLane (st : Nat) : State :=
  ((laneIn 576 st (portOf4 576 1)).setFlag (Page.lsq 72) LSQ.SEQ_STATUS_IMAGE_VALID true).setFlag (Page.lane 576) TB.PAGE_STATE_ENABLE true

theorem witness_BringUp_link :
    ((freeLane lsTieIn).queues = [] ∧ (freeLane lsTieIn).fabricPort 576 = false ∧ lanesOf 576 ((freeLane lsTieIn).laneSet 576) ≠ [] ∧
      ∀ m, m ∈ lanesOf 576 ((freeLane lsTieIn).laneSet 576) → (freeLane lsTieIn).lstate m = lsTieIn ∧
        (freeLane lsTieIn).laneAllowed m = true ∧ ∀ i, i < 48 → (freeLane lsTieIn).severity (Page.lane m) i ≠ 3) ∧
    ((freeLane lsTrain).laneAllowed 576 = true) := by decide +kernel

theorem witness_LanesInService :
    ((laneIn 767 lsActive).laneUp 767 = true ∧ (laneIn 767 lsDegraded).laneUp 767 = true ∧ (laneIn 767 lsTest).laneUp 767 = false ∧
      (laneIn 767 lsActive).queues = []) ∧
    (let s := laneIn 767 lsTrain (base.setFlag (Page.lane 767) LN.LANE_STATUS_SIG_DET true)
     s.flag (Page.lane (576 + 191)) LN.LANE_STATUS_SIG_DET = true ∧ s.laneTrying (576 + 191) = true) ∧
    ((laneIn 0 lsActive).overBer 0 1 1 = true ∧ (laneIn 0 lsActive).overBer 0 0 1 = false ∧ (laneIn 0 lsActive).isHalted (Page.lane 0) = false ∧
      (((laneIn 0 lsDegraded).setLane 0 { winLow := 2 }).lane 0).winLow = 2) ∧
    (base.accepts pf (Page.lane (576 + 191)) ELN.TX_EQ 0 false = true ∧ base.lstate (576 + 191) ∈ [lsDark, lsDetect, lsTest] ∧
      tapsGood [0, -8, 0, 0] = true ∧ tapsGood [0, -25, 0, 0] = false) ∧
    (base.accepts pf (Page.lane 575) LN.PAT_CTL 0 false = true ∧
      ((laneIn 0 lsTest).setFlag (Page.lane 0) LN.PAT_CTL_CHK_EN true).flag (Page.lane 0) LN.PAT_CTL_CHK_EN = true ∧
      (base.setFlag (Page.lane 0) LN.PAT_STATUS_PAT_LOCK true).flag (Page.lane 0) LN.PAT_STATUS_PAT_LOCK = true) ∧
    (let s := (laneIn 3 lsTest (base.setFlag (Page.lane 3) LN.PAT_STATUS_GEN_ON true)).setFld (Page.lane 3) LN.INJ_CFG_MODE 3
     s.accepts pf (Page.lane 3) LN.INJ_CMD 0 true = true ∧ Word.bit (1 : Word) 0 = true ∧ s.injectable 3 = true ∧
       s.fld (Page.lane 3) LN.INJ_CFG_MODE = 3 ∧ (s.setFld (Page.lane 3) LN.INJ_CFG_MODE 1).fld (Page.lane 3) LN.INJ_CFG_MODE = 1) := by
  decide +kernel

/-- Sequencer 95 with its group thread running at micro address 0x2000, where the patch RAM holds `w`, and a nano-word. -/
def micro (w : BitVec 24) (x : Thread := { space := .micro, pc := 0x2000 }) : State :=
  { (base.setThread 95 8 x).setTstate 95 8 tsRun with stores := { patch := [w, 0], nano := [0] } }
/-- The same with vertical code. -/
def vert (x : Thread := {}) : State := (base.setThread 95 8 x).setTstate 95 8 tsRun

theorem witness_Microwords :
    ((micro 0).tstate 95 8 = tsRun ∧ ((micro 0).thread 95 8).space = .micro ∧ (micro 0).redirect ((micro 0).thread 95 8).pc = 0x2000 ∧
      (micro 0).microOk 0x2000 = true ∧ (micro 7).microWord 0x2000 0 = 7) ∧
    (isFormat 0 0 = true ∧ 0 / 2 ^ 10 % 2 ^ 12 < (micro 0).stores.nano.length) ∧
    (isFormat 1 0x400000 = true ∧ 0x400000 % 8 = 0 ∧ (micro 0x400000).microOk ((micro 0x400000).branchTarget 95 8 0x400000 0) = true ∧
      Nat.bitAt 0x400000 3 = false ∧ Nat.bitAt 0x400008 3 = true ∧ isFormat 1 0x400008 = true ∧
      ((micro 0).thread 95 8).stack.length < 8) ∧
    (isFormat 2 0x800000 = true ∧ (micro 0x800000).condition 95 8 0 0 = Nat.bitAt 0x800000 15 ∧
      (micro 0x800000).condition 95 8 0 1 ≠ Nat.bitAt 0x800000 15 ∧ 0x800000 % 2 ^ 12 = 0 ∧ 0x800000 / 2 ^ 12 % 8 ≠ 7 ∧
      0x800001 % 2 ^ 12 ≠ 0 ∧ 0x807000 / 2 ^ 12 % 8 = 7) ∧
    (isCtrl 0 0xC02000 = true ∧ (micro 0xC02000).microOk (0xC02000 % 2 ^ 14) = true ∧ isCtrl 1 0xC42000 = true ∧ isCtrl 2 0xC80000 = true ∧
      isCtrl 3 0xCC0000 = true ∧ isCtrl 4 0xD00000 = true ∧ isCtrl 5 0xD40000 = true ∧ isCtrl 6 0xD80000 = true ∧
      isCtrl 7 0xDC0000 = true ∧ isCtrl 8 0xE00000 = true ∧ isCtrl 9 0xE40000 = true ∧ isCtrl 10 0xE80000 = true) ∧
    ((micro 0).queues = [] ∧ (micro 0).inHandler 95 8 = false ∧
      ((micro 0 { space := .micro, pc := 0x2000, stack := [(.micro, 1)] }).thread 95 8).stack = [(.micro, 1)]) := by decide +kernel

theorem witness_VerticalOps :
    (let s := vert { wait := some ⟨63, true, true⟩ }
     (s.thread 95 8).wait = some ⟨63, true, true⟩ ∧ s.condition 95 8 63 0 = true) ∧
    ((vert).tstate 95 8 = tsRun ∧ ((vert).thread 95 8).space = .vertical ∧ ((vert).thread 95 8).stack.length ≤ 8 ∧
      ((vert).thread 95 8).g.length = 16 ∧ (vert).inHandler 95 8 = false ∧ (vert).queues = []) ∧
    ((0x0000 : BitVec 24).toNat % 2 ^ 16 / 2 ^ 12 = 0 ∧ (0xF800 : BitVec 24).toNat % 2 ^ 16 / 2 ^ 12 = 15 ∧
      Nat.bitAt 0xF800 11 = true ∧ Nat.bitAt 0xF000 11 = false ∧ 0x2018 % 16 < 9 ∧ 0xB800 / 2 ^ 10 % 4 < 3 ∧ 0xC007 % 16 < 8) ∧
    ((vert).condition 95 8 63 0 = true ∧ (vert).condition 95 8 0 0 = false) ∧
    (let s : State := { vert { g := List.replicate 16 0x20FF } with stores := { patch := List.replicate 256 0 } }
     (s.greg 95 8 (0xAF00 / 2 ^ 8 % 16)).toNat % 2 ^ 14 = 0x20FF ∧ s.microOk 0x20FF = true) := by decide +kernel

/-- Every thread of sequencer 0 waits for an event flag. -/
def allWait : State := (List.range 9).foldl (fun (s : State) (t : Nat) => s.setThread 0 t { wait := some ⟨47, true, true⟩ }) base

/-- A copy of an image: one nano-word of zeros, no patch words. -/
def imageCopy : List Byte :=
  let body := zeros 18
  fit 256 ([0x4E, 0x4C, 0x53, 0x51] ++ leBytes 2 1 ++ leBytes 2 256 ++ leBytes 4 9 ++ [0, 0]
    ++ leBytes 2 (base.fld (Page.lsq 0) LSQ.SEQ_STATUS_ROM_ID) ++ leBytes 2 0 ++ leBytes 2 1 ++ leBytes 4 0 ++ leBytes 4 18
    ++ leBytes 4 (crc32c body)) ++ body
/-- Slot A of device FA holds it and its load is under way. -/
def imageIn : State :=
  { (base.setFlag (Page.lsq 0) LSQ.IMG_STATUS_BUSY true) with loadQueue := [0, 2], flash := imageCopy.zipIdx.map (fun e => (e.2, e.1)) }

theorem witness_TrapsAndStores :
    ((vert).tstate 95 8 = tsRun ∧ (vert).inHandler 95 8 = false ∧ ((vert).thread 95 8).stack.length ≤ 8) ∧
    ((∀ t, t < 9 → allWait.waitsOnPeers 0 t = true) ∧ allWait.queues = [] ∧ allWait.stalledAt.get 0 0 = 0) ∧
    (base.powered (Page.lsq 95) = true ∧ base.flag (Page.lsq 0) LSQ.IMG_STATUS_VERIFIED = false ∧
      (base.setFlag (Page.lsq 0) LSQ.IMG_STATUS_VERIFIED true).flag (Page.lsq 0) LSQ.IMG_STATUS_VERIFIED = true) ∧
    (base.accepts pf (Page.lsq 0) LSQ.IMG_CTL 0 false = true ∧ base.flag (Page.lsq 0) LSQ.IMG_STATUS_BUSY = false) ∧
    (imageIn.flag (Page.lsq 0) LSQ.IMG_STATUS_BUSY = true ∧ imageIn.loadQueue = 0 :: [2] ∧ imageIn.imageReason 0 .readError ≠ 0) ∧
    (let s := { imageIn.setFlag (Page.lsq 0) LSQ.IMG_STATUS_VERIFIED true with loadQueue := [] }
     s.flag (Page.lsq 0) LSQ.IMG_STATUS_BUSY = true ∧ s.loadQueue = [] ∧ s.flag (Page.lsq 0) LSQ.IMG_STATUS_VERIFIED = true) := by
  decide +kernel

/-- A copy in order otherwise is accepted where its signature verifies, which the model leaves open. -/
theorem imageReason_accepts (s : State) (c : Nat) (h1 : (s.imageBytes c 0 256).all (fun b => b == 0xFF) = false)
    (h2 : s.imageForm c = true) (h3 : leAt (s.imageBytes c 0 256) 0xE 2 = s.fld (Page.lsq 0) LSQ.SEQ_STATUS_ROM_ID)
    (h4 : Nat.bitAt (s.fld Page.dev DEV.OTP_SEC_REVOKED) (byteAt (s.imageBytes c 0 256) 0xD) = false)
    (h5 : s.fld Page.dev DEV.OTP_SEC_MIN_SVN ≤ byteAt (s.imageBytes c 0 256) 0xC)
    (h6 : leAt (s.imageBytes c 0 256) 0x1C 4 = crc32c (s.imageBytes c 0x100 (leAt (s.imageBytes c 0 256) 0x18 4)))
    (h : ∀ k all r z, Config.imageSigned k all r z = true) : s.imageReason c .none = 0 := by
  have h7 : ¬ byteAt (s.imageBytes c 0 256) 0xC < s.fld Page.dev DEV.OTP_SEC_MIN_SVN := Nat.not_lt.mpr h5
  simp only [State.imageReason, h, h1, h2, h3, h4, h6]
  simp [h7]

theorem imageIn_form : imageIn.imageForm 0 = true := by decide +kernel
theorem imageIn_header : ((imageIn.imageBytes 0 0 256).all (fun b => b == 0xFF) = false ∧
    leAt (imageIn.imageBytes 0 0 256) 0xE 2 = imageIn.fld (Page.lsq 0) LSQ.SEQ_STATUS_ROM_ID) := by decide +kernel
theorem imageIn_version : (Nat.bitAt (imageIn.fld Page.dev DEV.OTP_SEC_REVOKED) (byteAt (imageIn.imageBytes 0 0 256) 0xD) = false ∧
    imageIn.fld Page.dev DEV.OTP_SEC_MIN_SVN ≤ byteAt (imageIn.imageBytes 0 0 256) 0xC) := by decide +kernel
theorem imageIn_crc : leAt (imageIn.imageBytes 0 0 256) 0x1C 4 =
    crc32c (imageIn.imageBytes 0 0x100 (leAt (imageIn.imageBytes 0 0 256) 0x18 4)) := by decide +kernel

/-- Whether a signature verifies is open: the copy is accepted where it does. -/
theorem witness_TrapsAndStores_image (h : ∀ k all r z, Config.imageSigned k all r z = true) : imageIn.imageReason 0 .none = 0 :=
  imageReason_accepts _ _ imageIn_header.1 imageIn_form imageIn_header.2 imageIn_version.1 imageIn_version.2 imageIn_crc h

theorem witness_Mailbox :
    (base.accepts pf (Page.lsq 95) LSQ.MBX_CMD 0 true = true ∧ base.flag (Page.lsq 95) LSQ.MBX_STATUS_BUSY = false ∧
      base.flag (Page.lsq 0) LSQ.IMG_STATUS_VERIFIED = false ∧ base.queues = []) ∧
    (Word.bits (0x018000000000 : Word) 40 8 = 1 ∧ Word.bits (0x018000000000 : Word) 36 4 = 8 ∧ Word.bits (0x027000000000 : Word) 36 4 = 7 ∧
      Word.bits (0x090000000000 : Word) 40 8 = 9) ∧
    (((vert).thread 95 8).stack.length ≤ 8 ∧ (laneIn 767 lsActive).lstate (8 * 95 + 7) ∈ [lsActive, lsTest] ∧
      base.lstate (8 * 95 + 7) ∉ [lsActive, lsTest] ∧ base.tstate 95 8 ≠ tsHalted ∧ (base.setTstate 95 8 tsHalted).tstate 95 8 = tsHalted) ∧
    (base.setFlag (Page.lsq 95) LSQ.MBX_STATUS_BUSY true).flag (Page.lsq 95) LSQ.MBX_STATUS_BUSY = true := by decide +kernel

/-- Port 576 with link state `st`, lanes `set`, in fabric mode with sparing agreed where `fab` says so. -/
def linkIn (st set : Nat) (fab : Bool) : State :=
  (((portOf4 576 set).setLpFld 576 PEN.LP_STATUS_LSTATE st).setLane 576 { sampled := if fab then 0x100 else 0 }).setLpFld 576
    PEN.TIEIN_STATUS_AGREED (if fab then 1 else 0)
/-- A TIE_IN message with its flags and its lane and width byte. -/
def tieBytes (flags place : Byte) : List Byte :=
  let l := fit 29 [1, 1, flags, place, 0]
  l ++ beBytes 2 (crc16 l)
/-- Lane 576 in TIE_IN, its peer known and `run` messages counted, in a fabric port of lanes `set`. -/
def tieLane (set run : Nat) : State :=
  (laneIn 577 lsTieIn (laneIn 576 lsTieIn (linkIn lpDown set true))).setLane 576 { sampled := 0x100, peerId := some 0, tieRun := run }

theorem witness_PortControl_moves :
    ((base.setPort 767 { move := some ⟨255, 7, 8, false⟩ }).port 767).move = some ⟨255, 7, 8, false⟩ ∧
    (msgGood (moveBytes 2 9 7) 2 = true ∧ byteAt (moveBytes 2 9 7) 2 % 16 = 7 ∧ (linkIn lpUp 15 true).linkUp 576 = true ∧
      (linkIn lpUp 15 true).spareAgreed 576 = true ∧ Nat.land 7 ((linkIn lpUp 15 true).laneSet 576) = 7 ∧
      ((linkIn lpUp 15 true).port 576).move = none ∧ (linkIn lpUp 15 true).queues = []) ∧
    (let s := (laneIn 579 lsSpared (linkIn lpReduced 7 true)).setLane 579 { testOk := true }
     msgGood (moveBytes 4 9 15) 4 = true ∧ Nat.land (byteAt (moveBytes 4 9 15) 2 % 16) (s.configured 576) = 15 ∧ s.linkUp 576 = true ∧
       Nat.bitAt 15 3 = true ∧ s.lstate (576 / 4 * 4 + 3) = lsSpared ∧ (s.lane (576 / 4 * 4 + 3)).testOk = true) := by decide +kernel

theorem witness_PortControl_tieIn :
    ((tieLane 1 0).portOfLane 576 = 576 ∧ (tieLane 1 0).lstate 576 = lsTieIn ∧ (tieLane 1 0).fabricPort 576 = true) ∧
    ((fit 31 ([1] : List Byte)).length = 31 ∧ beAt (fit 31 ([1] : List Byte)) 29 2 ≠ crc16 ((fit 31 ([1] : List Byte)).take 29)) ∧
    (msgGood (tieBytes 0 0x20) 1 = true ∧ (tieLane 1 0).tieReason 576 (tieBytes 0 0x20) = 3 ∧ (tieLane 1 0).queues = [] ∧
      (tieLane 1 0).powered (lpPage 576) = true) ∧
    (msgGood (tieBytes 1 0x10) 1 = true ∧ (tieLane 3 2).tieReason 576 (tieBytes 1 0x10) = 0 ∧
      577 ∈ lanesOf 576 ((tieLane 3 2).laneSet 576) ∧ ((tieLane 3 2).lane 577).tieRun < 3) ∧
    (let s := (tieLane 1 2).setFlag (Page.lane 576) TB.PAGE_STATE_ENABLE true
     let s := s.setFlag (Page.lsq 72) LSQ.SEQ_STATUS_IMAGE_VALID true
     s.tieReason 576 (tieBytes 1 0) = 0 ∧ Nat.bitAt (byteAt (tieBytes 1 0) 2) 0 = true ∧ beAt (tieBytes 1 0) 19 4 = (s.lane 576).session ∧
       576 ∈ lanesOf 576 (s.laneSet 576) ∧ 2 ≤ (s.lane 576).tieRun ∧ s.queues = [] ∧
       ∀ m, m ∈ lanesOf 576 (s.laneSet 576) → s.lstate m = lsTieIn ∧ s.laneAllowed m = true ∧ (m ≠ 576 → 3 ≤ (s.lane m).tieRun) ∧
         ∀ i, i < 48 → s.severity (Page.lane m) i ≠ 3) := by decide +kernel

theorem witness_PortControl_links :
    (base.accepts pf (Page.pen 191) PEN.PE_CFG 0 false = true ∧ base.powered (Page.pen 191) = true ∧ base.queues = [] ∧
      Word.bits (2 : Word) 0 2 ≠ 3 ∧ (∀ i, i < 4 → base.flag (Page.pen 191) PEN.LP_CTL_ENABLE i = false) ∧
      (portOf4 764 15).flag (Page.pen 191) PEN.LP_CTL_ENABLE 0 = true) ∧
    (base.accepts pf (lpPage 576) PEN.LP_CTL (576 % 4) false = true ∧
      Word.bit (BitVec.ofNat 48 ((mergeHalf .w64 (base.reg (lpPage 576) PEN.LP_CTL (576 % 4)) 1).toNat % 2 ^ 33)) 0 = true ∧
      base.lpFld 576 PEN.LP_CTL_ENABLE = 0 ∧ base.created 576 = true ∧ (base.port 576).width = 0 ∧
      Word.bit (BitVec.ofNat 48 ((mergeHalf .w64 (base.reg (lpPage 576) PEN.LP_CTL (576 % 4)) 0).toNat % 2 ^ 33)) 0 = false ∧
      (portOf4 576 15).lpFld 576 PEN.LP_CTL_ENABLE = 1 ∧ (portOf4 576 15).accepts pf (lpPage 576) PEN.LP_CTL (576 % 4) false = true) ∧
    (let s := laneIn 576 lsActive (linkIn lpDown 1 false)
     s.lpEnabled 576 = true ∧ s.linkState 576 = lpDown ∧ s.setUp 576 = true ∧ s.laneSet 576 ≠ s.configured 576 ∧ s.queues = []) ∧
    ((linkIn lpUp 15 false).lpEnabled 576 = true ∧ (linkIn lpUp 15 false).linkUp 576 = true ∧ (linkIn lpDown 15 false).linkUp 576 = false) := by
  decide +kernel

/-- A frame of `n` bytes with its FCS, of Ethernet type `t`. -/
def frameOf (n t : Nat) (body : List Byte := []) : List Byte :=
  let l := fit (n - 4) (zeros 12 ++ beBytes 2 t ++ body)
  l ++ leBytes 4 (crcFcs l)
/-- Port 576 UP with its port engine in service. -/
def mac (fc : Nat := 0) : State := (inState (Page.pen 144) 4 (linkIn lpUp 15 false)).setLpFld 576 PEN.LP_CTL_FC_MODE fc

theorem witness_PortFrames_rx :
    ((mac).inService (lpPage 576) = true ∧ (mac).linkUp 576 = true ∧ (mac).fabricPort 576 = false) ∧
    ((frameOf 63 0).length = 63 ∧ rxError 63 64 true = some PEN.C_RX_UNDERSIZE ∧ rxError 65 64 false = some PEN.C_RX_JABBER ∧
      rxError 64 64 false = some PEN.C_RX_FCS_ERRORS ∧ rxError 64 64 true = none) ∧
    (64 ≤ (frameOf 64 0).length ∧ (frameOf 64 0).length ≤ (mac).maxFrame 576 ∧
      leAt (frameOf 64 0) (64 - 4) 4 = crcFcs ((frameOf 64 0).take (64 - 4)) ∧ beAt (frameOf 64 0) 12 2 ≠ 0x8808 ∧
      (mac).ingressFill 576 + (64 - 4) ≤ 32768 ∧
      32768 < ({ mac with pkts := [(0, { stage := .parse, lp := 576, bytes := zeros 32768 })] } : State).ingressFill 576 + (64 - 4)) ∧
    (beAt (frameOf 64 0x8808 [0, 1, 0xFF, 0xFF]) 12 2 = 0x8808 ∧ (mac 1).fcMode 576 = 1 ∧ beAt (frameOf 64 0x8808 [0, 1, 0xFF, 0xFF]) 14 2 = 1 ∧
      ((mac 1).port 576).storm = 0 ∧ ((mac 1).port 576).quanta.length = 8 ∧ (mac 0).fcMode 576 = 0 ∧ (mac 3).fcMode 576 = 3 ∧
      beAt (frameOf 64 0x8808) 14 2 ∉ [1, 0x101]) := by decide +kernel

/-- A packet at its port's MAC. -/
def leaving : State := { mac with pkts := [(5, { stage := .transmit, outLp := 576, bytes := zeros 61 })] }

theorem witness_PortFrames_tx :
    ((leaving.pkt 5).stage = .transmit ∧ leaving.nextOut (leaving.pkt 5) = true ∧ leaving.inService (lpPage 576) = true ∧
      leaving.linkUp 576 = true ∧ leaving.fabricPort 576 = false ∧ (leaving.pkt 5).tagBad = false ∧ (leaving.pkt 5).bits 187 46 2 = 0 ∧
      (leaving.pkt 5).inband = [] ∧ (leaving.pkt 5).chain = 0 ∧ (leaving.pkt 5).parcel < 1024 ∧ leaving.powered (lpPage 576) = true ∧
      ∀ e, e ∈ leaving.ents → e.1 / 2 ^ 32 ≠ spSurvey * 2 ^ 16) ∧
    (((mac).setFld (lpPage 576) PEN.PFC_TX_CFG_WD_MS 10).fld (lpPage 576) PEN.PFC_TX_CFG_WD_MS ≠ 0 ∧ Nat.bitAt (((mac).setLpFld 576 PEN.LP_STATUS_PAUSED 128).lpFld 576 PEN.LP_STATUS_PAUSED) 7 = true ∧
      Nat.bitAt (((mac).setPort 576 { storm := 128 }).port 576).storm 7 = true) ∧
    (let s := (mac 1).setLpFld 576 PEN.LP_STATUS_XOFF_SENT 255
     Nat.land (s.lpFld 576 PEN.LP_STATUS_XOFF_SENT) (s.xoffAllowed 576) ≠ 0 ∧ s.fcMode 576 = 1) ∧
    (let s := ((mac 2).setLpFld 576 PEN.LP_STATUS_XOFF_SENT 128).setLpFld 576 PEN.LP_CTL_PFC_TX_EN 255
     Nat.land (s.lpFld 576 PEN.LP_STATUS_XOFF_SENT) (s.xoffAllowed 576) ≠ 0 ∧ s.fcMode 576 = 2) ∧
    (base.readFate pf (slotAddr (Page.pen 191) PEN.TS_META 0) true = .ok ∧ base.tsEntries 191 = [] ∧
      ({ base with tsFifo := [(191, [⟨3, 7, 1, 2 ^ 50⟩])] } : State).tsEntries 191 = [⟨3, 7, 1, 2 ^ 50⟩]) := by decide +kernel

/-- The key lock held by HA's physical function. -/
def locked : State := base.setFld Page.msg MSG.KEY_LOCK_HOLDER 1
/-- Another host port's physical function. -/
def pfB : Req := ⟨128, .w64⟩
/-- Host port HB up as well. -/
def twoHosts (s : State := base) : State :=
  (s.setFlag (Page.hif 1) HIF.LINK_STATUS_LINK_UP true).setFn 128 { mse := true, bme := true }

theorem witness_KeyLockRelease :
    (Word.bit (2 : Word) 0 = false ∧ Word.bit (2 : Word) 1 = true ∧ Word.bit (2 : Word) 2 = false) ∧
    (locked.accepts pf Page.msg MSG.KEY_LOCK 0 true = true ∧ locked.holds 0 = true) ∧
    ((twoHosts locked).accepts pfB Page.msg MSG.KEY_LOCK 0 true = true ∧ (twoHosts locked).holds 128 = false) ∧
    (locked.accepts pfB Page.msg MSG.KEY_LOCK 0 true = false) := by decide +kernel

theorem witness_KeysAndChannels_lock :
    (base.accepts pf Page.msg MSG.KEY_LOCK 0 true = true ∧ base.powered Page.msg = true ∧ base.holder = 0 ∧
      Word.bit (1 : Word) 0 = true ∧ Word.bit (1 : Word) 1 = false ∧ Word.bit (1 : Word) 2 = false) ∧
    ((twoHosts locked).accepts pfB Page.msg MSG.KEY_LOCK 0 true = true ∧ (twoHosts locked).holder ≠ 0 ∧ (twoHosts locked).holds 128 = false ∧
      locked.holds 0 = true ∧ (twoHosts locked).holder = 1 ∧ holderCode 128 ≠ 0 ∧ (twoHosts locked).powered Page.msg = true) ∧
    (Word.bit (4 : Word) 0 = false ∧ Word.bit (4 : Word) 1 = false ∧ Word.bit (4 : Word) 2 = true ∧
      (base.setFld Page.msg MSG.KEY_LOCK_HOLDER 3).holder = 3) ∧
    (∀ reg : Fin 9, locked.accepts pf Page.msg (stagingFld reg).1 (stagingFld reg).2 false = true) := by decide +kernel

/-- The lock held, valid transmit channel 8191 on port 767, its first association installed. -/
def channel (a : Assoc := { inUse := true, nextPn := 1 }) (c : Chan := { valid := true, tx := true, lp := 767 }) : State :=
  (locked.setChan 8191 c).setAssoc 32764 a

theorem witness_KeysAndChannels_commands :
    (locked.accepts pf Page.msg MSG.SC_CMD 0 true = true ∧ locked.flag Page.msg MSG.CMD_STATUS_BUSY = false ∧
      Word.bits (0x1FFF : Word) 46 2 = 0 ∧ Word.bits (0x400000001FFF : Word) 46 2 = 1 ∧ Word.bits (0x800000001FFF : Word) 46 2 = 2 ∧
      Word.bits (0x400000001FFF : Word) 0 14 = 8191 ∧ locked.chanError 8191 (locked.setReg Page.msg MSG.SC_DATA1 0x100).stagedChan = 0 ∧
      locked.chanError 8191 (locked.setReg Page.msg MSG.SC_DATA1 0x106).stagedChan = 7) ∧
    (locked.accepts pf Page.msg MSG.SA_CMD 0 true = true ∧ Word.bits (0x200000007FFC : Word) 45 3 = 1 ∧ Word.bits (0x400000007FFC : Word) 45 3 = 2 ∧
      Word.bits (0x600000007FFC : Word) 45 3 = 3 ∧ Word.bits (0x600000007FFC : Word) 0 16 = 32764 ∧ (channel).holds 0 = true ∧
      ((channel).chan (32764 / 4)).valid = true ∧ ¬ (Word.bit (0x300000007FFC : Word) 44 = true ∧ Word.bit (0x300000007FFC : Word) 43 = true) ∧
      Word.bit (0x300000007FFC : Word) 44 = true ∧ (channel).staging.key < 2 ^ 128 ∧ ((channel).chan (32764 / 4)).tx = true ∧
      ((channel).assoc 32764).inUse = true ∧ (locked.chan 8191).valid = false ∧ (locked.assoc 32764).inUse = false) ∧
    (base.readFate pf (slotAddr Page.msg MSG.PN_EVENT 0) true = .ok ∧ base.pnEvents = [] ∧
      ({ base with pnEvents := [(3, 65535)] } : State).pnEvents = (3, 65535) :: []) ∧
    (({ base with retire := [65535] } : State).retire = 65535 :: [] ∧ base.holder = 0 ∧ locked.holder ≠ 0) := by decide +kernel

/-- A protected frame of 12 + 8 + 64 + 16 bytes without SCI, of association number `an` and packet number `pn`. -/
def secured (an pn : Nat) : List Byte := zeros 12 ++ beBytes 2 0x88E5 ++ [BitVec.ofNat 8 (12 + an), 0] ++ beBytes 4 pn ++ zeros 80
/-- Port 767 in a cluster in service, VALIDATE at `v`, with a default channel and packet 5 of these bytes. -/
def cluster (v : Nat) (l : List Byte) (st : Stage := .secRx) : State :=
  let s := inState (Page.msc 23) 4 (channel { inUse := true, nextPn := 9 } { valid := true, lp := 767 })
  let s := ((s.setFld (Page.msc 23) MSC.LP_SEC_VALIDATE v 31).setFld (Page.msc 23) MSC.LP_SEC_RX_DEFAULT_EN 1 31).setFld (Page.msc 23)
    MSC.LP_SEC_RX_DEFAULT_SC 8191 31
  { s with pkts := [(5, { stage := st, lp := 767, outLp := 767, bytes := l, sc := some 8191 })] }

theorem witness_ProtectedFrames_rx :
    (((cluster 0 (zeros 60)).pkt 5).stage = .secRx ∧ (cluster 0 (zeros 60)).inService (mscPage 767) = true ∧
      (cluster 0 (zeros 60)).secFld 767 MSC.LP_SEC_VALIDATE = 0 ∧ (cluster 2 (zeros 60)).secFld 767 MSC.LP_SEC_VALIDATE = 2) ∧
    (secTag (fit 60 (zeros 12 ++ beBytes 2 0x888E)) = none ∧ beAt (fit 60 (zeros 12 ++ beBytes 2 0x888E)) 12 2 = 0x888E ∧
      secTag (zeros 60) = none ∧ beAt (zeros 60) 12 2 ≠ 0x888E ∧
      ∀ i, i < 4 → (cluster 2 (zeros 60)).flag (mscPage 767) MSC.BYPASS_ET_EN i = false) ∧
    (let g : SecTag := { tci := 3, an := 0, sl := 0, pn := 0, sci := none, len := 8 }
     secTag (secured 0 0) = some g ∧ tagInvalid g (secured 0 0).length = true) ∧
    (let g : SecTag := { tci := 3, an := 0, sl := 0, pn := 9, sci := none, len := 8 }
     secTag (secured 0 9) = some g ∧ tagInvalid g (secured 0 9).length = false ∧ (cluster 2 []).rxChannel 767 g = some 8191 ∧
      ((cluster 2 []).setChan 8191 {}).rxChannel 767 g = none ∧ ((cluster 2 []).assoc (4 * 8191 + g.an)).inUse = true ∧
      lowestPn ((cluster 2 []).chan 8191) ((cluster 2 []).assoc (4 * 8191 + g.an)) ≤ g.pn ∧
      isXpn ((cluster 2 []).chan 8191).suite = false ∧
      ((cluster 2 (secured 0 9)).secGrant 5 ((secured 0 9).length - g.len - 16)).isSome = true) := by decide +kernel

theorem witness_ProtectedFrames_tx :
    (let s := (cluster 2 (zeros 60) .secTx).setChan 8191 { valid := true, tx := true, lp := 767 }
     let c := s.chan 8191
     let a := s.assoc (4 * 8191 + c.activeAn)
     (s.pkt 5).stage = .secTx ∧ (s.pkt 5).outLp < 768 ∧ s.inService (mscPage 767) = true ∧ c.valid = true ∧ c.suspended = false ∧ c.tx = true ∧
       c.lp = 767 ∧ a.inUse = true ∧ a.nextPn < switchAt c ∧ a.nextPn ≤ lastPn c.suite) ∧
    (let s := ((cluster 2 (zeros 60) .secTx).setChan 8191 { valid := true, tx := true, lp := 767, switchPn := 1, nextAn := 3, nextValid := true })
     let s := (s.setAssoc 32764 { inUse := true, nextPn := 65536 }).setAssoc 32767 { inUse := true, nextPn := 2 ^ 32 - 1 }
     let c := s.chan 8191
     switchAt c ≤ (s.assoc (4 * 8191 + c.activeAn)).nextPn ∧ c.nextValid = true ∧ (s.assoc (4 * 8191 + c.nextAn)).inUse = true ∧
       (s.assoc (4 * 8191 + c.nextAn)).nextPn ≤ lastPn c.suite ∧ c.nextAn ≠ c.activeAn) ∧
    (let s := (cluster 2 (zeros 60) .secTx).setChan 8191 {}
     (s.chan 8191).valid = false ∧ (s.pkt 5).chain = 0 ∧ s.powered (mscPage 767) = true) ∧
    (base.pairState 23 0 = 0 ∧ base.powered (Page.msc 23) = true ∧
      (base.setFld (Page.msc 23) MSC.MSC_STATUS_PAIR_STATE (2 * 8 ^ 4)).pairState 23 4 = 2 ∧
      (base.setFld (Page.msc 23) MSC.MSC_STATUS_PAIR_STATE (1 * 8 ^ 4)).pairsIn 23 1 = 4 :: []) ∧
    (base.accepts pf (Page.msc 23) MSC.PAIR_CMD 0 true = true ∧ Word.bit (16 : Word) 4 = true ∧
      (base.setFld (Page.msc 23) MSC.MSC_STATUS_PAIR_STATE (3 * 8 ^ 4)).pairState 23 4 = 3) := by decide +kernel

/-- Traverse `t` runs on bank 0, bank 1 valid too where `b` says so; its regions are in service. -/
def parsing (t : Nat) (b : Bool := true) (s : State := base) : State :=
  let p := Page.prs t
  let s := ((s.setFlag p PRS.BANK_STATUS_ACTIVE_VALID true).setFlag p PRS.BANK_STATUS_VALID_A true).setFlag p PRS.BANK_STATUS_VALID_B b
  (inState (Page.trv t) 4 (inState p 4 s)).setFld (Page.trv t) TRV.TRV_STATUS_ROLE roleInService
/-- An indirect command of the parser: target, operation, bank, BCAST and index. -/
def prsWordOf (tgt op bank bc idx : Nat) : Word := BitVec.ofNat 48 (((tgt * 8 + op) * 2 + bank) * 2 ^ 40 + bc * 2 ^ 39 + idx)
/-- A class entry of kind 1, any port, value 5, in way `way` of its set of bank 1 of traverse 23. -/
def classed (way : Nat) (s : State := base) : State :=
  s.setEnt 3 (bankInst 23 1 3) (4 * classSet 1 false 0 5 + way) [0xA00000028000, 0]

theorem witness_ParserTables_commands :
    (base.accepts pf (Page.prs 24) PRS.IND_CMD 0 true = true ∧ base.flag (Page.prs 24) PRS.IND_STATUS_BUSY = false ∧
      base.activeBank 24 = none ∧ base.powered (Page.prs 24) = true ∧ (parsing 23).activeBank 23 = some 0) ∧
    (prsCmdOf (prsWordOf 9 0 0 0 16383) = ⟨9, 0, 0, false, 16383⟩ ∧ 16383 < prsSize 9 ∧ prsSize 10 = 0) ∧
    (prsCmdOf (prsWordOf 4 1 1 0 33) = ⟨4, 1, 1, false, 33⟩ ∧ 33 < prsSize 4 ∧ prsBad 4 (prsStored 4 33 []) = false) ∧
    (prsCmdOf (prsWordOf 9 1 0 0 16383) = ⟨9, 1, 0, false, 16383⟩ ∧ prsBad 9 (prsStored 9 16383 [0]) = false) ∧
    (prsCmdOf (prsWordOf 4 1 0 0 31) = ⟨4, 1, 0, false, 31⟩) ∧
    (prsCmdOf (prsWordOf 10 1 0 0 0) = ⟨10, 1, 0, false, 0⟩ ∧ prsBad 3 (prsStored 3 0 [0x800000000000]) = true ∧
      (parsing 23).activeBank 23 = some (prsCmdOf (prsWordOf 0 1 0 0 0)).bank) ∧
    (let w : Word := 0xA00000028000
     prsCmdOf (prsWordOf 3 2 1 0 0) = ⟨3, 2, 1, false, 0⟩ ∧ prsBad 3 (prsStored 3 0 [w]) = false ∧ (prsStored 3 0 [w]).getD 0 0 = w ∧
       Word.bits w 45 2 = 1 ∧ Word.bits w 15 24 = 5 ∧
       (let key (i : Nat) : Bool := classIs ((classed 3).prsWord 23 1 spClass i 0) 1 false 0 5
        let b := 4 * classSet 1 false 0 5
        (∀ j, j < 3 → key (b + j) = false) ∧ key (b + 3) = true) ∧
       (let b := 4 * classSet 1 false 0 5
        (∀ j, j < 4 → classIs (base.prsWord 23 1 spClass (b + j) 0) 1 false 0 5 = false) ∧ Word.bit (base.prsWord 23 1 spClass b 0) 47 = false) ∧
       (∀ j, j < 4 → Word.bit ((classed 0 (classed 1 (classed 2 (classed 3)))).prsWord 23 1 spClass (4 * classSet 1 false 0 5 + j) 0) 47 = true) ∧
       (classed 3).classFind 23 1 1 false 0 5 = some (4 * classSet 1 false 0 5 + 3) ∧ base.classFind 23 1 1 false 0 5 = none) ∧
    (prsCmdOf (prsWordOf 3 3 1 0 0) = ⟨3, 3, 1, false, 0⟩ ∧ prsCmdOf (prsWordOf 0 4 1 0 7) = ⟨0, 4, 1, false, 7⟩ ∧
      prsCmdOf (prsWordOf 0 4 0 1 65535) = ⟨0, 4, 0, true, 65535⟩ ∧ prsCmdOf (prsWordOf 0 5 1 0 0) = ⟨0, 5, 1, false, 0⟩ ∧
      base.reached 24 = true ∧ (base.setFlag Page.dev DEV.DEV_STATUS_SOFT_BUSY true).reached 24 = false) := by decide +kernel

theorem witness_ParserTables_flips :
    ((parsing 24).accepts pf (Page.prs 24) PRS.FLIP_CTL 0 false = true ∧ (parsing 24).bankValid 24 ((parsing 24).flipTo 24) = true ∧
      base.bankValid 24 (base.flipTo 24) = false ∧ Word.bit (1 : Word) 0 = true ∧ Word.bit (2 : Word) 1 = true ∧ Word.bit (4 : Word) 2 = true) ∧
    ((base.setFld (Page.prs 0) PRS.FLIP_NS_NS 999999999).fld (Page.prs 0) PRS.FLIP_NS_NS ≤ 999999999 ∧ base.wOn = false ∧
      999999999 < (base.setFld (Page.prs 0) PRS.FLIP_NS_NS 1000000000).fld (Page.prs 0) PRS.FLIP_NS_NS) ∧
    (let s := (inState Page.dtm 4 (parsing 0)).setFlag Page.dtm DTM.DTM_STATUS_W_SET true
     s.wOn = true ∧ s.flipAt 0 < s.wNs + 1000 ∧ s.bankValid 0 (s.flipTo 0) = true ∧
       (let u := s.setFlag (Page.prs 0) PRS.BANK_STATUS_ARMED true
        u.flag (Page.prs 0) PRS.BANK_STATUS_ARMED = true ∧ u.flipAt 0 ≤ u.wNs ∧ u.reached 0 = true)) := by decide +kernel

/-- The parsing traverse 23 with its LP_CLASS entry 31 and TCAM such that packet 5 of port 767 meets them. -/
def arrived (drop : Bool) (ring : Option Nat := none) : State :=
  let s := (parsing 23).setEnt spTcam 46 1023 [0, 0x800000000000, 0, 0]
  let s := s.setEnt spAction 46 1023 [if drop then 0x4000000000 else 0x8000000000, 0, 0, 0, 0, 0]
  { s with pkts := [(5, { stage := .parse, lp := 767, grp := 23, ring := ring, bytes := zeros 60 })], nextPkt := 9 }

theorem witness_PacketsParsed :
    (((arrived true).pkt 5).stage = .parse ∧ (arrived true).headOfLine 5 ((arrived true).pkt 5) = true ∧
      (arrived true).servedBy 23 = some 23 ∧ ((arrived true).pkt 5).chain = 0 ∧ (arrived true).activeBank 23 = some 0 ∧
      ((arrived true).setFlag (Page.prs 23) PRS.BANK_STATUS_ACTIVE_VALID false).activeBank 23 = none) ∧
    (((arrived true).parse 23 0 0 (zeros 60)).drop = true ∧ ((arrived false).parse 23 0 0 (zeros 60)).drop = false) ∧
    ((base).classify 23 0 767 0x20000000 (some (1, 5)) = none ∧ (base).classify 23 0 767 0 none = some (0, none, false) ∧
      base.parcelValid 0 = true ∧ base.parcelValid 4095 = false ∧ (base).classify 23 0 767 (0xFFF000000000) none = some (4095, none, false)) ∧
    (((arrived false (some 3)).pkt 5).ring.isSome = true ∧ (arrived false (some 3)).headOfLine 5 ((arrived false (some 3)).pkt 5) = true) ∧
    (Tab.sorted (arrived true).ents = true ∧ (arrived true).tcamHit 23 0 0 = some 1023) ∧
    (({} : Parse).ended = false ∧ ({} : Parse).hdrs.length < 32 ∧ 32 ≤ ({ hdrs := List.replicate 32 (0, 0) } : Parse).hdrs.length ∧
      Word.bits (0 : Word) 32 6 ≠ 63 ∧ Word.bit (0x4000000000 : Word) 38 = true ∧ Word.bit (0 : Word) 39 = false) ∧
    ((classed 3).classFind 23 1 1 true 31 5 = none ∧ (classed 3).classFind 23 1 1 false 31 5 = some (4 * classSet 1 false 0 5 + 3) ∧
      (base.setEnt 3 (bankInst 23 1 3) (4 * classSet 1 true 31 5) [0xBF8000028000, 0]).classFind 23 1 1 true 31 5 =
        some (4 * classSet 1 true 31 5)) := by decide +kernel

/-- Packet 5 of traverse 23 stands at stage `st` with these PHV words; the traverse issues. -/
def atStage (st : Stage) (phv : Tab Word := []) (s : State := parsing 23) : State :=
  { s with pkts := [(5, { stage := st, trav := 23, lp := 767, grp := 23, outLp := 767, phv := phv, bytes := zeros 60 })], nextPkt := 9 }

theorem witness_StationPasses :
    (∀ k, k < 20 → ((atStage (.station k)).pkt 5).stage = .station k ∧ (atStage (.station k)).fld (Page.stn 23 k) STN.STN_CFG_LT_EN = 0) ∧
    ((atStage (.station 19)).isFirst ((atStage (.station 19)).pkt 5) = true ∧ (atStage (.station 19)).travIssues 23 = true ∧
      ((atStage (.station 19)).pkt 5).bit 186 47 = false ∧ ((atStage (.station 19) [(186, 0x800000000000)]).pkt 5).bit 186 47 = true ∧
      ((atStage (.station 19)).pkt 5).chain = 0 ∧ ((atStage (.station 19)).pkt 5).stake = none ∧
      (atStage (.station 19)).powered (Page.stn 23 19) = true) ∧
    (let w : Word := 0x445081C0A405
     instrGood w = true ∧ insOp w = 0x11 ∧ insA w ≠ 3 * 512 + 9 ∧ insB w ≠ 3 * 512 + 9 ∧
       instrGood (BitVec.ofNat 48 (2 ^ 42)) = true ∧ insOp (BitVec.ofNat 48 (2 ^ 42)) = 1) ∧
    (let s := base.setReg (Page.stn 24 19) STN.SE_CFG (BitVec.ofNat 48 (2 ^ 46 + 2 ^ 30)) 7
     Word.bits (s.seCfg 24 19 7) 46 2 ≠ 0 ∧ seCapacity (s.seCfg 24 19 7) ≤ 2048 ∧ s.powered (Page.stn 24 19) = true) ∧
    ((meterMark {} 1 0).2 = 2 ∧ (meterMark {} 0 0).2 = 0 ∧ (meterMark {} 0 1).2 = 1 ∧
      ({ cbs := 1, tc := meterUnit } : SeEntry).tc ≤ 1 * meterUnit) := by decide +kernel

/-- ECMP group 1023 of one member: LAG 255, whose member 63 is logical port 767, UP where `up` says so. -/
def spreading (up : Bool) (phv : Tab Word) : State :=
  let s := atStage .resolve phv ((parsing 23).setLpFld 767 PEN.LP_STATUS_LSTATE (if up then lpUp else lpDown))
  let s := (s.setEnt 6 46 1023 [0x8FFFE0100000]).setEnt 7 46 16383 [0xCFF000000000]
  (s.setEnt 8 46 255 [0xC00000000000]).setEnt 9 46 (64 * 255 + 63) [0xAFF000000000]

theorem witness_ResolutionAndDeparse :
    (let s := atStage .resolve [(183, 0xA03FF0000)]
     (s.pkt 5).stage = .resolve ∧ s.isFirst (s.pkt 5) = true ∧ s.travIssues 23 = true ∧ (s.pkt 5).chain = 0 ∧ s.powered (Page.res 23) = true ∧
       (s.pkt 5).disposition = some 125) ∧
    (let x := (atStage .resolve [(183, 0xA003FF0000)]).pkt 5
     x.disposition = none ∧ x.bits 183 36 3 = 2 ∧ x.bits 183 16 20 = 1023 ∧ x.bit 184 47 = false ∧ x.sessions = [] ∧ x.shim = none) ∧
    (((atStage .resolve [(183, 0x8002FF0000), (185, 0x1000000000FF)]).pkt 5).sessions = [0] ∧
      ((atStage .resolve [(183, 0x8002FF0000), (185, 0x800000000FFF)]).pkt 5).disposition = none ∧ 5 < (atStage .resolve).nextPkt) ∧
    (let s := spreading true [(183, 0xB003FF0000)]
     let x := s.pkt 5
     x.disposition = none ∧ x.bits 183 36 3 = 3 ∧ s.spreadEcmp 23 (x.bits 183 16 20) x.flowHash = .lp 767) ∧
    (let s := spreading false [(183, 0xB003FF0000)]
     let x := s.pkt 5
     s.spreadEcmp 23 (x.bits 183 16 20) x.flowHash = .ecmpEmpty ∧ s.spreadLag 23 255 0 = .lagEmpty) ∧
    (let s := spreading true [(183, 0xC000FF0000)]
     let x := s.pkt 5
     x.disposition = none ∧ x.bits 183 36 3 = 4 ∧ s.spreadLag 23 (x.bits 183 16 20) x.flowHash = .lp 767 ∧ s.lpIsUp 767 = true) ∧
    (let s := atStage .deparse [(179, 0)]
     let x := s.pkt 5
     s.isFirst x = true ∧ x.tagBad = false ∧ (s.rebuilt 23 x).1.length + 4 ≤ 16383 ∧ x.bit 186 39 = false ∧ x.hdrCount = 0 ∧ x.pushes = [] ∧
       x.bit 188 47 = false ∧ s.powered (Page.dpr 23) = true) ∧
    (let l : List Byte := 0x45 :: zeros 19
     5 ≤ byteAt l 0 % 16 ∧ byteAt l 0 % 16 * 4 ≤ l.length) := by decide +kernel

/-- A packet whose rebuilt frame is too long. -/
theorem witness_ResolutionAndDeparse_long :
    16383 < (({ atStage .deparse with pkts := [(5, { stage := .deparse, trav := 23, bytes := zeros 16380 })] } : State).rebuilt 23
      { stage := .deparse, trav := 23, bytes := zeros 16380 }).1.length + 4 := by decide +kernel

/-- T24 free, traverse 23 in service. -/
def spareFree (halt : Bool := false) : State :=
  let s := (parsing 24 true (parsing 23)).setFld (Page.trv 24) TRV.TRV_STATUS_ROLE roleFree
  if halt then inState (Page.stn 23 19) 5 (s.setFlag (Page.trv 23) TRV.TRV_CTL_AUTO_SPARE true) else s
/-- T24 stands in for group 23. -/
def standing : State :=
  inState (Page.trv 23) 2 (((spareFree.setFld (Page.trv 24) TRV.TRV_STATUS_ROLE roleStandingIn).setFld (Page.trv 24) TRV.TRV_STATUS_SERVES 23).setFld
    (Page.trv 23) TRV.TRV_STATUS_ROLE roleFenced)

theorem witness_SpareTraverse :
    ((spareFree.setFlag (Page.trv 24) TRV.TRV_CTL_PROBE_EN true).flag (Page.trv 24) TRV.TRV_CTL_PROBE_EN = true ∧
      spareFree.travIssues 24 = true ∧ spareFree.role 24 ≠ roleFenced) ∧
    ((spareFree true).role 23 = roleInService ∧ (spareFree true).regionHalted 23 = true ∧ (spareFree true).t24Free = true ∧
      (spareFree true).flag (Page.trv 23) TRV.TRV_CTL_AUTO_SPARE = true ∧ (spareFree true).powered (Page.trv 23) = true ∧
      ((spareFree true).setFld (Page.trv 24) TRV.TRV_STATUS_ROLE roleClearing).t24Free = false) ∧
    (spareFree.accepts pf (Page.trv 24) TRV.SPARE_CMD 0 true = true ∧ Word.bits (0x57 : Word) 0 5 = 23 ∧ Word.bit (0x57 : Word) 6 = true ∧
      Word.bit (0x57 : Word) 7 = false ∧ spareFree.t24Free = true ∧ 24 ≤ Word.bits (0x58 : Word) 0 5) ∧
    (standing.accepts pf (Page.trv 24) TRV.SPARE_CMD 0 true = true ∧ Word.bits (0x97 : Word) 0 5 = 23 ∧ Word.bit (0x97 : Word) 7 = true ∧
      Word.bit (0x97 : Word) 6 = false ∧ standing.role 24 = roleStandingIn ∧ standing.serves = 23 ∧ standing.role 23 = roleFenced ∧
      standing.fld (Page.trv 23) TB.PAGE_STATE_STATE = 2 ∧ standing.regionHalted 23 = false ∧
      standing.flag (Page.prs 23) PRS.BANK_STATUS_ACTIVE_VALID = true ∧ spareFree.role 24 ≠ roleStandingIn) ∧
    ((spareFree.setFld (Page.trv 24) TRV.TRV_STATUS_ROLE roleClearing).role 24 = roleClearing ∧ spareFree.role 24 = roleFree ∧
      spareFree.powered (Page.trv 24) = true ∧ spareFree.powered (Page.stn 24 19) = true) := by decide +kernel

theorem witness_BridgeMaskBound :
    (base.accepts pf (Page.trv 24) TRV.BRIDGE_MASK 3 false = true ∧ base.accepts pf (Page.trv 24) TRV.BRIDGE_MASK 0 false = true) ∧
    (∀ k, k < 48 → Word.bit (0xFFFFFF0000FF : Word) k = ((3 == 3 && decide (24 ≤ k)) ||
      Word.bit (mergeHalf .w64 (base.reg (Page.trv 24) TRV.BRIDGE_MASK 3) 0xFF) k)) ∧
    (let after (new : Word) (j : Nat) : Word := if j = 0 then new else base.reg (Page.trv 24) TRV.BRIDGE_MASK j
     let bits (new : Word) : Nat := ((List.range 168).filter (fun w => Word.bit (after new (w / 48)) (w % 48))).length
     bits 0xFFFFFFFFFF = 40 ∧ 40 < bits 0x1FFFFFFFFFF) := by decide +kernel

/-- A station's indirect command: target, operation, element and index. -/
def stnWordOf (tgt op el idx : Nat) : Word := BitVec.ofNat 48 (tgt * 2 ^ 45 + op * 2 ^ 43 + el * 2 ^ 39 + idx)

theorem witness_StationTables :
    (∀ i : Fin 8, base.accepts pf (Page.stn 24 19) STN.LT_CFG i false = true ∧ base.accepts pf (Page.stn 24 19) STN.SE_CFG i false = true) ∧
    (let c : Word := keep 0xFFFFFFFFFFF8 (BitVec.ofNat 48 (15 * 2 ^ 34 + 2 ^ 29))
     Word.bits c 34 4 + Word.bits c 29 5 ≤ 16 ∧ 16 < Word.bits (BitVec.ofNat 48 (15 * 2 ^ 34 + 2 * 2 ^ 29)) 34 4 + Word.bits (BitVec.ofNat 48 (15 * 2 ^ 34 + 2 * 2 ^ 29)) 29 5 ∧
       base.fld (Page.stn 24 19) STN.STN_CFG_LT_EN = 0) ∧
    (base.accepts pf (Page.stn 24 19) STN.STN_CFG 0 false = true ∧ base.enClash 24 19 128 = false ∧
      ((base.setReg (Page.stn 24 19) STN.LT_CFG (BitVec.ofNat 48 (2 ^ 29)) 6).setReg (Page.stn 24 19) STN.LT_CFG (BitVec.ofNat 48 (2 ^ 29)) 7).enClash
        24 19 192 = true) ∧
    (let c : Word := keep 0xFFFFFFFFC000 (BitVec.ofNat 48 (2 ^ 46 + 159 * 2 ^ 38 + 2 ^ 30))
     Word.bits c 46 2 ≠ 0 ∧ 0 < Word.bits c 30 8 ∧ Word.bits c 38 8 + Word.bits c 30 8 ≤ 160 ∧
       base.tableMeets 24 1024 (Word.bits c 38 8) (Word.bits c 30 8) 0 0 = false ∧
       base.elementMeets 24 (8 * 19 + 7) (Word.bits c 38 8) (Word.bits c 30 8) = false ∧ base.powered (Page.stn 24 19) = true) ∧
    (base.accepts pf (Page.stn 24 19) STN.IND_CMD 0 true = true ∧ base.flag (Page.stn 24 19) STN.IND_STATUS_BUSY = false ∧
      (stnCmdOf (stnWordOf 0 1 0 4095)).idx = 4095 ∧ Word.bit (stnWordOf 0 1 0 4095) 42 = false ∧ instrGood 0 = true ∧ instrGood 1 = false ∧
      (stnCmdOf (stnWordOf 1 1 0 511)).tgt = 1 ∧ Word.bits (0xFFF : Word) 0 12 + Word.bits (0xFFF : Word) 12 4 + 1 ≤ 4096 ∧
      (stnCmdOf (stnWordOf 2 1 7 2047)).el = 7 ∧
      (let s := base.setReg (Page.stn 24 19) STN.SE_CFG (BitVec.ofNat 48 (2 ^ 46 + 2 ^ 30)) 7
       Word.bits (s.seCfg 24 19 7) 46 2 = 1 ∧ 2047 < seCapacity (s.seCfg 24 19 7)) ∧
      (stnCmdOf (stnWordOf 2 2 7 4095)).op = 2 ∧
      (let s := base.setReg (Page.stn 24 19) STN.SE_CFG (BitVec.ofNat 48 (2 * 2 ^ 46 + 2 ^ 30)) 7
       Word.bits (s.seCfg 24 19 7) 46 2 = 2 ∧ 4095 < seCapacity (s.seCfg 24 19 7))) ∧
    (base.accepts pf (Page.dpr 24) DPR.IND_CMD 0 true = true ∧ base.flag (Page.dpr 24) DPR.IND_STATUS_BUSY = false ∧
      Word.bit (0x2000000000FF : Word) 45 = true ∧ Word.bits (0x2000000000FF : Word) 46 2 = 0 ∧ Word.bit (0x2000000000FF : Word) 44 = false ∧
      255 < dprSize 0 ∧ (dprEntry 0 [0, 0]).isSome = true ∧
      6 < Word.bits (BitVec.ofNat 48 (7 * 2 ^ 29)) 29 3 + Word.bits (BitVec.ofNat 48 (7 * 2 ^ 29)) 18 3) := by decide +kernel

/-- Table 1023 of traverse 24 as a descriptor's first two words say, with these words in TBC_DATA. -/
def tabled (w0 w1 : Nat) (l : List Word := []) (s : State := base) : State :=
  l.zipIdx.foldl (fun (s : State) (e : Word × Nat) => s.setReg (Page.tbc 24) TBC.TBC_DATA e.1 e.2)
    (s.setEnt spDesc 24 1023 [BitVec.ofNat 48 (2 ^ 47 + w0), BitVec.ofNat 48 w1, 0, 0, BitVec.ofNat 48 (10 * 2 ^ 25)])
/-- An EXACT table of 48-bit keys and actions in four blocks. -/
def exactW0 : Nat := 2 ^ 44 + 48 * 2 ^ 35 + 48 * 2 ^ 26
/-- A command of the table page: operation, table and index. -/
def tbcWordOf (op i : Nat) : Word := BitVec.ofNat 48 (op * 2 ^ 40 + 1023 * 2 ^ 30 + i)
/-- A staged entry of key 5. -/
def staged : List Word := [0x800000000000, 0, 5, 7]
def exact (s : State := base) : State := tabled exactW0 (4 * 2 ^ 32) staged s
/-- The EXACT table holds key 5 in its fourth way. -/
def holding (e : TEntry := { valid := true, key := 5, act := 1 }) : State :=
  (exact).setTent 24 1023 ((positions ((exact).desc 24 1023) 0 5).getD 3 0) e

theorem witness_TableCommands_desc :
    ((exact).accepts pf (Page.tbc 24) TBC.TBC_CMD 0 true = true ∧ (exact).flag (Page.tbc 24) TBC.TBC_STATUS_BUSY = false ∧
      Word.bit (tbcWordOf 0x11 0) 29 = false ∧ Word.bits (tbcWordOf 0x11 0) 40 8 = 0x11 ∧ Word.bits (tbcWordOf 0x11 0) 30 10 = 1023) ∧
    (let d := descOf [BitVec.ofNat 48 (2 ^ 47 + exactW0), BitVec.ofNat 48 (156 * 2 ^ 40 + 4 * 2 ^ 32), 0, 0, 0]
     descBad d = false ∧ base.descConflict 24 1023 d = false ∧ (exact).descConflict 24 1022
       (descOf [BitVec.ofNat 48 (2 ^ 47 + exactW0), BitVec.ofNat 48 (3 * 2 ^ 40 + 4 * 2 ^ 32), 0, 0, 0]) = true) ∧
    (exact).powered (Page.tbc 24) = true := by decide +kernel

theorem witness_TableCommands_entries :
    (let d := (exact).desc 24 1023
     1 ≤ d.type ∧ d.type ≤ 4 ∧ sizesGood d = true ∧ d.type = 1 ∧ 0 < wayEntries d ∧ (unstage d ((exact).tbcData 24)).2 = true ∧
       (unstage d ((exact).tbcData 24)).1.valid = true ∧ tableSize d - 1 < tableSize d ∧ (exact).overLimit 24 d.qclass 0 = false ∧
       (stage d {}).length ≠ 0) ∧
    (let s := { exact with entryCount := [(countKey 24 0 0, 1)], profiles := [(0, 1)] }
     s.overLimit 24 0 0 = true) ∧
    (let d := (tabled (3 * 2 ^ 44 + 48 * 2 ^ 35) (4 * 2 ^ 32 + 2 ^ 22)).desc 24 1023
     d.type = 3 ∧ sizesGood d = true) ∧
    (let s := tabled (4 * 2 ^ 44 + 21 * 2 ^ 35 + 48 * 2 ^ 26) (4 * 2 ^ 32) staged
     let d := s.desc 24 1023
     let e := (unstage d (s.tbcData 24)).1
     d.type = 4 ∧ sizesGood d = true ∧ (unstage d (s.tbcData 24)).2 = true ∧ e.valid = true ∧ e.key < tableSize d ∧ s.overLimit 24 d.qclass e.parcel = false) ∧
    ((holding).find ((holding).desc 24 1023) 24 1023 0 5 = some ((positions ((exact).desc 24 1023) 0 5).getD 3 0, { valid := true, key := 5, act := 1 }) ∧
      (exact).find ((exact).desc 24 1023) 24 1023 0 5 = none ∧ Tab.sorted (holding).tables = true) ∧
    ({ base with tbcWait := [(24, 7, true)] } : State).tbcWait = [(24, 7, true)] := by decide +kernel

/-- Every entry of a table that holds one entry is that entry. -/
theorem holding_only (e : TEntry) (i : Nat) (h : ((holding e).tent 24 1023 i).valid = true) :
    i = (positions ((exact).desc 24 1023) 0 5).getD 3 0 ∧ (holding e).tent 24 1023 i = e := by
  have ht : (exact).tables = [] := by decide +kernel
  unfold holding State.tent State.setTent Tab.set at h ⊢
  rw [ht] at h ⊢
  split at h
  · simp [Tab.erase, Tab.get, dflt.entry] at h
  · rename_i hv
    simp only [Tab.erase, List.filter_nil, Tab.ins, Tab.get] at h ⊢
    split at h
    · rename_i hk
      refine ⟨?_, by simp [hv, Tab.get, hk]⟩
      simp only [tableKey] at hk
      omega
    · simp [dflt.entry] at h

theorem witness_ExactInsert :
    ((holding).Placed 24 1023) ∧
    (let s := holding
     let d := s.desc 24 1023
     s.accepts pf (Page.tbc 24) TBC.TBC_CMD 0 true = true ∧ Word.bits (tbcWordOf 3 0) 40 8 = 3 ∧ s.flag (Page.tbc 24) TBC.TBC_STATUS_BUSY = false ∧
       (unstage d (s.tbcData 24)).2 = true ∧ (unstage d (s.tbcData 24)).1.valid = true ∧ d.type = 1 ∧ 0 < wayEntries d) := by
  refine ⟨⟨fun i h => ?_, fun i j hi hj _ _ => (holding_only _ i hi).1.trans (holding_only _ j hj).1.symm⟩, by decide +kernel⟩
  obtain ⟨hi, he⟩ := holding_only _ i h
  rw [he, hi]
  decide +kernel

/-- HBM in service, its first units given to tables, and an HBM-resident table 1023. -/
def hbmTable : State :=
  let s := (List.range 4).foldl (fun (s : State) (h : Nat) => s.setFlag Page.ovm OVM.STACK_STATUS_TRAINED true h) (inState Page.ovm 4)
  { tabled (5 * 2 ^ 44 + 48 * 2 ^ 35 + 48 * 2 ^ 26) 0 staged s with tblUnits := 1 }

/-- Its candidate bodies for key 5. -/
def hbmKeys : List Nat := candidates ((hbmTable).desc 24 1023) 0 5

theorem witness_HbmTables :
    (let s := { hbmTable with fills := [(24, [77])] }
     77 ∈ s.fills.get 24 [] ∧ s.hbmUp = true ∧ s.cached 24 77 = none ∧ s.writeBacks = []) ∧
    ({ hbmTable with writeBacks := [(24, { valid := true, addr := 77, bodies := [1, 2, 3, 4], hits := 8 })] } : State).writeBacks =
      (24, { valid := true, addr := 77, bodies := [1, 2, 3, 4], hits := 8 }) :: [] ∧
    (let s := hbmTable
     let d := s.desc 24 1023
     let e := (unstage d (s.tbcData 24)).1
     s.accepts pf (Page.tbc 24) TBC.TBC_CMD 0 true = true ∧ s.flag (Page.tbc 24) TBC.TBC_STATUS_BUSY = false ∧ (unstage d (s.tbcData 24)).2 = true ∧
       d.type = 5 ∧ sizesGood d = true ∧ s.hbmUp = true ∧ s.writeBacks = [] ∧ (∀ k, k ∈ hbmKeys → s.inBodyArea (k / 4) = true) ∧
       e.valid = true ∧ e.se = none ∧ e.parcel = 0 ∧ e.key = 5 ∧ s.bodyOf d 0 5 = none ∧ s.overLimit 24 d.qclass 0 = false ∧
       hbmKeys.find? (fun j => !Nat.bitAt (s.body j) 127) = some (hbmKeys.getD 0 0)) ∧
    (let s := hbmTable.setBody (hbmKeys.getD 15 0) (entryBody ((hbmTable).desc 24 1023) { valid := true, key := 5 })
     s.bodyOf (s.desc 24 1023) 0 5 = some (hbmKeys.getD 15 0) ∧ s.inBodyArea (hbmKeys.getD 15 0 / 4) = true) := by decide +kernel

/-- The EXACT table learns, with one request of key 5 waiting. -/
def learning (move : Bool) (s : State) : State :=
  tabled (exactW0 + 2 ^ 20 + 2 ^ 18 + 2 ^ 16 + 1) (4 * 2 ^ 32) [] { s with learnQ := [(24, [⟨1023, 0, 5, 9, move⟩])] }

theorem witness_LearningAndAgeing :
    (let s := learning false base
     let d := s.desc 24 1023
     s.learnQ.get 24 [] = ⟨1023, 0, 5, 9, false⟩ :: [] ∧ d.valid = true ∧ d.type = 1 ∧ d.learn = true ∧ d.age = true ∧ d.ageLimit = 0 + 1 ∧
       s.find d 24 1023 0 5 = none ∧ s.overLimit 24 d.qclass 0 = false ∧
       s.firstFree 24 1023 (positions d 0 5) = some ((positions d 0 5).getD 0 0)) ∧
    (let o : TEntry := { valid := true, key := 6, learned := true }
     let s := learning false { (exact).setTent 24 1023 ((positions ((exact).desc 24 1023) 0 5).getD 3 0) o with entryCount := [(countKey 24 0 0, 1)], profiles := [(0, 1)] }
     let d := s.desc 24 1023
     s.find d 24 1023 0 5 = none ∧ s.overLimit 24 d.qclass 0 = true ∧ (s.victim d 24 1023 0 5).2 = some ((positions d 0 5).getD 3 0, o) ∧
       s.tent 24 1023 ((positions d 0 5).getD 3 0) = o ∧ 0 < s.entryUse 24 d.qclass 0) ∧
    (let s := learning false { exact with entryCount := [(countKey 24 0 0, 1)], profiles := [(0, 1)] }
     let d := s.desc 24 1023
     s.overLimit 24 d.qclass 0 = true ∧ (s.victim d 24 1023 0 5).2 = none) ∧
    (let s := learning true (holding { valid := true, key := 5, learned := true })
     let d := s.desc 24 1023
     (s.find d 24 1023 0 5).isSome = true ∧
       s.find d 24 1023 0 5 = some ((positions d 0 5).getD 3 0, { valid := true, key := 5, learned := true })) ∧
    (base.readFate pf (slotAddr (Page.lrn 24) LRN.NOTE0 0) true = .ok ∧ base.notes.get 24 [] = [] ∧
      ({ base with notes := [(24, [⟨0, 1023, 0, 3, 5, 9⟩])] } : State).notes.get 24 [] = [⟨0, 1023, 0, 3, 5, 9⟩]) ∧
    (base.accepts pf (Page.lrn 24) LRN.FLOOD_CMD 0 true = true ∧ Word.bit (0x800000000FFF : Word) 47 = true ∧
      Word.bit (0x800000000FFF : Word) 46 = false ∧ Word.bit (0xC00000000FFF : Word) 46 = true ∧ Word.bit (0xFFF : Word) 47 = false) ∧
    (base.powered (Page.tbc 24) = true ∧ base.rowsUsed.get (24 * 160 + 159) 0 < 4 ∧
      4 ≤ ({ base with rowsUsed := [(24 * 160 + 159, 4)] } : State).rowsUsed.get (24 * 160 + 159) 0 ∧
      ((holding { valid := true, key := 5, learned := true }).tent 24 1023 ((positions ((exact).desc 24 1023) 0 5).getD 3 0)).learned = true) := by
  decide +kernel

theorem witness_SprayShares :
    ((([(0, 3), (16383, 1)] : List (Nat × Nat)).map (·.1)).Nodup) ∧ (∀ e, e ∈ ([(0, 3), (16383, 1)] : List (Nat × Nat)) → e.1 < 16384 ∧ 0 < e.2) ∧
    (∀ e, e ∈ ([(0, 3), (16383, 1)] : List (Nat × Nat)) → base.credit 1023 e.1 = 0) ∧
    (([(0, 3), (16383, 1)] : List (Nat × Nat)).map (·.2)).foldl (· + ·) 0 < 2 ^ 20 := by decide +kernel

/-- Spray member 16383 is logical port 576, up in fabric mode with spraying agreed. -/
def member : State :=
  ((linkIn lpUp 15 true).setLpFld 576 PEN.TIEIN_STATUS_VALID 1 |>.setLpFld 576 PEN.TIEIN_STATUS_AGREED 3).setEnt spSprayMember 0 16383
    [BitVec.ofNat 48 (2 ^ 47 + 576 * 2 ^ 36 + 255 * 2 ^ 28)]
/-- Context 65535 of tag 5 stands so, and packet 5 of sequence number `seq` and tag 5 waits to be recorded; `late`: LATE_DROP. -/
def restoring (seq : Nat) (y : Restore) (late : Bool := false) : State :=
  let s := (inState Page.spr 4).setEnt spContext 0 65535 [BitVec.ofNat 48 (2 ^ 47 + (if late then 2 ^ 46 else 0) + 5 * 2 ^ 42)]
  { s with restores := [(65535, y)], pkts := [(5, { stage := .restore, shim := some (5 * 65536 + 65535, seq) })] }

theorem witness_SprayAndRestore_record :
    (member.ent spSprayMember 0 16383 ≠ [] ∧ memberLp (member.sprayMember 16383) = 576 ∧ member.present.get 16383 0 = 0 ∧
      member.fld Page.spr SPR.SPR_CTL_REJOIN_MS = base.fld Page.spr SPR.SPR_CTL_REJOIN_MS ∧
      ({ member with time := { member.time with us := 1000000 } } : State).memberReady 16383 = true) ∧
    (let s := restoring 7 {}
     (s.pkt 5).stage = .restore ∧ (s.pkt 5).shim = some (5 * 65536 + 65535, 7) ∧ s.isFirst (s.pkt 5) = true ∧ s.inService Page.spr = true ∧
       (s.pkt 5).dead = false ∧ (s.restore 65535).next < 2 ^ 24 ∧ Word.bit (s.ctxWord 65535) 47 = true ∧
       Word.bits (s.ctxWord 65535) 42 4 = (5 * 65536 + 65535) / 2 ^ 16 ∧ s.waitOver 65535 = false ∧ ctxParcel (s.ctxWord 65535) = 0 ∧
       (s.restore 65535).synced = false ∧ (s.restore 65535).filled = [] ∧ Word.bit (base.ctxWord 65535) 47 = false ∧
       s.powered Page.spr = true ∧ Word.bits (s.ctxWord 65535) 42 4 ≠ 65535 / 2 ^ 16) ∧
    (let y : Restore := { synced := true, next := 2 ^ 24 - 1, filled := [(3, none)], since := some 0 }
     (restoring 0 y).restore 65535 = y ∧ (restoring 0 y).waitOver 65535 = false ∧
       (∀ e, e ∈ y.filled → e.1 ≠ (2 ^ 24 - 1 + 1) % 2 ^ 24) ∧ y.ahead 0 = 1 ∧ y.ahead 2046 = 2047 ∧
       (∀ e, e ∈ y.filled → e.1 ≠ 2046 ∧ e.1 ≠ y.next) ∧ 2 ^ 23 ≤ y.ahead (2 ^ 24 - 2) ∧ y.ahead 2047 = 2048) ∧
    (Word.bit ((restoring 0 {} true).ctxWord 65535) 46 = true ∧ Word.bit ((restoring 0 {}).ctxWord 65535) 46 = false) ∧
    (let y : Restore := { synced := true, next := 5, filled := [(7, some 5)], since := some 0 }
     let s := { restoring 7 y with time := { base.time with us := 1000 } }
     s.waitOver 65535 = true ∧ y.inOrder.head? = some (7, some 5) ∧ 0 < y.ahead 7) := by decide +kernel

theorem witness_SprayAndRestore_tables :
    (base.accepts pf Page.spr SPR.IND_CMD 0 true = true ∧ base.flag Page.spr SPR.IND_STATUS_BUSY = false ∧
      Word.bits (0x60000000FFFF : Word) 45 3 = 3 ∧ Word.bit (0x60000000FFFF : Word) 44 = false ∧ Word.bits (0x60000000FFFF : Word) 0 16 = 65535 ∧
      Word.bits (0x40000000FFFF : Word) 45 3 = 2 ∧ (base.restore 65535).frames.length ≤ 2048 ∧
      Word.bit (0x1000000003FF : Word) 44 = true ∧ Word.bits (0x1000000003FF : Word) 45 3 = 0 ∧ Word.bits (0x300000003FFF : Word) 45 3 = 1) ∧
    (let g : Word := BitVec.ofNat 48 (2 ^ 47 + 16320 * 2 ^ 33 + 64 * 2 ^ 26 + 8 * 2 ^ 10)
     1 ≤ groupCount g ∧ groupCount g ≤ 64 ∧ groupBase g + groupCount g ≤ 16384 ∧ Word.bits g 10 4 ≤ 8 ∧
       0xFFF00 + 2 ^ Word.bits g 10 4 ≤ 2 ^ 20 ∧ groupCount 0 = 0) ∧
    (Word.bits (BitVec.ofNat 48 (2 ^ 28)) 28 8 ≠ 0 ∧ Word.bits (0 : Word) 28 8 = 0 ∧ Word.bit (0x800000000000 : Word) 47 = true ∧
      Word.bit (base.ctxWord 65535) 47 = false) := by decide +kernel

/-- The carving: class-1 pool 15 of 40,960 buffers in island 3 and class-0 pool 0 that falls back to it. -/
def carving : State :=
  let s := inState Page.bpm 2
  let s := (s.setReg Page.bpm BPM.POOL_CFG (BitVec.ofNat 48 (2 ^ 11 + 2 ^ 9)) 15).setReg Page.bpm BPM.POOL_CFG (BitVec.ofNat 48 (2 ^ 11 + 2 ^ 7 + 15 * 8)) 0
  (s.setFld Page.bpm BPM.POOL_EXT_BUFFERS 40960 63).setFld Page.bpm BPM.POOL_EXT_BUFFERS 1000 0

theorem witness_CarvingAndIslands :
    (carving.accepts pf Page.bpm BPM.CARVE_CMD 0 true = true ∧ Word.bit (1 : Word) 0 = true ∧ carving.carveReason = 0 ∧
      (carving.setFld Page.bpm BPM.POOL_EXT_BUFFERS 1 63).carveReason = 0 ∧
      ({ carving with alloc := [(0, true)] } : State).carveReason = 6 ∧ (inState Page.bpm 4 carving).carveReason = 4 ∧
      carving.powered Page.bpm = true) ∧
    (carving.accepts pf Page.bpm BPM.PSET_CMD 0 true = true ∧ Word.bits (0x800000000FFF : Word) 0 12 = 4095 ∧
      Word.bit (0x800000000FFF : Word) 47 = true ∧ Word.bit (0xFFF : Word) 47 = false) ∧
    (base.accepts pf Page.bpm BPM.ISLAND_CTL 0 false = true ∧ base.minSum 4096 ≤ 327680 ∧
      327680 < (base.setPclFld 4095 PCL.PARCEL_CFG_VALID 1 |>.setPclFld 4095 PCL.BUF_QUOTA_MIN_CELLS 327681).minSum 4096) ∧
    (base.powered Page.bpm = true ∧ base.islandServes 3 = true ∧
      Nat.bitAt ((base.setFld Page.bpm BPM.ISLAND_CTL_ENABLE 3).fld Page.bpm BPM.ISLAND_CTL_ENABLE) (3 - 1) = false ∧
      (∀ c, base.alloc.get c false = true → islandOf c ≠ 3) ∧ Tab.wf base.alloc (fun _ => false) = true ∧ base.quarantine = []) ∧
    (({ base with alloc := [(983040, true)] } : State).alloc.get 983040 false = true ∧ islandOf 983040 = 3) := by
  refine ⟨by decide +kernel, by decide +kernel, by decide +kernel, ⟨by decide +kernel, by decide +kernel, by decide +kernel, ?_,
    by decide +kernel, by decide +kernel⟩, by decide +kernel⟩
  have h : base.alloc = [] := by decide +kernel
  intro c hc
  rw [h] at hc
  exact absurd hc (by simp [Tab.get])

/-- A buffer of pool 0 at cell `c` is allocated, and a chain holds it where `held` says so. -/
def buffered (c : Nat) (held : Bool) : State :=
  let s := { base with alloc := [(c, true)] }
  if held then s.setChain 9 { pool := 0, bufs := [c], cells := 4, parcel := some 4095 } else s

theorem witness_BufferFrees :
    (base.bufferOf 1310719 = some (0, 1310716) ∧ base.powered Page.bpm = true ∧ base.alloc.get 1310716 false = false ∧
      base.flag Page.bpm BPM.DFREE_REC_VALID = false ∧ (base.setFlag Page.bpm BPM.DFREE_REC_VALID true).flag Page.bpm BPM.DFREE_REC_VALID = true) ∧
    ((buffered 1310716 true).alloc.get 1310716 false = true ∧ (buffered 1310716 true).chainHolding 1310716 = some 9 ∧
      ((buffered 1310716 true).pool 0).isSome = true ∧ ((buffered 1310716 true).chainOf 9).parcel = some 4095) ∧
    (let s := buffered 1310716 false
     let mine (c : Nat) : Bool := (s.bufferOf c).map (·.1) == some 0
     let held := s.chains.flatMap (fun (e : Nat × Chain) => e.2.bufs)
     ((s.alloc.map (·.1)).filter mine).length ≠ (held.filter mine).length) ∧
    (base.alloc = [] ∧ base.chains = []) ∧
    (let s := { base with quarantine := [81919] }
     81919 ∈ s.quarantine ∧ s.rowBusy 81919 = false ∧
       ({ buffered 1310716 false with quarantine := [81919] } : State).rowBusy 81919 = true) ∧
    (base.accepts pf Page.bpm BPM.ROW_CMD 0 true = true ∧ Word.bit (1 : Word) 0 = true) := by decide +kernel

/-- The traffic manager runs and port 767 is UP in it; packet 5 of 60 bytes stands at admission. -/
def admitting (ps : Nat := 3) (x : Pkt := {}) : State :=
  let s := (inState Page.tmc 4 (inState Page.bpm 4)).setFld (Page.tmw 767) TMW.LP_TM_STATUS_PSTATE ps
  { s with pkts := [(5, { x with stage := .admission, bytes := zeros 60 })], nextPkt := 9 }
/-- A packet for the highest queue of port 767. -/
def toPort : Pkt := { fwdKind := 0, fwdIndex := 767, tc := 15 }

theorem witness_Admission_share :
    (let c := base.charge 0
     let m := base.pclFld 0 PCL.BUF_QUOTA_MIN_CELLS
     c = 0 ∧ max 0 (min ((c : Int) + 1) m - c) ≤ base.reserve ∧ base.shareCheck 0 1 0 = 0 ∧
       (base.setPclFld 0 PCL.BUF_QUOTA_MAX_CELLS 0).shareCheck 0 1 0 = 1 ∧
       ({ base with alloc := [(0, true)] }.setFld Page.bpm BPM.BPM_CFG_ALPHA 0 : State).shareCheck 0 1310000 0 = 2) := by decide +kernel

theorem witness_Admission :
    (let s := admitting 3 toPort
     let x := s.pkt 5
     let n := 16 * 767 + 15
     x.stage = .admission ∧ s.isFirst x = true ∧ s.tmRuns = true ∧ x.stake = none ∧ 0 < s.fld Page.tmc TMC.DESC_STATUS_FREE ∧ 5 < s.nextPkt ∧
       x.kind ≠ 2 ∧ x.fwdKind = 0 ∧ x.fwdIndex = 767 ∧ x.tc = 15 ∧ nodeParcel (s.nodeWord (s.qNode n) 0) = 0 ∧ x.desc = false ∧ x.chain = 0 ∧
       s.flag Page.dtm DTM.LAUNCH_CFG_EN = false ∧ Word.bit (s.qWord n 3) 47 = false ∧ s.ovfEn n = false ∧ (s.queue n).spilling = false ∧
       s.pstate 767 = 3 ∧ s.buffersFor 5 0 60 60 = .fresh 0 4 ∧ s.queueLimit n x 4 4 = .ok ∧ s.shareCheck 0 4 0 = 0 ∧
       (s.setPclFld 0 PCL.BUF_QUOTA_MAX_CELLS 3).shareCheck 0 4 0 = 1 ∧
       (s.setFld Page.tmc TMC.DESC_STATUS_FREE 0).fld Page.tmc TMC.DESC_STATUS_FREE = 0 ∧ (admitting 1 toPort).pstate 767 < 2) ∧
    (let s := (admitting 3 toPort).setFld (Page.tmw 767) TMW.Q_LIMIT_Q_MAX 3 15
     s.queueLimit (16 * 767 + 15) toPort 4 4 = .refused ∧ (s.buffersFor 5 0 60 60).cells 60 = 4) ∧
    (let s := { admitting 3 toPort with alloc := [(0, true)] }.setFld Page.bpm BPM.BPM_CFG_ALPHA 0
     s.pstate 767 = 3) ∧
    (let s := { (admitting 3 toPort).setFld (Page.tmw 767) TMW.Q_LIMIT_Q_MIN 100 15 with carve := { pools := some ⟨1, false, none, [(0, 0), (327680, 0), (655360, 0), (983040, 0)]⟩ :: List.replicate 15 none } }
     s.buffersFor 5 0 60 60 = .exhausted true ∧ s.queueLimit (16 * 767 + 15) toPort ((60 + 255) / 256) 0 = .ok ∧ s.powered Page.bpm = true) ∧
    (((admitting 3 { fwdKind := 1 }).pkt 5).fwdKind = 1 ∧ (admitting 3).replQ.length < 65536) ∧
    (((admitting 3 { fwdKind := 2, fwdIndex := 1023 }).pkt 5).fwdKind = 2 ∧ (inState Page.spr 4 (admitting 3)).inService Page.spr = true ∧
      Word.bit ((admitting 3).entWord spSpray 0 1023 0) 47 = false) := by decide +kernel

/-- Queue 12,287 of port 767, linked, holds packet 5; traverse 23 serves it. -/
def scheduling (ps : Nat := 3) : State :=
  let s := (parsing 23 true (admitting ps)).setLpFld 767 PEN.LP_STATUS_LSTATE lpUp
  { inState (Page.tmw 767) 4 s with queues := [(12287, { ready := [5], cells := 4 })], pkts := [(5, { stage := .queued, queue := 12287 })] }

theorem witness_Scheduling :
    (let s := { admitting 3 { fwdKind := 1, fwdIndex := 16383 } with replQ := [5] }
     s.replQ = 5 :: [] ∧ s.tmRuns = true ∧ Word.bit (s.entWord spGroup 0 16383 0) 47 = false ∧
       (let u := s.setEnt spGroup 0 16383 [BitVec.ofNat 48 (2 ^ 47 + 2 ^ 46 + 131070 * 2 ^ 17 + 2 * 2 ^ 7)]
        Word.bit (u.entWord spGroup 0 16383 0) 47 = true ∧ Word.bits (u.entWord spGroup 0 16383 0) 34 12 = 0)) ∧
    (let s := scheduling
     s.servedBy (767 / 32) = some 23 ∧ s.tmRuns = true ∧ s.inService (Page.tmw 767) = true ∧ s.eligibleQueues 767 = [12287] ∧
       s.shaperOpen (s.qNode 12287) (s.nodeWord (s.qNode 12287) 1) = true ∧ s.headOf 12287 = some 5 ∧ s.tooOld 12287 (s.pkt 5) = false ∧
       s.late 12287 (s.pkt 5) = false ∧ s.shapedLen 767 5 ≤ 17920 ∧ (scheduling 1).eligibleQueues 767 = []) ∧
    (((scheduling).queue 12287).ready.length ≤ (scheduling).pkts.length) ∧
    ((scheduling).powered (Page.tmw 767) = true ∧ ({ scheduling with holdEnds := [(767, 1)] } : State).holdOver 767 = true ∧
      (scheduling).holdOver 767 = false) := by decide +kernel

/-- An indirect command of the traffic manager: target, WRITE and index. -/
def tmcWordOf (tgt : Nat) (write : Bool) (i : Nat) : Word := BitVec.ofNat 48 (tgt * 2 ^ 45 + (if write then 2 ^ 44 else 0) + i)

theorem witness_TrafficSettings :
    (base.accepts pf Page.tmc TMC.IND_CMD 0 true = true ∧ base.flag Page.tmc TMC.IND_STATUS_BUSY = false ∧
      Word.bits (tmcWordOf 4 false 131071) 45 3 = 4 ∧ Word.bits (tmcWordOf 4 false 131071) 0 17 = 131071 ∧ 131071 < tmcSize 4 ∧
      Word.bit (tmcWordOf 4 false 131071) 44 = false ∧ Word.bit (tmcWordOf 0 true 65535) 44 = true ∧ tmcSize 5 ≤ 256 ∧
      Word.bits (tmcWordOf 7 true 0) 45 3 = 7) ∧
    (let w : Word := BitVec.ofNat 48 (2 ^ 47 + 4095 * 2 ^ 35 + 767 * 2 ^ 25)
     nodeLp w < 768 ∧ nodeValid w = true ∧ nodeParcel w = 4095 ∧ base.nodeNamed 65535 = false ∧ base.nodeNamed 767 = true ∧
       nodeLp w = nodeLp (base.nodeWord 767 0) ∧ nodeParcel w ≠ nodeParcel (base.nodeWord 767 0) ∧ shapeRate 0 ≤ 1600000 ∧
       nodeValid (base.nodeWord 65535 0) = false ∧
       (base.setPclFld 4095 PCL.RES_QUOTA_NODES 0).pclFld 4095 PCL.RES_QUOTA_NODES < base.nodesOf 4095 + 1 ∧
       base.nodesOf 4095 < (base.setPclFld 4095 PCL.RES_QUOTA_NODES 1).pclFld 4095 PCL.RES_QUOTA_NODES) ∧
    (base.nodeServes 767 767 = true ∧ base.nodeServes 767 766 = false ∧ (base.queue (12288 + 4095)).busy = false ∧
      nodeParcel (base.nodeWord 767 0) = 0 ∧
      nodeParcel ((base.setEnt spNode 0 767 [BitVec.ofNat 48 (2 ^ 47 + 2 ^ 35 + 767 * 2 ^ 25), 0]).nodeWord 767 0) ≠ 0) ∧
    (base.qValid (12288 + 3071) = true ∧ base.qLp (12288 + 3071) = 6143 / 8 ∧ base.qLp (12288 + 0) ≠ 6143 / 8) ∧
    (base.accepts pf (Page.tmw (12287 / 16)) TMW.Q_CFG (12287 % 16) false = true ∧ (base.queue 12287).busy = false ∧
      ((scheduling).queue 12287).busy = true) ∧
    (base.accepts pf (Page.tmw 767) TMW.PG_CFG 7 false = true ∧ base.powered Page.tmc = true ∧
      Word.bits (keep 0x3FFFFFFFFFF (0x200001 : Word)) 0 21 ≤ Word.bits (keep 0x3FFFFFFFFFF (0x200001 : Word)) 21 21 ∧
      Word.bits (1 : Word) 21 21 < Word.bits (1 : Word) 0 21) := by decide +kernel

/-- HBM in service, every stack trained. -/
def hbmRuns (s : State := base) : State :=
  (List.range 4).foldl (fun (s : State) (h : Nat) => s.setFlag Page.ovm OVM.STACK_STATUS_TRAINED true h) (inState Page.ovm 4 s)
/-- Queue 12,287 spills, its records in these chunks of parcel 0; packet 5 for it stands at admission. -/
def spills (q : Queue) (chunks : Tab Chunk := []) : State :=
  let s := (hbmRuns (admitting 3 toPort)).setPclFld 0 PCL.HBM_QUOTA_MAX_CHUNKS 8
  ({ s with queues := [(12287, q)], hbmChunks := chunks, nextChunk := 9 }).setReg (Page.tmw 767) TMW.Q_OVF 100 15

theorem witness_SpillAndRefill_write :
    (let s := (spills { spilling := true }).setFld Page.ovm OVM.CHUNKS_FREE_FREE 100
     let x := s.pkt 5
     let k := s.chunksNeeded 12287 (recordBytes x)
     x.stage = .admission ∧ (s.queue 12287).spilling = true ∧ k = 1 ∧ s.hbmUse 0 + k ≤ s.pclFld 0 PCL.HBM_QUOTA_MAX_CHUNKS ∧
       (s.queue 12287).chunks.length + k ≤ Word.bits (s.qWord 12287 5) 0 26 ∧ s.stagingRoom (recordBytes x) k = true ∧
       (∀ c, c ∈ (s.queue 12287).chunks → c < s.nextChunk) ∧ (s.queue 12287).chunks.Nodup ∧
       (s.setPclFld 0 PCL.HBM_QUOTA_MAX_CHUNKS 0).pclFld 0 PCL.HBM_QUOTA_MAX_CHUNKS < s.hbmUse 0 + k ∧
       Word.bits ((s.setReg (Page.tmw 767) TMW.Q_OVF 0 15).qWord 12287 5) 0 26 < (s.queue 12287).chunks.length + k ∧
       (s.setFld Page.ovm OVM.CHUNKS_FREE_FREE 0).stagingRoom (recordBytes x) k = false) ∧
    (let s := spills { spilling := true, chunks := [3, 4] } [(3, { queue := 12287, used := 2032, ends := [5] }), (4, { queue := 12287 })]
     s.chunkDue 3 = true ∧ s.chunkDue 5 = false) ∧
    (let s := spills { spilling := true, chunks := [3], opened := true } [(3, { queue := 12287 })]
     let u := { s with time := { s.time with us := 2 } }
     (u.chunkOf 3).queue = 12287 ∧ (u.queue 12287).opened = true ∧ (u.queue 12287).chunks.getLast? = some 3 ∧ (u.chunkOf 3).written = false ∧
       u.hbmUp = true ∧ (u.chunkOf 3).since + 2 ≤ u.time.us) := by decide +kernel

theorem witness_SpillAndRefill_read :
    (let s := spills { spilling := true, chunks := [3, 4], asked := true } [(3, { queue := 12287, ends := [5], written := true }), (4, { queue := 12287 })]
     let x := s.chunkOf 3
     (s.queue 12287).chunks = 3 :: [4] ∧ (s.queue 12287).asked = true ∧ (s.queue 12287).chunks.Nodup ∧ s.refillFill < 4096 ∧ x.written = true ∧
       s.severity Page.ovm OVM.S_PANIC ≠ 3 ∧ s.severity Page.ovm OVM.S_UE ≠ 3 ∧ s.hbmUp = true ∧ x.parcel < 4096 ∧ 5 ∈ x.ends ∧
       x.begins = false ∧ s.powered Page.ovm = true) ∧
    (((spills {}).queue 12287).asked = false ∧ (spills {}).isHalted Page.ovm = false) ∧
    ((hbmRuns).hbmUp = true ∧ base.staleChunk 7 = true ∧ (spills { chunks := [0] }).staleChunk 0 = true) := by decide +kernel

theorem witness_Reservations :
    (effective [1, 2, 3, 4, 5] 15 = [1, 2, 3, 4, 5]) ∧
    ((hbmRuns).accepts pf Page.ovm OVM.RES_CMD 0 true = true ∧ Word.bit (1 : Word) 0 = true ∧
      ((List.range 5).map (fun i => (hbmRuns).fld Page.ovm OVM.RES_RESERVED i)).foldl (· + ·) 0 ≤ (hbmRuns).budget ∧
      (let s := (hbmRuns).setFld Page.ovm OVM.RES_RESERVED (2 ^ 16 - 1) 4
       s.budget < ((List.range 5).map (fun i => s.fld Page.ovm OVM.RES_RESERVED i)).foldl (· + ·) 0)) ∧
    ((hbmRuns).accepts pf Page.ovm OVM.LAYOUT_CMD 0 true = true ∧ (hbmRuns).layoutReason = 0 ∧
      ((hbmRuns).setFld Page.ovm OVM.LAYOUT_DUMP_UNITS 65).layoutReason = 4 ∧ (∀ h, h < 4 → (hbmRuns).stackRetired h = 0)) ∧
    (base.domainUp (24 + 3) = true ∧ (base.setFld Page.pwr PWR.PWR_STATUS_UP 0).domainUp (24 + 3) = false ∧
      (let s := inState Page.ovm 1 ((hbmRuns).setFlag Page.ovm OVM.STACK_STATUS_TRAINED false 3)
       (∀ i, i < 4 → s.domainUp (24 + i) = true ∧ (i ≠ 3 → s.flag Page.ovm OVM.STACK_STATUS_TRAINED i = true)) ∧
         s.fld Page.ovm TB.PAGE_STATE_STATE = 1 ∧ (s.pg Page.ovm).heldH = 0) ∧
      (hbmRuns).flag Page.ovm OVM.STACK_STATUS_TRAINED 3 = true ∧ (hbmRuns).powered Page.ovm = true ∧
      (hbmRuns).thermThresh * 256 < 106 * 256 ∧ (64 : Int) * 256 ≤ ((hbmRuns).thermThresh - 5) * 256) ∧
    (base.postponed.get (255 * 256 + 255) 0 < 8 ∧ 8 ≤ ({ base with postponed := [(65535, 8)] } : State).postponed.get (255 * 256 + 255) 0) ∧
    (base.pcRetired 255 = false ∧ base.isHalted Page.ovm = false ∧ base.powered Page.ovm = true ∧ base.stackRetired (255 / 64) < 8 ∧
      base.stackRetired 0 + base.stackRetired 1 + base.stackRetired 2 + base.stackRetired 3 < 16 ∧
      8 ≤ (base.setFld Page.ovm OVM.STACK_STATUS_RETIRED 8 3).stackRetired (255 / 64)) := by decide +kernel

/-- W set and in service at `w`; datum B enabled. -/
def timed (w : Nat := 5 * nsUnits) : State :=
  let s := ((inState Page.dtm 4).setFlag Page.dtm DTM.DTM_STATUS_W_SET true).setFlag Page.dtm DTM.D_CTL_EN true 1
  { s with time := { s.time with w := w, b := w } }
/-- These changes wait. -/
def changing (l : List (Bool × Nat × DatumChange)) : State := { timed with datums := { changes := l } }

theorem witness_DatumChanges :
    (base.accepts pf Page.dtm DTM.W_CMD 0 true = true ∧ Word.bit (1 : Word) 0 = true ∧ Word.bits (1 : Word) 1 2 = 0 ∧ base.datums.used = false ∧
      base.fld Page.dtm DTM.W_SET_NS_NS < 1000000000 ∧
      datumOf (base.fld Page.dtm DTM.W_LAST_SEC_SECONDS) (base.fld Page.dtm DTM.W_LAST_NS_NS) (base.fld Page.dtm DTM.W_LAST_NS_FRAC) ≤
        datumOf (base.fld Page.dtm DTM.W_SET_SEC_SECONDS) (base.fld Page.dtm DTM.W_SET_NS_NS) (base.fld Page.dtm DTM.W_SET_NS_FRAC) ∧
      base.flag Page.dtm DTM.DTM_STATUS_W_SET = false ∧ ({ base with datums := { used := true } } : State).datums.used = true ∧
      Word.bits (7 : Word) 1 2 = 3 ∧ 1000000000 ≤ (base.setFld Page.dtm DTM.W_SET_NS_NS 1000000000).fld Page.dtm DTM.W_SET_NS_NS ∧
      Word.bits (3 : Word) 1 2 = 1 ∧ base.dOn false = false ∧ Word.bits (5 : Word) 1 2 = 2 ∧ base.dOn true = false) ∧
    (base.accepts pf Page.dtm DTM.D_CMD 1 true = true ∧ base.powered Page.dtm = true ∧
      (base.setFlag Page.dtm DTM.D_STATUS_ARMED true 1).flag Page.dtm DTM.D_STATUS_ARMED 1 = true ∧
      base.fld Page.dtm DTM.STEP_NS_NS 1 < 1000000000 ∧ Word.bit (5 : Word) 0 = true ∧ Word.bit (5 : Word) 1 = false ∧ Word.bit (5 : Word) 2 = true ∧
      Word.bit (3 : Word) 1 = true ∧ (base.setFlag Page.dtm DTM.D_STATUS_ARMED false 0).flag Page.dtm DTM.D_STATUS_ARMED 0 = false ∧
      Word.bit (2 : Word) 0 = false ∧ Word.bit (2 : Word) 1 = true) ∧
    (base.accepts pf Page.dtm DTM.D_ADJ 1 false = true ∧ base.accepts pf Page.dtm DTM.D_RATE 1 false = true ∧
      base.accepts pf Page.dtm DTM.D_CTL 1 false = true ∧ Word.bit (mergeHalf .w64 (base.reg Page.dtm DTM.D_CTL 1) 1) 0 = true ∧
      base.dEnabled true = false ∧ (timed).dEnabled true = true) ∧
    (let due (e : Bool × Nat × DatumChange) : Bool := (changing [e]).due e
     due (true, 0, .set (7 * nsUnits)) = true ∧ due (false, 0, .put true 9) = true ∧ due (false, 0, .step true (-3)) = true ∧
       due (false, 0, .slew 4) = true ∧ due (false, 0, .rate true 1) = true ∧ due (true, 0, .adjust true 1 200) = true ∧
       due (false, 1, .slew 4) = false ∧ 9 < datumSpan ∧ 0 ≤ ((timed).dVal true : Int) + (-3) ∧ ((timed).dVal true : Int) + (-3) < datumSpan) := by
  decide +kernel

/-- The 1PPS input `i` on, its last edge 3.5 s ago and `n` misses found. -/
def pulsed (i n : Nat) : State :=
  let s := (timed).setFlag Page.dtm (if i = 0 then DTM.PPS_IN_CTL_EN0 else DTM.PPS_IN_CTL_EN1) true
  { s with datums := { edges := [(0, n), (0, n)] }, time := { s.time with us := 3500000 } }

theorem witness_SlewAndPulses :
    (base.flag Page.dtm DTM.DTM_STATUS_W_SET = false ∧ (timed).flag Page.dtm DTM.DTM_STATUS_W_SET = true ∧ (timed).followed = none ∧
      (let s := (timed).setFld Page.dtm DTM.W_CTL_FOLLOW 2
       s.followed = some true ∧ s.dOn true = true ∧ s.time.w ≤ s.dVal true ∧ s.dVal true ≤ s.time.w ∧
         s.flag Page.dtm DTM.DTM_STATUS_HOLDOVER = false) ∧
      ((timed).setFld Page.dtm DTM.W_CTL_FOLLOW 1).followed = some false ∧ (timed).dOn false = false) ∧
    (base.accepts pf Page.dtm DTM.DTM_CTL 0 false = true ∧ base.powered Page.dtm = true ∧ Word.bit (1 : Word) 0 = true ∧
      (base.setFlag Page.dtm DTM.DTM_CTL_FREQ_SRC true).flag Page.dtm DTM.DTM_CTL_FREQ_SRC = true ∧
      base.flag Page.dtm DTM.DTM_CTL_FREQ_SRC = false) ∧
    (([0, 128] : List Nat).length ≤ 64 ∧ (∀ e, e ∈ [0, 128] → e ≤ 128) ∧ ∃ e ∈ [0, 129], 128 < e) ∧
    (base.accepts pf Page.dtm DTM.TIME_SNAP 0 true = true ∧ (timed).wOn = true ∧ base.wOn = false ∧ (timed).dOn true = true) ∧
    ((pulsed 1 0).ppsInEn 1 = true ∧ base.ppsInEn 1 = false ∧ (pulsed 1 0).datums.edges.length = 2 ∧ (pulsed 1 0).datums.edges[1]? = some (0, 0) ∧
      0 + 1500000 ≤ (pulsed 1 0).time.us ∧ (pulsed 0 2).datums.edges[0]? = some (0, 1 + 1) ∧
      0 + 1500000 + (1 + 1) * 1000000 ≤ (pulsed 0 2).time.us ∧ (pulsed 0 2).powered Page.dtm = true) ∧
    (let s := ((timed (3 * 1000000000 * nsUnits)).setFlag Page.dtm DTM.PPS_OUT_CTL_EN1 true).setFld Page.dtm DTM.PPS_OUT_CTL_SEL1 2
     s.flag Page.dtm DTM.PPS_OUT_CTL_EN1 = true ∧ s.selectedOn 2 = true ∧
       (s.selected 2 + s.fld Page.dtm DTM.PPS_OUT_CTL_ADV_NS * nsUnits) % (1000000000 * nsUnits) < usUnits ∧
       s.datums.rose.getD 1 0 ≠ s.time.us + 1 ∧ s.selectedOn 1 = false) := by decide +kernel

theorem witness_CountersAndMeters_address : ¬ wrapShown (slotAddr (Page.pen 191) PEN.C_RX_PAUSE 3) := by
  rintro (h | ⟨p, i, hp, hq, hi, h | h⟩)
  · exact absurd h (by decide)
  · simp only [slotAddr, Page.pen] at h
    omega
  · simp only [slotAddr, Page.pen] at h
    omega

theorem witness_CountersAndMeters :
    (Tab.sorted (base.setEnt spSurvey 0 4095 [0x800000000000]).ents = true ∧
      surveyHit ((base.setEnt spSurvey 0 4095 [0x800000000000]).ent spSurvey 0 4095) 0 {} = true ∧ surveyHit (base.ent spSurvey 0 0) 0 {} = false) ∧
    (let s := { (timed 0) with meters := [(1535, { now := 7, whole := true }), (1534, { now := 7 })] }
     s.works Page.tel = true ∧ s.atWindow = true ∧ (s.meters.get 1535 dflt.meter).whole = true ∧ (s.meters.get 1535 dflt.meter).shut ≠ s.time.us + 1 ∧
       (s.meters.get 1534 dflt.meter).whole = false ∧ (s.meters.get 1534 dflt.meter).shut ≠ s.time.us + 1) ∧
    (base.accepts pf Page.tel TEL.METER_CFG 0 false = true ∧ base.accepts pf Page.svc SVC.IND_CMD 0 true = true ∧
      base.flag Page.svc SVC.IND_STATUS_BUSY = false ∧ Word.bits (0x800000000FFF : Word) 0 12 = 4095 ∧ Word.bit (0x800000000FFF : Word) 47 = true ∧
      Word.bit (0xFFF : Word) 47 = false) ∧
    (let ev (n : Nat) (valid : Bool) : State := base.setReg Page.svc SVC.IND_DATA (BitVec.ofNat 48 (n * 2 ^ 29 + if valid then 2 ^ 47 else 0)) 0
     Word.bits ((ev 25 false).reg Page.svc SVC.IND_DATA 0) 29 6 = 25 ∧ Word.bit ((ev 25 false).reg Page.svc SVC.IND_DATA 0) 47 = false ∧
       26 ≤ Word.bits ((ev 26 false).reg Page.svc SVC.IND_DATA 0) 29 6 ∧ Word.bit ((ev 25 true).reg Page.svc SVC.IND_DATA 0) 47 = true ∧
       ((ev 25 true).setPclFld 0 PCL.RES_QUOTA_COUNTERS 0).pclFld 0 PCL.RES_QUOTA_COUNTERS <
         ((ev 25 true).setPclFld 0 PCL.RES_QUOTA_COUNTERS 0).surveysOf 0 4095 + 1) ∧
    (base.accepts pf Page.svc SVC.WRAP_ADDR 0 false = true ∧ base.accepts pf Page.svc SVC.WRAP_MAP 0 false = true ∧ base.ents = []) ∧
    (base.accepts pf (Page.trc 24) TRC.STAKE_CFG 0 false = true) ∧
    (let s := inState (Page.trc 24) 4 (base.setFlag (Page.trc 24) TRC.STAKE_CFG_EN true)
     s.flag (Page.trc 24) TRC.STAKE_CFG_EN = true ∧ s.works (Page.trc 24) = true ∧ (s.takeStakeToken 0).isSome = true ∧
       (s.setBuckets 0 { fresh := false }).takeStakeToken 0 = none ∧
       (let u := { s with lfsrs := [(24, 2 ^ 29)] }
        lfsrNext (u.lfsr 24) % 2 ^ stakeK (u.fld (Page.trc 24) TRC.STAKE_CFG_K) = 0)) := by decide +kernel

/-- The telemetry engine and the dump engine work; a record of key 77 waits to be written back. -/
def writing (backed : Bool) (store : Tab Flow := []) : State :=
  let s := (hbmRuns).setFlag Page.tel TEL.FLOW_CFG_BACKING backed
  { s with flowBack := [{ valid := true, key := 77, pkts := 1 }], flowStore := store, flowUnits := 1 }
/-- Export ring 7 of stream 0, enabled, one entry short of full where `full` says so, with a record waiting. -/
def exporting (full ovw : Bool) : State :=
  let s := ((base.setFlag Page.dmp DMP.XCFG_ENABLE true 7).setFlag Page.dmp DMP.XCFG_OVERWRITE ovw 7).setFld Page.dmp DMP.XCONS_INDEX
    (if full then 1 else 0) 7
  { s with exports := [(0, zeros 128)], xphase := List.replicate 8 true }

theorem witness_FlowsAndDumps_flows :
    (let s := writing true
     s.flowBack = { valid := true, key := 77, pkts := 1 } :: [] ∧ s.works Page.tel = true ∧ s.flowBacked = true ∧
       (s.flowStore.get (s.flowSlot 77) dflt.flow).valid = false) ∧
    (let s := writing true [((writing true).flowSlot 77, { valid := true, key := 77, pkts := 2 })]
     (s.flowStore.get (s.flowSlot 77) dflt.flow).valid = true ∧ (s.flowStore.get (s.flowSlot 77) dflt.flow).key = 77) ∧
    ((writing false).flowBacked = false ∧ (writing false).works Page.dmp = true ∧ (writing false).flows = [] ∧ (writing false).flowStore = []) ∧
    ((timed).works Page.tel = true ∧ (timed).wOn = true ∧ base.wOn = false ∧
      (let s : State := { timed (10 ^ 12 * nsUnits) with flows := [(0, { valid := true, key := 77, first := 0, last := 0 })] }
       s.sweepFlags { valid := true, key := 77, first := 0, last := 0 } ≠ none ∧
         s.sweepFlags { valid := true, key := 77, first := 10 ^ 12 * nsUnits, last := 10 ^ 12 * nsUnits } = none)) ∧
    (let s := exporting false false
     s.works Page.dmp = true ∧ s.exports = (0, zeros 128) :: [] ∧ s.xringOn 7 = true ∧ s.xringReady 7 = true ∧ s.fld Page.dmp DMP.XCFG_STREAM 7 = 0 ∧
       s.fld Page.dmp DMP.XCFG_SIZE 7 ≤ 9 ∧ s.xphase.length = 8 ∧ s.xringFull 7 = false) ∧
    ((exporting true false).xringFull 7 = true ∧ (exporting true false).flag Page.dmp DMP.XCFG_OVERWRITE 7 = false ∧
      (exporting true true).flag Page.dmp DMP.XCFG_OVERWRITE 7 = true) ∧
    ({ base with traces := [(24, [zeros 256])] } : State).traces.get 24 [] = zeros 256 :: [] ∧
    base.accepts pf Page.dmp DMP.XCONS 7 false = true := by decide +kernel

theorem witness_FlowsAndDumps_dumps :
    (base.accepts pf Page.dmp DMP.DMP_CMD 0 true = true ∧ Word.bit (1 : Word) 0 = true ∧ base.dump = none ∧
      base.flag Page.dmp DMP.DMP_CFG_DEST = false ∧ (base.setFlag Page.dmp DMP.DMP_CFG_DEST true).flag Page.dmp DMP.DMP_CFG_DEST = true ∧
      base.hbmUp = false) ∧
    (let s := (timed 0).setFlag Page.dmp DMP.DMP_CFG_EN true
     s.works Page.dmp = true ∧ s.flag Page.dmp DMP.DMP_CFG_EN = true ∧ s.dumpDueNow = true ∧ s.dumpAt ≠ s.time.us + 1 ∧
       (s.setFlag Page.dmp DMP.DMP_CFG_CLEAR_WRAP true).flag Page.dmp DMP.DMP_CFG_CLEAR_WRAP = true) ∧
    (let d : Dump := ⟨0, 0, false, 127, [], [7], true⟩
     let s := { hbmRuns with dump := some d, dumpUnits := 1 }
     s.dump = some d ∧ (∀ r ∈ d.rings, r < 8) ∧ s.works Page.dmp = true ∧ s.hbmUp = true ∧ s.dumpUnits ≠ 0 ∧
       s.fld Page.dmp DMP.DMP_STATUS_HBM_NEXT < s.dumpUnits * 16384) ∧
    (base.accepts pf Page.dmp DMP.DMP_CFG 0 false = true ∧ Word.bit (0xC000 : Word) 15 = true ∧ Word.bit (0xC000 : Word) 14 = true ∧
      base.dumpUnits = 0 ∧ Word.bit (0x4000 : Word) 15 = false) := by decide +kernel

theorem witness_FaultsAndTests :
    (Page.kind (Page.oln 575) = some (.oln, 575) ∧ hasSelftest .oln = true ∧ base.accepts pf (Page.oln 575) TB.SELFTEST 0 false = true ∧
      Word.bit (mergeHalf .w64 0 0x101) 0 = true ∧ base.flag (Page.oln 575) TB.SELFTEST_RUN = false ∧
      (base.setFlag (Page.oln 575) TB.SELFTEST_RUN true).flag (Page.oln 575) TB.SELFTEST_RUN = true ∧ testGiven .oln 1 = true ∧
      (laneIn 575 lsTest (ringIn 575 1)).laneTestable 575 = true ∧ Word.bit (mergeHalf .w64 0 0x100) 0 = false) ∧
    (Page.kind Page.bpm = some (.bpm, 0) ∧ laneOfPage .bpm 0 = none ∧ laneOfPage .eln 191 = some 767 ∧
      (base.lane 767).testFails = 0 ∧ ((base.setLane 767 { testFails := 1 }).lane 767).testFails ≠ 0 ∧
      (base.setFld (Page.eln 191) TB.SELFTEST_SELECT 1).fld (Page.eln 191) TB.SELFTEST_SELECT = 1) ∧
    (base.reg Page.bpm TB.EVENT_STATUS = 0 ∧ base.raised Page.bpm 47 = false ∧ (base.record Page.bpm 2).reg Page.bpm TB.EVENT_STATUS ≠ 0 ∧
      (base.record Page.bpm 2).raised Page.bpm 2 = true ∧ (base.pg Page.bpm).log.length < 16 ∧
      16 ≤ ((base.setPg Page.bpm { log := List.replicate 16 0 }).pg Page.bpm).log.length ∧
      base.severity Page.bpm BPM.S_META_MEM_FAIL = 3 ∧ base.severity Page.bpm BPM.S_CARVE_REFUSED < 2 ∧
      (base.setReg Page.bpm TB.EVENT_SEVERITY_LO 2).severity Page.bpm 0 = 2 ∧
      (inState Page.bpm 6).fld Page.bpm TB.PAGE_STATE_STATE ∈ [2, 3, 4, 6] ∧ (inState Page.bpm 1).fld Page.bpm TB.PAGE_STATE_STATE ∉ [2, 3, 4, 6]) := by
  decide +kernel

/-- The device with its always-on part as `x`. -/
def aonIs (x : Aon) (s : State := base) : State := { s with aon := x }

theorem witness_ResetsOfTheDevice :
    ((aonIs { por := true, pwrgood := false }).aon.pwrgood = false ∧ (31 : Fin 32).val ≠ 0 ∧ (0 : Fin 32).val = 0) ∧
    (let s := aonIs { por := true }
     s.aon.por = true ∧ s.aon.pwrgood = true ∧ s.aon.tripped = false ∧ base.aon.por = false ∧
       (aonIs { por := true, tripped := true }).aon.tripped = true) ∧
    (base.aon.started = false ∧ base.aon.loadDue = true ∧ (∀ d, d < 24 → base.domainUp d = true) ∧
      (aonIs { started := true }).aon.started = true ∧ State.reset.domainOn 23 = true ∧ State.reset.domainUp 23 = false) ∧
    (base.accepts pf Page.dev DEV.DEV_RESET 0 true = true ∧ Word.bits (0x5A5A00000001 : Word) 32 16 = 0x5A5A ∧
      Word.bit (0x5A5A00000001 : Word) 0 = true ∧ base.lifeBusy = false ∧ Word.bits (1 : Word) 32 16 ≠ 0x5A5A ∧
      Word.bit (0x5A5A00000000 : Word) 0 = false) ∧
    (base.flag (Page.lsq 0) LSQ.IMG_STATUS_BUSY = false ∧
      (base.setFlag (Page.lsq 0) LSQ.IMG_STATUS_BUSY true).flag (Page.lsq 0) LSQ.IMG_STATUS_BUSY = true) ∧
    (let s := aonIs { holdEnd := 0 } State.reset
     s.flag Page.dev DEV.DEV_STATUS_HOLD = true ∧ s.aon.por = false ∧ s.aon.holdEnd ≤ s.time.us) := by decide +kernel

theorem witness_DomainsAndClocks :
    (base.accepts pf Page.pwr PWR.PWR_CTL 0 false = true) ∧
    (let s := aonIs { queue := [(29, true)] } (base.setFld Page.pwr PWR.PWR_STATUS_UP 1)
     s.aon.queue = (29, true) :: [] ∧ s.aon.run = none ∧ s.domainUp 29 = false ∧ s.aon.lastOn = 0 ∧ base.domainUp 29 = true ∧
       (aonIs { lastOn := 5 }).time.us < (aonIs { lastOn := 5 }).aon.lastOn - 1 + 5000) ∧
    ((aonIs { run := some (29, 7) }).aon.run = some (29, 7)) ∧
    (let s := aonIs { queue := [(28, false)] } (base.setFld (Page.trv 24) TRV.TRV_STATUS_ROLE roleClearing)
     s.aon.queue = (28, false) :: [] ∧ s.role 24 = roleClearing ∧ (inState Page.ovm 4).fld Page.ovm TB.PAGE_STATE_STATE = 4 ∧
       base.refuseOff 29 = false ∧ Page.domain (Page.oen 17) = some 17) ∧
    ((base.setFld Page.clk CLK.CLK_STATUS_REF_IN_USE 4).refInUse = 4 ∧ base.refInUse ≠ 4 ∧
      (let s := ((base.setFld Page.clk CLK.CLK_STATUS_REF_IN_USE 7).setFlag Page.clk CLK.CLK_CTL_AUTO true).setFld Page.clk CLK.CLK_STATUS_REF_OK 16
       s.refInUse = 7 ∧ s.flag Page.clk CLK.CLK_CTL_AUTO = true ∧ s.refOk 4 = true ∧ ∀ j, j < 4 → s.refOk j = false)) ∧
    (base.accepts pf Page.clk CLK.CLK_CTL 0 false = true ∧ Word.bits (mergeHalf .w64 (base.reg Page.clk CLK.CLK_CTL) 4) 0 3 ≤ 4 ∧
      (base.setFld Page.clk CLK.CLK_STATUS_REF_OK 16).refOk 4 = true ∧ (base.setFld Page.clk CLK.CLK_STATUS_REF_OK 0).refOk 4 = false) := by
  decide +kernel

/-- DEVICE_STATE `st`, busy where `b` says so. -/
def lifeIn (st : Nat) (b : Bool := false) (s : State := base) : State :=
  (s.setFld Page.dev DEV.LIFE_STATE_STATE st).setFlag Page.dev DEV.LIFE_STATE_BUSY b
/-- An armed request. -/
def armedAt (st : Nat) : State := lifeIn st false (aonIs { armed := some 5 })
/-- A device with these OTP slots. -/
def otpOf (l : List (Nat × Nat)) (s : State := base) : State := { s with otp := { s.otp with slots := l } }
/-- The slots of a device whose last transition, from SEALED, has an intent but no commit. -/
def cutShort : List (Nat × Nat) :=
  [(intentWord 0, 2 ^ 64 - 1), (intentWord 1, 2 ^ 64 - 1), (intentWord 2, 0), (0, 0), (0, 0), (0, 0), (0, 0), (0, 0)]

theorem witness_LifeCycle :
    (base.accepts pf Page.dev DEV.LIFE_CMD 0 true = true ∧ base.lifeBusy = false ∧ Word.bit (8 : Word) 3 = true ∧ (lifeIn 2 true).lifeBusy = true ∧
      Word.bit (3 : Word) 3 = false ∧ Word.bits (3 : Word) 0 3 = 3) ∧
    (Word.bits (7 : Word) 0 3 ≠ 2 + 1 ∧ (lifeIn 0).fld Page.dev DEV.LIFE_STATE_STATE = 0 ∧ (lifeIn 2).fld Page.dev DEV.LIFE_STATE_STATE = 2 ∧
      (lifeIn 2).lifeArmed = false ∧ (armedAt 2).lifeArmed = true ∧ (armedAt 3).fld Page.dev DEV.LIFE_STATE_STATE = 3 ∧
      8 ≤ nextSlot (otpOf (List.replicate 8 (1, 0)) (armedAt 2)).otp.slots ∧
      nextSlot (armedAt 2).otp.slots = 2 ∧ (armedAt 2).otp.slots.length = 8) ∧
    ((armedAt 2).aon.armed = some 5 ∧ (armedAt 2).time.us < 5 ∧ ({ armedAt 2 with time := { us := 5 } } : State).time.us = 5) ∧
    (let s := otpOf cutShort (lifeIn 2 true)
     s.lifeBusy = true ∧ s.fld Page.dev DEV.LIFE_STATE_STATE = 2 ∧ 2 + 1 = nextSlot s.otp.slots) ∧
    (readSlots base.otp.slots = (2, 2) ∧ (∀ k, k < 6 → slotUsed (base.otp.slots.getD (2 + k) (0, 0)) = false) ∧
      readSlots cutShort = (2, 2) ∧ 2 < cutShort.length ∧ Machine.intentOk 2 (cutShort.getD 2 (0, 0)).1 = true ∧
      (let l := cutShort.set 2 (1, 0)
       readSlots l = (2, 2) ∧ slotUsed (l.getD 2 (0, 0)) = true ∧ ∀ k, k < 6 → Machine.intentOk 2 (l.getD (2 + k) (0, 0)).1 = false)) ∧
    (base.accepts pf Page.dev DEV.OTP_CMD 0 true = true ∧ Word.bits (0x400000000003 : Word) 46 2 = 1 ∧ Word.bits (0x400000000003 : Word) 0 7 = 3 ∧
      Word.bits (0x800000000040 : Word) 46 2 = 2 ∧ Word.bits (0x800000000040 : Word) 0 7 = 64 ∧ (lifeIn 1).fld Page.dev DEV.LIFE_STATE_STATE = 1 ∧
      (let s := lifeIn 2
       s.activeImage = none ∧ setBitN (s.fld Page.dev DEV.OTP_SEC_REVOKED) 3 true ≠ 15 ∧
         setBitN ((s.setFld Page.dev DEV.OTP_SEC_REVOKED 7).fld Page.dev DEV.OTP_SEC_REVOKED) 3 true = 15 ∧
         (let u := { (s.setFlag (Page.lsq 0) LSQ.IMG_STATUS_VERIFIED true) with bank0 := { s.bank0 with key := 3, svn := 64 }, bank1 := { s.bank1 with key := 3, svn := 64 } }
          u.activeImage.any (fun im => im.key == 3) = true ∧ ¬ (64 ≤ u.fld Page.dev DEV.OTP_SEC_MIN_SVN) ∧
            u.activeImage.all (fun im => decide (im.svn < 64)) = false))) ∧
    (base.aon.por = false ∧ base.otp.keyEnabled = true ∧ base.otp.keyDestroyed = false ∧
      ({ base with otp := { base.otp with keyDestroyed := true } } : State).otp.keyDestroyed = true) := by decide +kernel

/-- Flash FA of 2^29 bytes fitted. -/
def fitted : State := (base.setFld Page.fls FLS.FLS_STATUS_FA 1).setFld Page.fls FLS.FLS_STATUS_FA_LOG 29
/-- A flash command: operation, device, length and address. -/
def flsWordOf (op d len a : Nat) : Word := BitVec.ofNat 48 (op * 2 ^ 45 + d * 2 ^ 44 + len * 2 ^ 38 + a)

theorem witness_FlashAndReport :
    (fitted.accepts pf Page.fls FLS.FLS_CMD 0 true = true ∧ Word.bits (flsWordOf 2 0 48 0x64000) 45 3 = 2 ∧
      Word.bits (flsWordOf 2 0 48 0x64000) 38 6 = 48 ∧ Word.bits (flsWordOf 2 0 48 0x64000) 0 32 = 0x64000 ∧
      fitted.flag Page.fls FLS.FLS_CMD_STATUS_BUSY = false ∧
      (fitted.setFlag Page.fls FLS.FLS_CMD_STATUS_BUSY true).flag Page.fls FLS.FLS_CMD_STATUS_BUSY = true) ∧
    (fitted.flsCode 2 0 48 0x64000 = 0 ∧ fitted.flsCode 1 0 1 (2 ^ 29 - 1) = 0 ∧ fitted.flsCode 3 0 0 (2 ^ 29 - 1) = 0 ∧
      fitted.flsCode 1 0 2 (2 ^ 29 - 1) = 2 ∧ fitted.flsCode 2 0 1 0x63FFF = 3 ∧ fitted.flsCode 2 0 49 0 = 1) ∧
    (fitted.flashStatus 0 = 1 ∧ 2 ^ 23 ≤ fitted.flashSize 0 ∧ (0x40000 ≤ 0x63FFF ∧ 0x63FFF < 0x64000) ∧
      fitted.flag Page.fls FLS.FLS_PROTECT_CAL_HOST = false ∧
      (fitted.setFlag Page.fls FLS.FLS_PROTECT_IMG_WP true).flag Page.fls FLS.FLS_PROTECT_IMG_WP = true) := by decide +kernel

theorem witness_FlashAndReport_done :
    ((aonIs { flashOp := some (true, 1, 0xFFFF, [0, 0xFF]) }).aon.flashOp = some (true, 1, 0xFFFF, [0, 0xFF]) ∧
      (aonIs { flashOp := some (false, 1, 0x1FFF, []) }).aon.flashOp = some (false, 1, 0x1FFF, [])) ∧
    (base.accepts pf Page.dev DEV.REPORT_CMD 0 true = true ∧ base.flag Page.dev DEV.REPORT_STATUS_BUSY = false ∧
      (base.setFlag Page.dev DEV.REPORT_STATUS_BUSY true).flag Page.dev DEV.REPORT_STATUS_BUSY = true) ∧
    ((aonIs { pending := some (zeros 176) }).aon.pending = some (zeros 176) ∧ base.flag Page.dev DEV.LIFE_STATE_KEY_READY = false) := by
  decide +kernel

theorem witness_SensorsAndPins :
    (base.aon.por = false ∧ (aonIs { por := true }).aon.por = true ∧ base.sensorOn 41 = true ∧ base.sensorOn 42 = false) ∧
    (({ base with sensorT := [(41, some 40448)] } : State).sensor 41 = some (158 * 256) ∧ base.sensor 41 = none) ∧
    (({ base with engineT := [(17, 158 * 256)] } : State).engTemp 17 = 158 * 256 ∧ base.domainUp 17 = true ∧
      (base.setFld Page.pwr PWR.PWR_STATUS_UP 1).domainUp 17 = false ∧ Word.bit (base.reg (Page.oen 17) TB.FAULT_CAUSE) OEN.S_ENGINE_HOT = false) ∧
    (let s := (base.setFlag Page.ovm OVM.STACK_STATUS_TRAINED true 3).setFld Page.ovm OVM.STACK_STATUS_TEMP (115 * 256) 3
     s.flag Page.ovm OVM.STACK_STATUS_TRAINED 3 = true ∧ 115 * 256 ≤ signed 16 (s.fld Page.ovm OVM.STACK_STATUS_TEMP 3)) ∧
    (Word.bit (base.reg Page.thm THM.GPIO_IN) 15 = false ∧ Word.bit (base.reg Page.thm THM.GPIO_EDGE) 15 = false ∧
      Word.bit ((base.setReg Page.thm THM.GPIO_EDGE_EN 0x8000).reg Page.thm THM.GPIO_EDGE_EN) 15 = true) := by decide +kernel

theorem witness_TestAccess :
    (base.aon.pwrgood = true ∧ base.scanStops = false ∧ base.aon.por = false ∧ (aonIs { pwrgood := false }).aon.pwrgood = false) ∧
    ((aonIs { tap := 0x0A }).scanStops = true ∧ (aonIs { tap := 0x0A }).lifeBusy = false) ∧
    ((0x03 : BitVec 8).toNat ∉ [0x00, 0x04, 0x05, 0x09, 0x0A] ∧ (0x03 : BitVec 8).toNat < 0x80 ∧ 0x80 ≤ (0xFE : BitVec 8).toNat ∧
      base.fld Page.dev DEV.LIFE_STATE_STATE ∉ [0, 1, 4]) := by decide +kernel

/-! ## What WellFormed refuses: one term for each check -/

/-- Data with `v` in the field from bit `lo`. -/
def put (lo v : Nat) : Word := BitVec.ofNat 48 (v * 2 ^ lo)

theorem test_wf_refuses_addresses :
    (∀ i ∈ ([.registerWrite pf (.bar0 0x8000000) 0, .registerWrite pf (.bar0 4) 0, .registerWrite ⟨0, .hi⟩ (.bar0 8) 0,
        .registerWrite vf (.bar0 0) 0, .regTimeout pf (.pfBar2 0x10000) true, .rcRegisterRead pf (.vfBar0 0), .rcRegisterRead vf (.vfBar2 0x10000),
        .rcRegisterRead ⟨1, .lo⟩ (.vfBar0 4)] : List Instr), i.wf = false) ∧
    (Instr.registerWrite pf (.bar0 0x7FFFFF8) 0).wf = true ∧ (Instr.rcRegisterRead ⟨1, .hi⟩ (.vfBar0 0xFFFC)).wf = true := by decide

theorem test_wf_refuses_pages :
    (∀ i ∈ ([.pageOwnerWrite pf 0x8000 0, .pageLockSet pf 0x8000 0x80, .pageLockSet pf 0 0x90, .pageLockSet pf 0 0, .pageEnableWrite pf 0x8000 0,
        .pageEnableWrite pf 0 0x10, .testReqWrite pf 0x8000 0, .testReqWrite pf 0 0x10, .eventStatusClear pf 0x10001 0, .eventEnableWrite pf 0x8000 0,
        .selftestRun pf 0x8000 0, .selftestComplete 0x8000 .passed 0, .ringTailWrite pf 572 0, .ringTailWrite pf 2048 0,
        .rxRingDelivery 572 [] true, .rxRingDelivery 0 [[]] true, .vfeLogSnap pf 0, .cmdTailWrite pf 0 0] : List Instr), i.wf = false) ∧
    (Instr.pageLockSet pf 0x7FFF 0x80).wf = true ∧ (Instr.ringTailWrite pf 1595 0).wf = true := by decide

theorem test_wf_refuses_operations :
    (∀ i ∈ ([.keyLockAcquire pf 0, .keyLockRelease pf 1, .keyLockBreak pf 1, .scRead pf (put 46 1), .scWrite pf 0, .scDelete pf (put 46 3),
        .saRead pf (put 45 3), .saInstall pf 0, .saDelete pf 0, .saSetNext pf (put 45 7), .flipNow pf 0 0, .flipArm pf 0 1, .flipDisarm pf 0 1,
        .spareTakeover pf 0, .spareReturn pf 0, .dprIndRead pf 0 (put 45 1), .dprIndWrite pf 0 0, .tbcRead pf 0 (put 40 18), .tbcWrite pf 0 0,
        .tbcInsert pf 0 0, .tbcDelete pf 0 0, .tbcSearch pf 0 0, .tbcUpdateAction pf 0 0, .tbcAgeQuery pf 0 0, .tbcAgeTouch pf 0 0,
        .tbcAgeClear pf 0 0, .tbcAgeSweep pf 0 0, .tbcDescRead pf 0 0, .tbcDescWrite pf 0 0, .tbcCountRead pf 0 0, .floodRead pf 0 (put 47 1),
        .floodWrite pf 0 0, .sprIndRead pf (put 44 1), .sprIndWrite pf 0, .psetRead pf (put 47 1), .psetWrite pf 0, .tmcIndRead pf (put 44 1),
        .tmcIndWrite pf 0, .datumStep pf false 2, .datumArm pf true 1, .svcIndRead pf (put 47 1), .svcIndWrite pf 0, .flsRead pf (put 45 2) .done,
        .flsProgram pf 0, .flsErase4k pf 0, .lifeArm pf 0, .lifeTransitionRequest pf 8 true, .otpRevoke pf (put 46 2) true,
        .otpRaiseSvn pf 0 true] : List Instr), i.wf = false) := by decide

/-- No flash device fitted. -/
def noFlash : Restart := { fa := .absent, fb := .absent, wearOk := true }

theorem test_wf_refuses_records :
    (∀ i ∈ ([.moveReq 0 [], .moveAck 0 [], .restoreReq 0 [], .restoreAck 0 [], .tieIn 0 [], .berWindowClose 0 1 0, .patLockLost 0 0 1,
        .dualRailMismatch 0 0 0 (List.replicate 17 0), .bufferFree 0 0 1310720 false, .bufferRowTest 81920 true, .rowReadmit pf 0 [81920],
        .refreshDue 0 256 false, .thermalSample [] [], .factoryInstruction 0x7F noFlash, .factoryInstruction 0xFF noFlash, .hostLinkUp 0 0 4 false, .hostLinkUp 0 7 4 false, .hostLinkUp 0 6 3 false,
        .txDescriptor 572 (zeros 32) [] .ok, .txDescriptor 0 [] [] .ok, .tenantCommandDescriptor 128 0 none, .tenantCommandDescriptor 1 0 (some []),
        .blockReset pf 0x8000 0x10 true, .blockReset pf 0 0 true] : List Instr), i.wf = false) := by
  decide

/-! ## Worked examples of the spec, one step or one operation each; the values expected are the spec's -/

/-- The examples under R18, R25 and R83: pages of OLN174, PEN43, ELN124 and DMQ20. -/
theorem test_page_addresses :
    Page.lane 174 * 0x1000 = 0x006AE000 ∧ Page.pen 43 * 0x1000 = 0x00A2B000 ∧ Page.lane (576 + 124) * 0x1000 = 0x0057C000 ∧
    ringPage 1 82 * 0x1000 = 0x00116000 ∧ ringSlot 82 = 18 ∧ ringFn 1 82 = 128 + 5 := by decide

/-- The example under R68: a read of PEN43.PAGE_ID, whole and by halves. -/
theorem test_page_id :
    (match exec (.rcRegisterRead pf (.bar0 0x00A2B000)) base with | .next t => t.out | _ => []) = [.readData 0 0x00000028002B0100] ∧
    (match exec (.rcRegisterRead ⟨0, .lo⟩ (.bar0 0x00A2B000)) base with | .next t => t.out | _ => []) = [.readData 0 0x002B0100] ∧
    (match exec (.rcRegisterRead ⟨0, .hi⟩ (.bar0 0x00A2B004)) base with | .next t => t.out | _ => []) = [.readData 0 0x00000028] := by
  decide +kernel

/-- The example under R75: HA owns PEN43; a write of HB is discarded and recorded. -/
theorem test_page_owner :
    (match exec (.registerWrite ⟨128, .w64⟩ (.bar0 (0x00A2B000 + PEN.PAUSE_SA.off)) 1)
        ((base.setFlag (Page.hif 1) HIF.LINK_STATUS_LINK_UP true).setFn 128 { mse := true, bme := true } |>.setReg (Page.pen 43) TB.PAGE_OWNER 0) with
      | .next t => decide (t.reg (Page.pen 43) PEN.PAUSE_SA = 0 ∧ t.raised (Page.pen 43) 0 = true ∧
          t.fld (Page.hif 1) HIF.ERR_ADDR_VALID = 1 ∧ t.fld (Page.hif 1) HIF.ERR_ADDR_CAUSE = 0 ∧
          t.fld (Page.hif 1) HIF.ERR_ADDR_FUNCTION = 0x80 ∧ t.fld (Page.hif 1) HIF.ERR_ADDR_WRITE = 1)
      | _ => false) = true := by decide +kernel

/-- The example under R219: TARGET 0x1A3, GROUP 8, MASK 0101 with EF0 and EF1 set; match register 3 replaces the word there. -/
theorem test_branch :
    let s := base.setEfs 0 3
    s.branchTarget 0 0 (0x400000 + 0x1A3 * 2 ^ 12 + 8 * 2 ^ 8 + 5 * 2 ^ 4) 0 = 0x1A31 ∧
    ({ s with stores := { match_ := [0, 0, 0, 0x80025A31] } } : State).redirect 0x1A31 = 0x2012 := by decide +kernel

/-- The example under R335: the member tried first, and the member of a LAG of four. -/
theorem test_ecmp : rotl16 0x9C3E 0 * 6 / 2 ^ 16 = 3 ∧ rotl16 0x9C3E 4 = 0xC3E9 ∧ 0x51A7 * 4 / 2 ^ 16 = 1 := by decide

/-- The example under R353: DECTTL of word 20 from 64, and from 1. -/
theorem test_decttl :
    let w : Word := 0x445081C0A405
    let run (v : Nat) : Pkt := (base.instruction 5 3 ⟨3, ({} : Pkt).setBits 20 0 16 v, 0, []⟩ w (({} : Pkt).setBits 20 0 16 v)).2
    instrGood w = true ∧ (run 0x4011).bits 20 0 16 = 0x3F11 ∧ (run 0x4011).word 183 = 0 ∧
    (run 0x0111).bits 20 0 16 = 0x0011 ∧ (run 0x0111).disposition = some 5 := by decide +kernel

/-- The example under R445: the picks of weights 2, 1 and 1, and the shim of sequence number 1,000 in context 0x30205. -/
theorem test_spray :
    (base.sprayPicks 17 [(68, 2), (69, 1), (70, 1)] 4).2 = [68, 69, 70, 68] ∧ 0x51A7 * 16 / 2 ^ 16 = 5 ∧
    (shimBytes (some (0x30205, 1000)) false).take 6 = [0x60, 0x30, 0x20, 0x50, 0x00, 0x3E] ∧
    (byteAt (shimBytes (some (0x30205, 1000)) false) 6) / 16 = 8 := by decide +kernel

/-- A POOL_CFG word: class, whether it serves named-last, and its fallback. -/
def poolWord (cl share : Nat) (fb : Option Nat) : Word :=
  BitVec.ofNat 48 (2 ^ 11 + cl * 2 ^ 9 + share * 2 ^ 8 + (match fb with | some p => 2 ^ 7 + p * 8 | none => 0))
/-- The carve of the example under R460, in one island. -/
def carved : State :=
  let s := (((((base.setReg Page.bpm BPM.POOL_CFG (poolWord 0 1 (some 1)) 0).setReg Page.bpm BPM.POOL_CFG (poolWord 1 1 (some 2)) 1).setReg
    Page.bpm BPM.POOL_CFG (poolWord 2 1 none) 2).setReg Page.bpm BPM.POOL_CFG (poolWord 1 0 (some 4)) 3).setReg Page.bpm BPM.POOL_CFG (poolWord 2 0 none) 4)
  [(0, 65536), (1, 32768), (2, 4096), (3, 8192), (4, 2048)].foldl
    (fun (s : State) (e : Nat × Nat) => s.setFld Page.bpm BPM.POOL_EXT_BUFFERS e.2 (4 * e.1)) s
theorem test_carve :
    carved.carveReason = 0 ∧ (carved.layIsland 0).1.take 5 = [(0, 65536), (65536, 32768), (196608, 4096), (262144, 8192), (294912, 2048)] ∧
    (carved.layIsland 0).2 = 327680 ∧ bandOf 1496 = 2 := by decide +kernel

/-- The example under R493: chance 0.125 at 6,000 cells, none at 1,504. -/
theorem test_ecn :
    let w : Word := BitVec.ofNat 48 (2 ^ 47 + 250 * 2 ^ 28 + 1250 * 2 ^ 10 + 64 * 4)
    ecnChance w 6000 = 8192 ∧ ecnChance w 1504 = 0 ∧ ecnChance w 10000 = 65536 := by decide

/-- The example under R514: the overflow area in chunks. -/
theorem test_layout : layoutChunks 64 64 16 = 40792064 := by decide

/-- The example under R530: effective reservations as the budget falls. -/
theorem test_shed :
    let l := [18000, 18000, 7500, 2200, 800]
    effective l 47185 = l ∧ effective l 46006 = [18000, 18000, 7500, 1837, 668] ∧ effective l 45831 = [18000, 18000, 7500, 1709, 621] ∧
    effective l 43425 = [18000, 18000, 7425, 0, 0] := by decide

/-- The example under R557: SEC_LO 0x4241 at W = 1,000,000 s and 500 ns. -/
theorem test_launch :
    launchOf ((1000000 * 1000000000 + 500) * nsUnits) (BitVec.ofNat 48 (2 ^ 47 + 0x4241 * 2 ^ 30)) = 934465 * 1000000000 * (nsUnits : Int) := by
  decide +kernel

/-- The example under R594: the blocks of a dump of all seven sections. -/
theorem test_dump_blocks : (List.range 7).map (fun k => (dumpBlocks (2 ^ k)).length) = [98, 5, 7, 261, 9, 139, 10] := by decide +kernel

/-- The example under R612: the record of source 3, DEGRADE. -/
theorem test_event_record : eventRecord 3 2 0xDFDC1C35 = 0x8380DFDC1C35 := by decide

/-- The example under R652: an intent whose check fails counts as absent, one that passes is committed. -/
theorem test_life_slots :
    intentOk 3 (intentWord 3) = true ∧ intentOk 3 (intentWord 3 / 2) = false ∧ nextSlot [(1, 1), (1, 1), (0, 0)] = 2 := by decide +kernel

end Sys2Proof.Tests
end

section
/-!
PROOF. The key lock (09_macsec.md, R299 to R303): what a refused host write leaves alone, and RELEASE.
-/
namespace Sys2Proof.Machine

/-! ## Refused host writes -/

/-- A capture writes ERR_ADDR of the carrying port and nothing else (R691). -/
theorem State.Aside.capture (s : State) (fn cause : Nat) (write : Bool) (off : Nat) :
    s.Aside (s.capture fn cause write off) (fun a => a = slotAddr (Page.hif (portOf fn)) HIF.ERR_ADDR 0) := by
  unfold State.capture
  dsimp only
  split
  · exact State.Aside.refl _ _
  · exact State.Aside.setReg _ _ _ _ _ _ rfl

/-- The record of most refusals: an event, then a capture. -/
theorem State.Aside.raise_capture (s : State) (p : Page) (src fn cause : Nat) (write : Bool) (off : Nat) :
    s.Aside ((s.raise p src).capture fn cause write off) (fun a => a = slotAddr (Page.hif (portOf fn)) HIF.ERR_ADDR 0) :=
  (State.Aside.raise _ _ _ _).trans (State.Aside.capture _ _ _ _ _)

/-- A refused access changes no more than events do, ERR_ADDR of the carrying port, and what the functions show of themselves in
AER (R32, R72, R691, R692). -/
theorem State.refuse_aside (s : State) (r : Req) (a : Nat) (k : Fate) (write : Bool) :
    ∃ x, ({ s with fns := x } : State).Aside (s.refuse r a k write) (fun b => b = slotAddr (Page.hif (portOf r.fn)) HIF.ERR_ADDR 0) := by
  unfold State.refuse
  cases k with
  | ok => exact ⟨s.fns, State.Aside.refl _ _⟩
  | noLink => exact ⟨s.fns, State.Aside.refl _ _⟩
  | unsupported => exact ⟨(s.unaccepted r.fn).fns, State.Aside.refl _ _⟩
  | unmapped => exact ⟨s.fns, State.Aside.raise_capture _ _ _ _ _ _ _⟩
  | noWindow =>
    refine ⟨s.fns, ?_⟩
    dsimp only
    split
    · exact State.Aside.raise_capture _ _ _ _ _ _ _
    · exact State.Aside.raise_capture _ _ _ _ _ _ _
  | off =>
    refine ⟨s.fns, ?_⟩
    dsimp only
    split
    · exact State.Aside.refl _ _
    · exact State.Aside.raise_capture _ _ _ _ _ _ _
  | timeout => exact ⟨s.fns, State.Aside.raise_capture _ _ _ _ _ _ _⟩
  | owner => exact ⟨s.fns, State.Aside.raise_capture _ _ _ _ _ _ _⟩
  | size => exact ⟨s.fns, State.Aside.raise_capture _ _ _ _ _ _ _⟩

/-- A command that ends with a refused write leaves no more than the record of the refusal. -/
theorem State.hostWrite_refused_aside (s : State) (r : Req) (p : Page) (f : Fld) (i : Nat) (marked : Bool) (eff : State → State)
    (h : s.accepts r p f i marked = false) :
    ∃ x, ({ s with fns := x } : State).Aside (s.hostWrite r p f i marked eff).faultPin
      (fun b => b = slotAddr (Page.hif (portOf r.fn)) HIF.ERR_ADDR 0) := by
  rw [State.hostWrite_refused _ _ _ _ _ _ _ h]
  obtain ⟨x, hx⟩ := s.refuse_aside r (slotAddr p f i) (s.fate r (slotAddr p f i) marked) true
  exact ⟨x, hx.trans (State.Aside.faultPin _ _)⟩

/-! ## What a frame keeps of the key lock -/

theorem plain_keyLock : Plain (slotAddr Page.msg MSG.KEY_LOCK 0) := plain_slot _ _ _ (by decide) (by decide) (by decide)

/-- KEY_LOCK is no host port's ERR_ADDR. -/
theorem keyLock_ne_errAddr (h : Nat) : h < 2 → slotAddr Page.msg MSG.KEY_LOCK 0 ≠ slotAddr (Page.hif h) HIF.ERR_ADDR 0 := by
  simp only [slotAddr]
  omega

/-- Staged key material lies outside the registers, so every frame keeps it. -/
theorem State.Aside.staging {s t : State} {q : Nat → Prop} (h : s.Aside t q) : t.staging = s.staging := by
  obtain ⟨⟨_, _, _, _, _, rfl⟩, -⟩ := h
  rfl

/-- A frame that does not name KEY_LOCK keeps its holder. -/
theorem State.Aside.holder {s t : State} {q : Nat → Prop} (h : s.Aside t q) (hq : ¬ q (slotAddr Page.msg MSG.KEY_LOCK 0)) :
    t.holder = s.holder :=
  State.fld_congr s t Page.msg MSG.KEY_LOCK_HOLDER 0 (h.2 _ plain_keyLock hq)

/-! ## RELEASE -/

theorem State.release_of_holds (s : State) (fn : Nat) (h : s.holds fn = true) :
    s.release fn = { s with staging := {} }.setFld Page.msg MSG.KEY_LOCK_HOLDER 0 := if_pos h

theorem State.release_of_not_holds (s : State) (fn : Nat) (h : s.holds fn = false) : s.release fn = s := if_neg (by simp [h])

/-- The holder's RELEASE leaves the lock free. -/
theorem State.holder_release (s : State) (fn : Nat) (h : s.holds fn = true) : (s.release fn).holder = 0 := by
  rw [State.release_of_holds s fn h]
  exact State.fld_setFld_same _ Page.msg MSG.KEY_LOCK_HOLDER 0 0 (by decide)

/-- The holder's RELEASE writes KEY_LOCK alone beside the staged material that it discards. -/
theorem State.release_aside (s : State) (fn : Nat) (h : s.holds fn = true) :
    ({ s with staging := {} } : State).Aside (s.release fn) (fun a => a = slotAddr Page.msg MSG.KEY_LOCK 0) := by
  rw [State.release_of_holds s fn h]
  exact State.Aside.setFld _ _ _ _ _ _ rfl

/-- A write of KEY_LOCK that carries RELEASE alone. -/
theorem execKeyLockRelease_eq (r : Req) (data : Word) (s : State) (acquire : Word.bit data 0 = false) (release : Word.bit data 1 = true)
    (brk : Word.bit data 2 = false) :
    exec (.keyLockRelease r data) s = answer (s.hostWrite r Page.msg MSG.KEY_LOCK 0 true fun s => s.release r.fn) := by
  show answer (s.keyLockWrite r data) = _
  simp [State.keyLockWrite, acquire, release, brk]

/-- Settles O27: RELEASE by the holder, by another function, and by a write that is refused (R301). -/
theorem keyLockRelease : Obligations.KeyLockRelease := by
  unfold Obligations.KeyLockRelease
  intro s r data acquire release brk
  have run := execKeyLockRelease_eq r data s acquire release brk
  refine ⟨fun hacc hold => ⟨_, run, ?_⟩, fun hacc hold => ⟨_, run, ?_⟩, fun hacc => ⟨_, run, ?_⟩⟩
  · have frame := State.Aside.hostWrite r _ _ _ _ (fun s => s.release r.fn) hacc (s.release_aside r.fn hold)
    refine ⟨?_, frame.staging, frame⟩
    calc State.holder _ = (s.release r.fn).holder :=
          State.fld_congr _ _ Page.msg MSG.KEY_LOCK_HOLDER 0 (State.slot_hostWrite _ _ _ _ _ _ _ _ hacc plain_keyLock)
      _ = 0 := s.holder_release r.fn hold
  · refine State.Aside.hostWrite r _ _ _ _ _ hacc ?_
    rw [s.release_of_not_holds r.fn hold]
    exact State.Aside.refl _ _
  · obtain ⟨x, frame⟩ := s.hostWrite_refused_aside r _ _ _ _ (fun s => s.release r.fn) hacc
    have port : portOf r.fn < 2 := Nat.div_lt_of_lt_mul r.fn.isLt
    exact ⟨frame.holder (keyLock_ne_errAddr _ port), frame.staging⟩

end Sys2Proof.Machine
end

section
/-!
PROOF. The bridge mask (11_traverses.md, R387): how a write of one register of BRIDGE_MASK merges, how the words 0 to 167 are counted
over its four registers, and the bound on them.
-/
namespace Sys2Proof.Machine

/-! ## Bits of a word -/

theorem Nat.bitAt_eq_testBit (v k : Nat) : Nat.bitAt v k = v.testBit k := by
  rw [Nat.testBit_eq_decide_div_mod_eq]
  rfl

theorem Word.bit_eq_testBit (v : Word) (k : Nat) : Word.bit v k = v.toNat.testBit k := Nat.bitAt_eq_testBit v.toNat k

/-- A word is its 48 bits. -/
theorem Word.eq_of_bit_eq {v w : Word} (h : ∀ k, k < 48 → Word.bit v k = Word.bit w k) : v = w := by
  refine BitVec.eq_of_getLsbD_eq fun k hk => ?_
  simpa only [Word.bit_eq_testBit, BitVec.testBit_toNat] using h k hk

/-- A bit inside a field, read from the field. -/
theorem Word.testBit_bits (v : Word) (lo w k : Nat) (h : k < w) : (Word.bits v lo w).testBit k = Word.bit v (lo + k) := by
  rw [Word.bits, Nat.testBit_mod_two_pow, Nat.testBit_div_two_pow, Word.bit_eq_testBit, Nat.add_comm k lo]
  simp [h]

/-- A field filled with 1s: its bits read 1, those below it as before. -/
theorem Word.bit_setBits_ones (v : Word) (lo w k : Nat) (h : lo + w ≤ 48) (hk : k < lo + w) :
    Word.bit (Word.setBits v lo w (2 ^ w - 1)) k = (decide (lo ≤ k) || Word.bit v k) := by
  by_cases hlo : lo ≤ k
  · obtain ⟨j, rfl⟩ := Nat.exists_eq_add_of_le hlo
    have hj : j < w := by omega
    have field := Word.bits_setBits_same v lo w (2 ^ w - 1) h
    rw [← Word.testBit_bits _ lo w j hj, field, Nat.testBit_mod_two_pow, Nat.testBit_two_pow_sub_one]
    simp [hj]
  · have below := Word.bits_setBits_below v lo w (2 ^ w - 1) k 1 h (by omega)
    have here (u : Word) : Word.bit u k = (Word.bits u k 1).testBit 0 := (Word.testBit_bits u k 1 0 Nat.one_pos).symm
    rw [here, below, ← here]
    simp [hlo]

/-! ## Counting the bridged words -/

theorem countP_range_add (q : Nat → Bool) (a b : Nat) :
    (List.range (a + b)).countP q = (List.range a).countP q + (List.range b).countP (fun k => q (a + k)) := by
  rw [List.range_add, List.countP_append, List.countP_map]
  rfl

/-- The number of the PHV words 0 to 167 that four mask registers bridge. -/
def bridgedWords (m : Nat → Word) : Nat := ((List.range 168).filter (fun w => Word.bit (m (w / 48)) (w % 48))).length

theorem popcount_eq_countP (n : Nat) (v : Word) : popcount n v.toNat = (List.range n).countP (Word.bit v) :=
  List.countP_eq_length_filter.symm

/-- Bits above those kept count nothing. -/
theorem popcount_mod (a b : Nat) (v : Word) : popcount (a + b) (v.toNat % 2 ^ a) = popcount a v.toNat := by
  have bit (k : Nat) : Nat.bitAt (v.toNat % 2 ^ a) k = (decide (k < a) && Nat.bitAt v.toNat k) := by
    simp only [Nat.bitAt_eq_testBit, Nat.testBit_mod_two_pow]
  unfold popcount
  rw [← List.countP_eq_length_filter, ← List.countP_eq_length_filter, countP_range_add]
  have low : (List.range a).countP (Nat.bitAt (v.toNat % 2 ^ a)) = (List.range a).countP (Nat.bitAt v.toNat) :=
    List.countP_congr fun k hk => by simp [bit, List.mem_range.1 hk]
  have high : (List.range b).countP (fun k => Nat.bitAt (v.toNat % 2 ^ a) (a + k)) = 0 :=
    List.countP_eq_zero.2 fun k _ => by simp [bit, Nat.not_lt.2 (Nat.le_add_right a k)]
  rw [low, high, Nat.add_zero]

/-- The words of one register, at their places among the 168. -/
theorem countP_register (m : Nat → Word) (j n : Nat) (hn : n ≤ 48) :
    (List.range n).countP (fun k => Word.bit (m ((48 * j + k) / 48)) ((48 * j + k) % 48)) = popcount n (m j).toNat := by
  rw [popcount_eq_countP]
  refine List.countP_congr fun k hk => ?_
  have hk' := List.mem_range.1 hk
  rw [show (48 * j + k) / 48 = j by omega, show (48 * j + k) % 48 = k by omega]

/-- Register by register, as the command adds them up: all of the first three, bits 0 to 23 of the fourth. -/
theorem sum_popcount_eq_bridgedWords (m : Nat → Word) :
    ((List.range 4).map (fun j => popcount 48 (if j = 3 then (m j).toNat % 2 ^ 24 else (m j).toNat))).foldl (· + ·) 0 =
      bridgedWords m := by
  have sum : bridgedWords m = popcount 48 (m 0).toNat + popcount 48 (m 1).toNat + popcount 48 (m 2).toNat + popcount 24 (m 3).toNat := by
    rw [bridgedWords, ← List.countP_eq_length_filter, countP_range_add _ 144 24, countP_range_add _ 96 48, countP_range_add _ 48 48,
      ← countP_register m 0 48 (by omega), ← countP_register m 1 48 (by omega), ← countP_register m 2 48 (by omega),
      ← countP_register m 3 24 (by omega)]
    simp
  rw [sum, ← popcount_mod 24 24 (m 3)]
  simp [List.range_succ]

/-! ## BRIDGE_MASK_WRITE -/

/-- What a write of register `i` of BRIDGE_MASK would leave there: the merged halves, with bits [47:24] of register 3 kept 1. -/
def State.bridgeWord (s : State) (r : Req) (t : Fin 25) (i : Fin 4) (data : Word) : Word :=
  let new := mergeHalf r.size (s.reg (Page.trv t) TRV.BRIDGE_MASK i) data
  if i.val = 3 then Word.setBits new 24 24 0xFFFFFF else new

/-- The registers of BRIDGE_MASK of a traverse. -/
def State.bridgeRegs (s : State) (t : Fin 25) (j : Nat) : Word := s.reg (Page.trv t) TRV.BRIDGE_MASK j

/-- The state after the store, whatever the count. -/
def State.bridgeStored (s : State) (r : Req) (t : Fin 25) (i : Fin 4) (data : Word) : State :=
  s.setReg (Page.trv t) TRV.BRIDGE_MASK (s.bridgeWord r t i data) i

/-- The write's effect once it is accepted. -/
def State.bridgeWrite (s : State) (r : Req) (t : Fin 25) (i : Fin 4) (data : Word) : State :=
  if 40 < bridgedWords ((s.bridgeStored r t i data).bridgeRegs t) then s.raise (Page.trv t) TRV.S_BRIDGE_INVALID
  else s.bridgeStored r t i data

theorem execBridgeMaskWrite_eq (r : Req) (t : Fin 25) (i : Fin 4) (data : Word) (s : State) :
    exec (.bridgeMaskWrite r t i data) s =
      answer (s.hostWrite r (Page.trv t) TRV.BRIDGE_MASK i false fun s => s.bridgeWrite r t i data) := by
  simp only [State.bridgeWrite, ← sum_popcount_eq_bridgedWords]
  rfl

theorem State.bit_bridgeWord (s : State) (r : Req) (t : Fin 25) (i : Fin 4) (data : Word) (k : Nat) (hk : k < 48) :
    Word.bit (s.bridgeWord r t i data) k =
      ((i.val == 3 && decide (24 ≤ k)) || Word.bit (mergeHalf r.size (s.reg (Page.trv t) TRV.BRIDGE_MASK i) data) k) := by
  unfold State.bridgeWord
  by_cases hi : i.val = 3
  · rw [if_pos hi]
    simpa [hi] using Word.bit_setBits_ones _ 24 24 k (by omega) hk
  · simp [hi]

/-- The registers after a store to one of them. -/
theorem State.bridgeRegs_setReg (s : State) (t : Fin 25) (w : Word) (i j : Nat) :
    (s.setReg (Page.trv t) TRV.BRIDGE_MASK w i).bridgeRegs t j = if j = i then w else s.bridgeRegs t j := by
  by_cases h : j = i
  · rw [h, if_pos rfl]
    exact State.reg_setReg_same _ _ _ _ _
  · rw [if_neg h]
    exact State.slot_setReg_ne _ _ _ _ _ _ (by simp only [slotAddr]; omega)

theorem plain_bridgeMask (t : Fin 25) (i : Fin 4) : Plain (slotAddr (Page.trv t) TRV.BRIDGE_MASK i) := by
  have plain := plain_elsewhere (Page.trv t) (0x128 + i * 8) (by simp only [Page.trv]; omega) (by omega) (by omega)
    (by simp only [Page.trv]; omega)
  rwa [← Nat.add_assoc] at plain

/-- Of a page whose domain is off only PAGE_OWNER and SCRATCH accept a write (R31). -/
theorem State.powered_of_accepts (s : State) (r : Req) (p : Page) (f : Fld) (i : Nat) (marked : Bool)
    (page : pageOfAddr (slotAddr p f i) = p) (owner : f.off + i * f.st ≠ TB.PAGE_OWNER.off) (scratch : f.off + i * f.st ≠ TB.SCRATCH.off)
    (h : s.accepts r p f i marked = true) : s.powered p = true := by
  have offset : slotAddr p f i - p * 0x1000 = f.off + i * f.st := by simp only [slotAddr]; omega
  cases on : s.powered p with
  | true => rfl
  | false =>
    simp only [State.accepts, State.fate, page, offset, on, beq_false_of_ne owner, beq_false_of_ne scratch, Bool.not_false, Bool.or_false,
      Bool.and_true, Bool.true_or, if_true, beq_iff_eq] at h
    split at h
    · cases h
    · split at h
      · cases h
      · split at h
        · cases h
        · split at h <;> cases h

/-- Settles O35: the words are counted as the write would leave them, and the count decides between the store and the event (R387). -/
theorem bridgeMaskBound : Obligations.BridgeMaskBound := by
  unfold Obligations.BridgeMaskBound
  intro s r t i data new after bits hacc hnew hafter hbits
  have run := execBridgeMaskWrite_eq r t i data s
  have word : s.bridgeWord r t i data = new :=
    Word.eq_of_bit_eq fun k hk => (s.bit_bridgeWord r t i data k hk).trans (hnew k hk).symm
  have stored : s.bridgeStored r t i data = s.setReg (Page.trv t) TRV.BRIDGE_MASK new i := by rw [State.bridgeStored, word]
  have count : bridgedWords ((s.bridgeStored r t i data).bridgeRegs t) = bits := by
    rw [hbits, stored]
    exact congrArg bridgedWords (funext fun j => (s.bridgeRegs_setReg t new i j).trans (hafter j).symm)
  have write : s.bridgeWrite r t i data =
      if 40 < bits then s.raise (Page.trv t) TRV.S_BRIDGE_INVALID else s.setReg (Page.trv t) TRV.BRIDGE_MASK new i := by
    rw [State.bridgeWrite, count, stored]
  refine ⟨fun many => ⟨_, run, ?_, ?_⟩, fun few => ⟨_, run, ?_, ?_⟩⟩
  · have page : pageOfAddr (slotAddr (Page.trv t) TRV.BRIDGE_MASK i) = Page.trv t :=
      pageOfAddr_slotAddr _ _ _ (by simp only [Page.trv]; omega) (by simp only; omega)
    have on : s.powered (Page.trv t) = true :=
      s.powered_of_accepts r _ _ _ _ page (by simp only [ne_eq]; omega) (by simp only [ne_eq]; omega) hacc
    have status := State.slot_hostWrite_quiet s r _ _ _ _ (fun s => s.bridgeWrite r t i data) _ hacc
      (quiet_title (Page.trv t) TB.EVENT_STATUS (by simp only [Page.trv]; omega) (by decide))
    rw [write, if_pos many] at status
    exact (congrArg (Word.bit · TRV.S_BRIDGE_INVALID) status).trans (s.raised_raise _ _ (by decide) on)
  · refine State.Aside.hostWrite r _ _ _ _ _ hacc ?_
    rw [write, if_pos many]
    exact State.Aside.raise _ _ _ _
  · refine (State.slot_hostWrite s r _ _ _ _ _ _ hacc (plain_bridgeMask t i)).trans ?_
    rw [write, if_neg (by omega)]
    exact State.reg_setReg_same _ _ _ _ _
  · refine State.Aside.hostWrite r _ _ _ _ _ hacc ?_
    rw [write, if_neg (by omega)]
    exact State.Aside.setReg _ _ _ _ _ _ rfl

end Sys2Proof.Machine
end
